-- ==== Sys2Proof/Word.lean ====
section
/-! DEFINITION. The word types of the PF40 and their plainest arithmetic: bytes of packets, 32-bit DRAM words,
and the floor, truncate, saturate and clamp of 00_scope.md 3.3. Samples and gains are exact integers (`Int`)
and are narrowed only where the manual narrows them. -/

namespace Sys2Proof

/-- One byte of a packet or record. -/
abbrev Byte := BitVec 8

/-- One word of a sample memory area, and one 32-bit counter. -/
abbrev Word32 := BitVec 32

/-- Floor of a quotient by a positive number (00 3.3). -/
abbrev floorDiv (a : Int) (b : Nat) : Int := a / (b : Int)

/-- Saturate or clamp to a range (00 3.3). -/
def clampInt (lo hi x : Int) : Int := max lo (min hi x)

/-- Clamp an unsigned value to a range. -/
def clampNat (lo hi x : Nat) : Nat := max lo (min hi x)

/-- Internal sample range, -2^31 to 2^31 - 1 (R4). -/
def sat32 (x : Int) : Int := clampInt (-2147483648) 2147483647 x

/-- Port sample range, -2^23 to 2^23 - 1 (R4). -/
def sat24 (x : Int) : Int := clampInt (-8388608) 8388607 x

/-- Product with an unsigned Q15 gain, floored: `floor(x × g / 32768)`. -/
def mulQ15 (x g : Int) : Int := floorDiv (x * g) 32768

end Sys2Proof
end

