-- ==== Sys2Proof/Config.lean ====
section
/-! DEFINITION. What one PF40 fixes (00_scope.md section 5) and the free values: what the manual leaves open.
A free value is an opaque constant without a body; nothing can be proved of the value it gives. -/

namespace Sys2Proof.Config

/-- Samples of one audio frame (R1). -/
def frameLen : Nat := 32
/-- Cost budget, units per frame (R17). -/
def budget : Nat := 1000
/-- Sample memory areas (R42). -/
def areaCount : Nat := 32
/-- Words of one area (R42). -/
def areaWords : Nat := 262144
/-- Cabinet image slots (R47). -/
def imageSlots : Nat := 16
/-- Library places (R71). -/
def presetCount : Nat := 128
/-- Q15 unity gain. -/
def unity : Int := 32768

/-- FREE VALUE (log 7): the wet output of the REVERB network, one internal sample for each draw. The manual gives the
network in outline only (R15). -/
opaque reverbWet : Nat → Word32

/-- FREE VALUE (log 8): whether the CHORUS tap position, whose exact value is `num / den` in 1/256 sample, is rounded up
when it is no whole number; R12 holds it with 8 fraction bits and gives no rounding. -/
opaque chorusTapUp : Nat → Nat → Bool

/-- FREE VALUE (log 8): whether the CHORUS interpolation, whose exact value is `num / 256`, is rounded up when it is no
whole number; R12 gives no rounding. -/
opaque chorusSampleUp : Int → Bool

/-- FREE VALUE (log 9): the numerator of the EXTERNAL beat fraction when samples since the last beat exceed the beat
length `b`; R140 says only that the fraction is held below 1. Its user reduces it modulo `b`. -/
opaque heldFraction : Nat → Nat → Nat

/-- FREE VALUE (log 6): the milliseconds left of the guard window, one value for each report; the model has no clock for
it. Its user keeps it within the time loaded (R95, R116). -/
opaque guardLeft : Nat → Nat

/-- FREE VALUE (log 21): the two bytes that report a cue countdown too large for two bytes (12.4). -/
opaque wideCountdown : Nat → Nat

end Sys2Proof.Config
end

