-- ==== Sys2Proof/Syntax.lean ====
section
/-! DEFINITION. The commands of the PF40: one constructor of `Instr` for each row of spec/opcode_table.json, in the
table's order, and the small named sets their operands and the state use. A link request carries the fields of its
payload as 12.7 lays them out, unchecked: the owning block makes the range checks of its chapter. -/

namespace Sys2Proof

/-- Slot types (R5), in the order of their record codes (12.5). -/
inductive SlotType
  | gate | comp | amp | cab | eq | mod | delay | reverb | loop | volume
  deriving DecidableEq, Repr

/-- Length classes (R5): DELAY SHORT or LONG, CAB 256, 512 or 1024 taps, `plain` for other types. -/
inductive LengthClass
  | plain | short | long | taps256 | taps512 | taps1024
  deriving DecidableEq, Repr

/-- Tail policy (R5). -/
inductive TailPolicy
  | cut | keep
  deriving DecidableEq, Repr

/-- Notice kinds in the order of R182. -/
inductive NoticeKind
  | scene | switchOutcome | tuner | beat | cue | satellite | store | area | stash | clock | panic
  deriving DecidableEq, Repr

/-- The form of a received request packet (R172 check 6 and the owners' "any other item" refusals): the payload has the
layout of its kind; its length is wrong; or its item, operation, field or form byte is none of those listed. -/
inductive Form
  | exact | badLength | badItem
  deriving DecidableEq, Repr

/-- The envelope of a received request: the link it arrived on and its form. -/
structure Pkt where
  link : Fin 4
  form : Form := .exact
  deriving DecidableEq, Repr

/-- The 32 port samples of each captured channel of one frame, 24-bit signed (00 1.3, R4). -/
structure Captured where
  inA  : List Int
  inB  : List Int
  retL : List Int
  retR : List Int
  deriving DecidableEq, Repr

/-- Where a cross-fade runs: a live position or a tail lane (R14, R21). -/
inductive Place
  | live (pos : Nat)
  | lane (l : Fin 4)
  deriving DecidableEq, Repr

/-- The fields of a target as a packet carries them (12.7): kind, position or satellite, index or register. -/
structure RawTarget where
  kind : Nat
  a    : Nat
  b    : Nat
  deriving DecidableEq, Repr

/-- A control map entry as MAP_EDIT carries it (12.5); points as unsigned 16-bit fields. -/
structure RawEntry where
  source : Nat
  target : RawTarget
  points : List Nat
  deriving DecidableEq, Repr

/-- A seat entry as SEAT_SET carries it (12.7). -/
structure RawSeat where
  tier       : Nat
  precedence : Nat
  rate       : Nat
  quiet      : Nat
  mask       : Nat
  deriving DecidableEq, Repr

/-- The commands, one for each row of the table. -/
inductive Instr
  /-- POWER_ON (R189). -/
  | powerOn
  /-- RESET_ASSERT (R189): RESET_N has been low for `lowUs` microseconds. -/
  | resetAssert (lowUs : Nat)
  /-- RESET_RELEASE (R189). -/
  | resetRelease
  /-- RESTART_ENTRY (R180). -/
  | restartEntry
  /-- SETUP_READ_COMPLETION (R190). -/
  | setupReadCompletion
  /-- IMAGE_COPY_COMPLETION (R56). -/
  | imageCopyCompletion
  /-- START_PRESET_READ_COMPLETION (R114). -/
  | startPresetReadCompletion
  /-- FRAME_BOUNDARY (R1), with the samples captured during the frame that ends. -/
  | frameBoundary (c : Captured)
  /-- GATE_CLOSED (R8). -/
  | gateClosed (pos : Nat)
  /-- BYPASS_WEIGHT_ZERO (R7). -/
  | bypassWeightZero (pos : Nat)
  /-- RESOLVE_FADE_END (R10). -/
  | resolveFadeEnd (pos : Nat)
  /-- CROSS_FADE_END (R14). -/
  | crossFadeEnd (place : Place)
  /-- TAIL_TIMER_EXPIRY (R22). -/
  | tailTimerExpiry (l : Fin 4)
  /-- LANE_QUIET (R22). -/
  | laneQuiet (l : Fin 4)
  /-- CUT_FADE_END (R23). -/
  | cutFadeEnd (l : Fin 4)
  /-- CHAIN_GAIN_AT_REST (R104). -/
  | chainGainAtRest
  /-- WATCHDOG_EXPIRY (R192). -/
  | watchdogExpiry
  /-- CLOCK_RETURNED (R193). -/
  | clockReturned
  /-- FILL_COMPLETION (R44). -/
  | fillCompletion (area : Fin 32)
  /-- LAPSE_TIMER_EXPIRY (R53), of the upload of a link. -/
  | lapseTimerExpiry (link : Fin 4)
  /-- LINE_JOIN (R43). -/
  | lineJoin
  /-- STORE_READ_START (R73). -/
  | storeReadStart
  /-- PRESET_READ_COMPLETION (R99). -/
  | presetReadCompletion
  /-- PRESET_STORE_COMPLETION (R75). -/
  | presetStoreCompletion
  /-- PRESET_ERASE_COMPLETION (R76). -/
  | presetEraseCompletion
  /-- IMAGE_STORE_COMPLETION (R52). -/
  | imageStoreCompletion
  /-- SETUP_STORE_COMPLETION (R188). -/
  | setupStoreCompletion
  /-- DEFERRED_LANE_MOVE (R104). -/
  | deferredLaneMove
  /-- SWAP (R106). -/
  | swap
  /-- SWITCH_PROMOTION (R98). -/
  | switchPromotion
  /-- GUARD_TIMER_EXPIRY (R95). -/
  | guardTimerExpiry
  /-- NO_SIGNAL_TIMER_EXPIRY (R126). -/
  | noSignalTimerExpiry
  /-- PUBLICATION_TIMER_EXPIRY (R129). -/
  | publicationTimerExpiry
  /-- BEAT_EVENT (R139). -/
  | beatEvent
  /-- TCLK_PULSE (R136). -/
  | tclkPulse
  /-- PULSE_TIMER_EXPIRY (R137). -/
  | pulseTimerExpiry
  /-- SAT_GRANT (R166). -/
  | satGrant
  /-- WRITE_ANSWERED (R156). -/
  | writeAnswered
  /-- STATUS_WRITE_ANSWERED (R157). -/
  | statusWriteAnswered
  /-- POLL_ANSWERED (R158), with the status byte read. -/
  | pollAnswered (status : Byte)
  /-- PASS_THROUGH_ANSWERED (R165), with the data read (not used by a write). -/
  | passThroughAnswered (data : Byte)
  /-- TRANSACTION_FAILED (R153). -/
  | transactionFailed
  /-- DEFERRED_HIDE (R161). -/
  | deferredHide (sat : Fin 8)
  /-- POLL_TIMER_EXPIRY (R158). -/
  | pollTimerExpiry
  /-- REFRESH_TIMER_EXPIRY (R159). -/
  | refreshTimerExpiry
  /-- LINK_GAP_TIMEOUT (R170): the bytes taken before the gap and those taken after it. -/
  | linkGapTimeout (link : Fin 4) (before after : List Byte)
  /-- FRAMING_ERROR (R170): the bytes taken before the byte with the low stop bit. -/
  | framingError (link : Fin 4) (before : List Byte)
  /-- CHECK_BYTE_FAILURE (R170): the bytes of the packet, check byte last. -/
  | checkByteFailure (link : Fin 4) (bytes : List Byte)
  /-- UNKNOWN_KIND (R195). -/
  | unknownKind (link : Fin 4) (kind : Nat)
  /-- LINK_BREAK (R171). -/
  | linkBreak (link : Fin 4)
  /-- BREAK_LINE_HIGH (R171). -/
  | breakLineHigh (link : Fin 4)
  /-- TRANSMIT_END (R174). -/
  | transmitEnd (link : Fin 4)
  /-- IDENTIFY (R179). -/
  | identify (p : Pkt)
  /-- GET_STATUS (R179). -/
  | getStatus (p : Pkt)
  /-- LINK_STATUS (R179). -/
  | linkStatus (p : Pkt)
  /-- SUBSCRIBE (R179). -/
  | subscribe (p : Pkt) (mask : Nat)
  /-- AREA_STATUS (R55). -/
  | areaStatus (p : Pkt)
  /-- MAP_STATUS (R68). -/
  | mapStatus (p : Pkt)
  /-- BUFFER_STATUS (R85). -/
  | bufferStatus (p : Pkt)
  /-- SWITCH_STATUS (R116). -/
  | switchStatus (p : Pkt)
  /-- TUNER_STATUS (R130). -/
  | tunerStatus (p : Pkt)
  /-- SHOW_STATUS (R151). -/
  | showStatus (p : Pkt)
  /-- CUE_LIST (R151). -/
  | cueList (p : Pkt) (start : Nat)
  /-- SAT_STATUS (R169); FFh names no satellite. -/
  | satStatus (p : Pkt) (sat : Nat)
  /-- READ_PRESET (R77). -/
  | readPreset (p : Pkt) (preset chunk : Nat)
  /-- READ_BUFFER (R85); source FFh is the edit buffer. -/
  | readBuffer (p : Pkt) (source chunk : Nat)
  /-- SWITCH (R92); flags bit 0 DISCARD, bit 1 EXIT_TUNER, bit 2 RELOAD. -/
  | switch (p : Pkt) (preset scene flags : Nat)
  /-- RECALL (R90). -/
  | recall (p : Pkt) (index flags : Nat)
  /-- DROP_STASH (R91). -/
  | dropStash (p : Pkt) (index : Nat)
  /-- TUNER_MODE (R118). -/
  | tunerMode (p : Pkt) (mode : Nat)
  /-- TUNER_SET_SOURCE (R119). -/
  | tunerSetSource (p : Pkt) (source : Nat)
  /-- TUNER_SET_REFERENCE (R119). -/
  | tunerSetReference (p : Pkt) (tenthsHz : Nat)
  /-- TUNER_SET_HYSTERESIS (R119). -/
  | tunerSetHysteresis (p : Pkt) (exponent : Nat)
  /-- TUNER_SET_READING_KIND (R119). -/
  | tunerSetReadingKind (p : Pkt) (kind set : Nat)
  /-- TUNER_SET_STRING (R119); target note FFh is REMOVE. -/
  | tunerSetString (p : Pkt) (set index note : Nat) (offset : Int)
  /-- TAP (R135). -/
  | tap (p : Pkt)
  /-- CONTROL (R57). -/
  | control (p : Pkt) (source value : Nat)
  /-- TEMPO_SET (R133). -/
  | tempoSet (p : Pkt) (value : Nat)
  /-- SET_PARAM (R81); target kind 0 parameter, 1 bypass. -/
  | setParam (p : Pkt) (expected kind pos index value : Nat)
  /-- SCENE_EDIT_SET_OVERRIDE (R82). -/
  | sceneEditSetOverride (p : Pkt) (expected scene : Nat) (target : RawTarget) (value : Nat)
  /-- SCENE_EDIT_REMOVE_OVERRIDE (R82). -/
  | sceneEditRemoveOverride (p : Pkt) (expected scene : Nat) (target : RawTarget)
  /-- SCENE_EDIT_SET_LEVEL (R82). -/
  | sceneEditSetLevel (p : Pkt) (expected scene level : Nat)
  /-- SCENE_EDIT_SET_RAMP (R82). -/
  | sceneEditSetRamp (p : Pkt) (expected scene length : Nat)
  /-- SCENE_EDIT_SET_NAME (R82): 8 bytes padded with 00h. -/
  | sceneEditSetName (p : Pkt) (expected scene : Nat) (name : List Nat)
  /-- SCENE_EDIT_ADD (R82). -/
  | sceneEditAdd (p : Pkt) (expected scene : Nat)
  /-- SCENE_EDIT_REMOVE (R82). -/
  | sceneEditRemove (p : Pkt) (expected scene : Nat)
  /-- PRESET_EDIT_NAME (R83): 16 bytes padded with 00h. -/
  | presetEditName (p : Pkt) (expected : Nat) (name : List Nat)
  /-- PRESET_EDIT_FADE_OUT (R83). -/
  | presetEditFadeOut (p : Pkt) (expected length : Nat)
  /-- PRESET_EDIT_FADE_IN (R83). -/
  | presetEditFadeIn (p : Pkt) (expected length : Nat)
  /-- PRESET_EDIT_TEMPO (R83); 0 is absent. -/
  | presetEditTempo (p : Pkt) (expected tempo : Nat)
  /-- AMP_DATA_SHAPER_RUN (R83). -/
  | ampDataShaperRun (p : Pkt) (expected pos start : Nat) (points : List Int)
  /-- AMP_DATA_TONE_SET (R83). -/
  | ampDataToneSet (p : Pkt) (expected pos filter knobSet : Nat) (b0 b1 b2 a1 a2 : Int)
  /-- SAT_IMAGE_SET (R84). -/
  | satImageSet (p : Pkt) (expected sat reg value : Nat)
  /-- SAT_IMAGE_CLEAR (R84). -/
  | satImageClear (p : Pkt) (expected sat reg : Nat)
  /-- MAP_EDIT_ADD (R67). -/
  | mapEditAdd (p : Pkt) (expected : Nat) (entry : RawEntry)
  /-- MAP_EDIT_REPLACE (R67). -/
  | mapEditReplace (p : Pkt) (expected number : Nat) (entry : RawEntry)
  /-- MAP_EDIT_REMOVE (R67). -/
  | mapEditRemove (p : Pkt) (expected number : Nat)
  /-- CHAIN_EDIT_INSERT (R86). -/
  | chainEditInsert (p : Pkt) (expected pos stype lclass policy : Nat)
  /-- CHAIN_EDIT_REMOVE (R86). -/
  | chainEditRemove (p : Pkt) (expected pos : Nat)
  /-- CHAIN_EDIT_MOVE (R86). -/
  | chainEditMove (p : Pkt) (expected src dst : Nat)
  /-- CHAIN_EDIT_RETYPE (R86). -/
  | chainEditRetype (p : Pkt) (expected pos stype lclass policy : Nat)
  /-- CHAIN_EDIT_SET_CLASS (R86). -/
  | chainEditSetClass (p : Pkt) (expected pos lclass : Nat)
  /-- CHAIN_EDIT_SET_POLICY (R86). -/
  | chainEditSetPolicy (p : Pkt) (expected pos policy : Nat)
  /-- CHAIN_EDIT_REBUILD (R88). -/
  | chainEditRebuild (p : Pkt) (expected : Nat)
  /-- STORE_PRESET (R74); source FFh is the edit buffer. -/
  | storePreset (p : Pkt) (preset source : Nat)
  /-- ERASE_PRESET (R76). -/
  | erasePreset (p : Pkt) (preset : Nat)
  /-- SHOW_START (R144). -/
  | showStart (p : Pkt)
  /-- SHOW_HOLD (R144). -/
  | showHold (p : Pkt)
  /-- SHOW_CONTINUE (R144). -/
  | showContinue (p : Pkt)
  /-- SHOW_STOP (R144). -/
  | showStop (p : Pkt)
  /-- SHOW_LOCATE (R145). -/
  | showLocate (p : Pkt) (bar beat chase : Nat)
  /-- CUE_INSERT (R147), with the five argument bytes of 12.7. -/
  | cueInsert (p : Pkt) (bar beat action : Nat) (args : List Nat)
  /-- CUE_DELETE (R147). -/
  | cueDelete (p : Pkt) (number bar beat : Nat)
  /-- SAT_WRITE (R164). -/
  | satWrite (p : Pkt) (sat reg value : Nat)
  /-- SAT_READ (R164). -/
  | satRead (p : Pkt) (sat reg : Nat)
  /-- SAT_CLEAR (R163). -/
  | satClear (p : Pkt) (sat : Nat)
  /-- TEMPO_SOURCE (R134). -/
  | tempoSource (p : Pkt) (source : Nat)
  /-- TEMPO_LOCK (R134). -/
  | tempoLock (p : Pkt) (lock : Nat)
  /-- CLOCK_SETUP_DEFAULT_TEMPO (R138). -/
  | clockSetupDefaultTempo (p : Pkt) (value : Nat)
  /-- CLOCK_SETUP_PULSES_PER_BEAT (R138). -/
  | clockSetupPulsesPerBeat (p : Pkt) (value : Nat)
  /-- CLOCK_SETUP_BEATS_PER_BAR (R138). -/
  | clockSetupBeatsPerBar (p : Pkt) (value : Nat)
  /-- PANIC (R184). -/
  | panic (p : Pkt)
  /-- UNPANIC (R185). -/
  | unpanic (p : Pkt)
  /-- SAT_SETUP_HOLD_AUTO (R160). -/
  | satSetupHoldAuto (p : Pkt) (value : Nat)
  /-- SAT_SETUP_REFRESH (R162). -/
  | satSetupRefresh (p : Pkt) (value : Nat)
  /-- SAT_SETUP_HIDE (R161). -/
  | satSetupHide (p : Pkt) (sat value : Nat)
  /-- AREA_JOIN (R49). -/
  | areaJoin (p : Pkt) (taps : Nat)
  /-- AREA_WRITE (R50). -/
  | areaWrite (p : Pkt) (words : List Int)
  /-- AREA_UNJOIN (R51). -/
  | areaUnjoin (p : Pkt)
  /-- IMAGE_SAVE (R52). -/
  | imageSave (p : Pkt) (slot : Nat)
  /-- SETUP_SAVE (R188). -/
  | setupSave (p : Pkt)
  /-- SETUP_SET_MASTER_LEVEL (R180). -/
  | setupSetMasterLevel (p : Pkt) (level : Nat)
  /-- SETUP_SET_START_PRESET (R180). -/
  | setupSetStartPreset (p : Pkt) (preset scene : Nat)
  /-- RESTART (R180). -/
  | restart (p : Pkt)
  /-- SEAT_SET (R176). -/
  | seatSet (p : Pkt) (link : Nat) (seat : RawSeat)
  /-- ACCESS_SET (R177). -/
  | accessSet (p : Pkt) (cls tier : Nat)
  /-- AFS_EDGE (R192), with the interval since the edge before it in nanoseconds. -/
  | afsEdge (intervalNs : Nat)
  /-- POWER_LOSS (R78). -/
  | powerLoss
  /-- INVALID_LENGTH_BYTE (R170): a length byte of 0 or 251 to 255 after a start byte. -/
  | invalidLengthByte (link : Fin 4) (length : Byte)
  deriving DecidableEq, Repr

end Sys2Proof
end

