-- ==== Sys2Proof/Machine/State.lean ====
section
/-! DEFINITION. The state of the PF40: every block's state as its chapter gives it, the queue of commands that wait,
the reasons a step can stop, and the state right after reset. Plain data throughout. -/

namespace Sys2Proof.Machine

/-! ## Reasons to stop -/

/-- Faults. -/
inductive Fault
  /-- Raised by FRAME_BOUNDARY alone, when the command does not carry 32 samples for each of the four captured channels.
  R1 knows no such frame. Safe: the model stops where the hardware has no such event. -/
  | shortFrame
  deriving DecidableEq, Repr

/-- Refusals. -/
inductive Refusal
  /-- Raised by an arm of `exec` whose row has no meaning yet. Safe. No arm of this model raises it. -/
  | notModelled (mnemonic : String)
  deriving DecidableEq, Repr

/-! ## Ramps and filters (chapter 2) -/

/-- A ramped quantity (R38): current value, target, remaining count of frames. -/
structure Ramp where
  cur    : Int
  target : Int
  n      : Nat
  deriving DecidableEq, Repr

/-- A quantity at rest. -/
def Ramp.rest (v : Int) : Ramp := ⟨v, v, 0⟩

/-- Coefficients of a second-order filter, 30 fraction bits (R29, R35). -/
structure Biquad where
  b0 : Int
  b1 : Int
  b2 : Int
  a1 : Int
  a2 : Int
  deriving DecidableEq, Repr

/-- History of a second-order filter (R35): two inputs, two saturated outputs. -/
structure BiqHist where
  x1 : Int := 0
  x2 : Int := 0
  y1 : Int := 0
  y2 : Int := 0
  deriving DecidableEq, Repr

/-- An exact fraction, `num / den`. -/
structure Frac where
  num : Nat
  den : Nat
  deriving DecidableEq, Repr

/-! ## The preset record (chapter 5) -/

/-- A target of an override, a map entry or an edit (R59, R69). -/
inductive Target
  | param (pos idx : Nat)
  | bypass (pos : Nat)
  | level
  | sat (s r : Nat)
  deriving DecidableEq, Repr

/-- A slot record (R70). `table` and `sets` are the shaper table and the 15 tone sets of an AMP, empty otherwise. -/
structure SlotRec where
  stype  : SlotType
  lclass : LengthClass
  policy : TailPolicy
  bypass : Bool
  params : List Int
  table  : List Int
  sets   : List Biquad
  deriving DecidableEq, Repr

/-- A scene's replacement value for one target (R69). -/
structure Override where
  target : Target
  value  : Int
  deriving DecidableEq, Repr

/-- A scene record (R69). Names are character codes. -/
structure Scene where
  name      : List Nat
  level     : Nat
  ramp      : Nat
  overrides : List Override
  deriving DecidableEq, Repr

/-- A satellite image entry (R69): register and value for each register of the care set, ascending. -/
structure SatImage where
  sat  : Nat
  regs : List (Nat × Nat)
  deriving DecidableEq, Repr

/-- A control map entry (R59). -/
structure MapEntry where
  source : Nat
  target : Target
  points : List Int
  deriving DecidableEq, Repr

/-- A preset record (R69). -/
structure Record where
  name    : List Nat
  fadeOut : Nat
  fadeIn  : Nat
  tempo   : Option Nat
  chain   : List SlotRec
  scenes  : List Scene
  images  : List SatImage
  map     : List MapEntry
  deriving DecidableEq, Repr

/-! ## The Tone Engine (chapter 1) -/

/-- Gate state (R8). -/
inductive GateState
  | open | closing | closed
  deriving DecidableEq, Repr

/-- Where a CAB's resolve gain is going (R10): at rest at 32768, falling to 0 for a re-resolution, rising again. -/
inductive ResolvePhase
  | steady | falling | rising
  deriving DecidableEq, Repr

/-- One stereo sample in the internal format (R4). -/
abbrev Stereo := Int × Int

/-- Processing state of a slot instance, by type (R5, R8 to R16, R30). Histories are newest first. -/
inductive Proc
  | gate (gain : Ramp) (peak : Int) (st : GateState)
  | comp (env attack release : Int)
  | amp (table : List Int) (sets coeffs : List Biquad) (histL histR : List BiqHist) (sag : Int)
  | cab (image : Option (Nat × Nat)) (missing : Bool) (hist : List Stereo) (gain : Ramp) (phase : ResolvePhase)
  | eq (histL histR : List BiqHist)
  | mod (phase : Frac) (buf : List Stereo)
  | delay (w d : Nat) (next held synced : Option Nat) (fade : Ramp) (clamped : Bool)
  | reverb (size : Int) (next held : Option Int) (fade : Ramp)
  | loop (ret : List Stereo)
  | volume
  deriving DecidableEq, Repr

/-- A slot instance (R5). `params` holds each parameter as a ramp; a parameter that steps is always at rest. `areas` are
the LINE areas it holds, first half first. -/
structure Inst where
  stype  : SlotType
  lclass : LengthClass
  policy : TailPolicy
  params : List Ramp
  bypass : Bool
  weight : Ramp
  proc   : Proc
  areas  : List Nat
  deriving DecidableEq, Repr

/-- A position of the live chain (R5): its slot type, and its instance or, when DETACHED, none. -/
structure Position where
  stype : SlotType
  inst  : Option Inst
  deriving DecidableEq, Repr

/-- State of a tail lane (R20). -/
inductive LaneState
  | empty | feeding | ringing | cutting
  deriving DecidableEq, Repr

/-- A tail lane (R20 to R23). `fed` tells whether its input is still the ramped feed (R23). -/
structure Lane where
  st     : LaneState
  inst   : Option Inst
  former : Nat
  fed    : Bool
  feed   : Ramp
  tail   : Ramp
  timer  : Int
  quiet  : Nat
  deriving DecidableEq, Repr

/-- An EMPTY lane. -/
def Lane.clear : Lane := ⟨.empty, none, 0, false, .rest 0, .rest 0, 0, 0⟩

/-- The two gains that other blocks set by target or directly; the mute factor has its own changes (R26, R27). -/
inductive GainId
  | chain | master
  deriving DecidableEq, Repr

/-- A change handed to the Tone Engine (R2). -/
inductive Change
  /-- A parameter value (R6). -/
  | param (pos idx : Nat) (v : Int)
  /-- A bypass state (R7). -/
  | bypass (pos : Nat) (on : Bool)
  /-- A complete chain, instances with zeroed state (R2, R106). -/
  | rebuild (insts : List Inst)
  /-- An instance moves to a lane, with the fade-out length of its feed (R20, R21). -/
  | move (pos : Nat) (lane : Fin 4) (len : Nat)
  /-- An eviction (R23). -/
  | evict (lane : Fin 4)
  /-- The immediate cut of every lane (R24). -/
  | cutAll
  /-- The drop of every DELAY and REVERB still in the outgoing chain (R46, R104). -/
  | drop
  /-- A gain target with its length (R39). -/
  | gainTarget (g : GainId) (target : Int) (len : Nat)
  /-- A gain set (R39). -/
  | gainSet (g : GainId) (v : Int)
  /-- A mute holder was set (R27). -/
  | muteFall
  /-- The last mute holder was released, with the length of the rise (R27). -/
  | muteRise (len : Nat)
  /-- The clock holder was released: the mute factor is set to 0 (R27). -/
  | muteZero
  /-- A synced delay length (R14, R141). -/
  | syncLen (pos len : Nat)
  deriving DecidableEq, Repr

/-- The mute holders (R27). -/
structure Holders where
  tuner   : Bool
  panic   : Bool
  startup : Bool
  clock   : Bool
  deriving DecidableEq, Repr

/-- Tone Engine state. `framePhase` counts the sample periods of the current frame that have elapsed (log 17);
`chainRested` is the report that the chain gain came to rest, under way to the Switch Engine (R104). -/
structure Tone where
  chain       : List Position
  lanes       : List Lane
  order       : List Nat
  chainGain   : Ramp
  master      : Ramp
  mute        : Ramp
  holders     : Holders
  changes     : List Change
  mainOut     : List Stereo
  sendOut     : List Stereo
  framePhase  : Nat
  chainRested : Bool
  deriving DecidableEq, Repr

/-! ## The Area Manager (chapter 3) -/

/-- Holder of a LINE area (R42). -/
inductive Holder
  | live (pos : Nat)
  | incoming (pos : Nat)
  | lane (l : Nat)
  deriving DecidableEq, Repr

/-- State of an area with its fields (R42). -/
inductive Area
  | free
  | line (holder : Holder) (ready second : Bool)
  | image (slot : Option Nat) (taps refs : Nat)
  | loading (link : Fin 4) (taps remaining : Nat) (saving lapse : Bool)
  deriving DecidableEq, Repr

/-- Last end of an upload (3.4). -/
inductive LastEnd
  | none | saved | unjoined | lapsed | broken
  deriving DecidableEq, Repr

/-- A link's upload record (3.4). -/
structure Upload where
  area    : Option Nat
  lastEnd : LastEnd
  deriving DecidableEq, Repr

/-- Area Manager state: 32 areas, the DRAM words, the image slot table (area and taps), failed marks, upload records and
the held image load mask. -/
structure AreaMan where
  areas   : List Area
  dram    : List (Nat × Word32)
  table   : List (Option (Nat × Nat))
  failed  : List Bool
  uploads : List Upload
  mask    : List Bool
  deriving DecidableEq, Repr

/-! ## Stored setup (chapter 11) and the values held by the blocks -/

/-- Rate of a link (R175). -/
inductive Rate
  | k250 | m1 | m3
  deriving DecidableEq, Repr

/-- A seat (R175). `mask` has bit k for the notice kind of order k. -/
structure Seat where
  tier       : Nat
  precedence : Nat
  rate       : Rate
  quiet      : Bool
  mask       : BitVec 16
  deriving DecidableEq, Repr

/-- A string of a tuner string set (R117): target note and offset in tenths of a cent. -/
structure TString where
  note   : Nat
  offset : Int
  deriving DecidableEq, Repr

/-- The values of the stored setup (R187). -/
structure Setup where
  seats       : List Seat
  access      : List Nat
  startPreset : Nat
  startScene  : Nat
  masterLevel : Nat
  sourceB     : Bool
  reference   : Nat
  exponent    : Nat
  strings     : List (List TString)
  defTempo    : Nat
  ppb         : Nat
  bpb         : Nat
  hideMask    : List Bool
  refresh     : Bool
  holdAuto    : Bool
  imageMask   : List Bool
  deriving DecidableEq, Repr

/-! ## The Preset Store (chapter 5) -/

/-- A library place (R71): its mark, its content (none: bytes that form no record) and its check word. -/
structure LibPlace where
  written : Bool
  content : Option Record
  check   : Word32
  deriving DecidableEq, Repr

/-- The nonvolatile copy of an image slot (R52, R56): not written, written and passing its check, or failing it. -/
inductive ImageCopy
  | absent
  | good (taps : Nat) (words : List Word32)
  | bad
  deriving DecidableEq, Repr

/-- The nonvolatile setup record (R187). -/
inductive StoredSetup
  | absent
  | good (v : Setup)
  | bad
  deriving DecidableEq, Repr

/-- What a preset read is for (R72). `dropped` marks a switch load whose switch was abandoned (R99). -/
inductive Reader
  | switch (dropped : Bool)
  | link (l : Fin 4) (chunk : Nat)
  deriving DecidableEq, Repr

/-- What a start-up read reads (R190, R191). -/
inductive StartRead
  | setup | image (slot : Nat) | preset (n : Nat)
  deriving DecidableEq, Repr

/-- An operation of the Preset Store (R72). A write keeps the link its reply goes to; `none` when a RESTART has ended the
request (R78). -/
inductive StoreOp
  | presetStore (link : Option (Fin 4)) (n : Nat) (snap : Record) (seq : Word32)
  | presetErase (link : Option (Fin 4)) (n : Nat)
  | imageStore (link : Option (Fin 4)) (slot area taps : Nat) (words : List Word32)
  | setupStore (link : Option (Fin 4)) (snap : Setup)
  | presetRead (who : Reader) (n : Nat)
  | startRead (what : StartRead)
  deriving DecidableEq, Repr

/-- The kinds of write the last-write record names (R78). -/
inductive WriteKind
  | presetStore | presetErase | imageStore | setupStore
  deriving DecidableEq, Repr

/-- A READ_PRESET that waits (R73). -/
structure ReadReq where
  link  : Fin 4
  n     : Nat
  chunk : Nat
  deriving DecidableEq, Repr

/-- Preset Store state. `last` is the last-write record: operation and preset or image slot number (R78). -/
structure Store where
  library    : List LibPlace
  images     : List ImageCopy
  setup      : StoredSetup
  op         : Option StoreOp
  waitSwitch : Option Nat
  waitLinks  : List ReadReq
  last       : Option (WriteKind × Option Nat)
  deriving DecidableEq, Repr

/-! ## The Scene Controller (chapters 4 and 5) -/

/-- A stash entry (R89). -/
structure StashEntry where
  preset : Option Nat
  scene  : Nat
  record : Record
  seq    : Word32
  deriving DecidableEq, Repr

/-- The edit buffer (R79). -/
structure Buffer where
  preset : Option Nat
  scene  : Nat
  record : Option Record
  seq    : Word32
  dirty  : Bool
  deriving DecidableEq, Repr

/-- Scene Controller state. `driven` holds the driven record of each map entry (R61), `posMap` the position map (R88). -/
structure SceneCtl where
  controls    : List Nat
  buffer      : Buffer
  counter     : Word32
  driven      : List Int
  posMap      : Option (List (Option Nat))
  stash       : List StashEntry
  drops       : Byte
  lastDropped : Option Nat
  deriving DecidableEq, Repr

/-! ## The Switch Engine (chapter 6) -/

/-- Target of a switch request (R92). -/
inductive SwTarget
  | preset (n scene : Nat)
  | stash (e : StashEntry)
  | rebuild
  deriving DecidableEq, Repr

/-- Origin of a switch request (R92); a cue is known by its tag (log 20). -/
inductive Origin
  | link (l : Fin 4)
  | cue (tag : Nat)
  deriving DecidableEq, Repr

/-- A switch request (R92). -/
structure SwRequest where
  target     : SwTarget
  discard    : Bool
  exitTuner  : Bool
  reload     : Bool
  origin     : Origin
  precedence : Nat
  guard      : Nat
  deriving DecidableEq, Repr

/-- Kind of a switch (R93). -/
inductive SwKind
  | preset | scene | rebuild
  deriving DecidableEq, Repr

/-- Phase of the in-flight switch (R94). -/
inductive Phase
  | loading | fadingOut | fadingIn | ramping
  deriving DecidableEq, Repr

/-- The line join of a switch or of the first load (R43): asked and refused so far, filling, or complete. -/
inductive JoinState
  | waiting | filling | complete
  deriving DecidableEq, Repr

/-- What the swap will load (R99, R106): the record, its preset number, the scene, and the sequence number of the stash
entry it is a copy of. -/
structure Loaded where
  record   : Record
  preset   : Option Nat
  scene    : Nat
  stashSeq : Option Word32
  deriving DecidableEq, Repr

/-- The in-flight switch with its working data (R94): the record read (none for a REBUILD), the lanes of E that are not
yet EMPTY, the lanes assigned, the deferred candidates' positions, the state of the line join with the areas joined for
each position, and whether the chain gain is at rest at 0 with the drop handed. -/
structure Inflight where
  req         : SwRequest
  kind        : SwKind
  phase       : Phase
  loaded      : Option Loaded
  evicting    : List Nat
  assigned    : List Nat
  deferred    : List Nat
  join        : JoinState
  joined      : List (Nat × List Nat)
  dropped     : Bool
  deriving DecidableEq, Repr

/-- Outcome of a switch request or cue (R97, R149, 12.3). -/
inductive SwOutcome
  | none | taken | done | superseded | guarded | outranked | badArg | empty | badRecord | noArea
  deriving DecidableEq, Repr

/-- Outcome record of a link (R94): last target (preset number, scene) and outcome. -/
structure OutcomeRec where
  preset  : Option Nat
  scene   : Option Nat
  outcome : SwOutcome
  deriving DecidableEq, Repr

/-- Switch Engine state. `laneReports` are lanes reported EMPTY that a deferred candidate may take (R104). -/
structure SwitchEng where
  inflight    : Option Inflight
  pending     : Option SwRequest
  guard       : Option (Nat × Nat)
  reservation : Bool
  outcomes    : List OutcomeRec
  level       : Int
  laneReports : List Nat
  deriving DecidableEq, Repr

/-! ## The Tuner (chapter 7) -/

/-- Tuner mode (R117). -/
inductive TunerMode
  | off | watch | mute
  deriving DecidableEq, Repr

/-- Detector state (R125). -/
inductive DetState
  | silent | seeking | locked
  deriving DecidableEq, Repr

/-- Detector filters (R117, R121, R122). -/
structure Detector where
  xPrev : Int := 0
  dPrev : Int := 0
  l1    : Int := 0
  l2    : Int := 0
  armed : Bool := false
  sPrev : Int := 0
  deriving DecidableEq, Repr

/-- A reading (R127, R128): C, note, deviation and string index. -/
structure Reading where
  c    : Int
  note : Int
  dev  : Int
  str  : Option Nat
  deriving DecidableEq, Repr

/-- Tuner state. `stringSet` is none for CHROMATIC. -/
structure Tuner where
  mode      : TunerMode
  sourceB   : Bool
  reference : Nat
  exponent  : Nat
  stringSet : Option Nat
  strings   : List (List TString)
  pos       : Word32
  det       : Detector
  prevStamp : Option Word32
  ring      : List Nat
  outliers  : Nat
  state     : DetState
  reading   : Option Reading
  noSignal  : Bool
  publish   : Bool
  deriving DecidableEq, Repr

/-! ## The Show Clock (chapter 8) -/

/-- Tempo source (R132). -/
inductive TempoSource
  | internal | tap | external
  deriving DecidableEq, Repr

/-- Transport state (R143). -/
inductive Transport
  | stopped | armed | running | held
  deriving DecidableEq, Repr

/-- Cue action (R147). -/
inductive CueAction
  | switch (preset scene precedence guard : Nat)
  | tempo (t : Nat)
  | tuner (watch : Bool)
  | satellite (sat reg value : Nat)
  | stop
  deriving DecidableEq, Repr

/-- A cue (R147). -/
structure Cue where
  bar     : Nat
  beat    : Nat
  action  : CueAction
  fired   : Bool
  outcome : SwOutcome
  tag     : Nat
  deriving DecidableEq, Repr

/-- Show Clock state. -/
structure Show where
  tempo      : Nat
  source     : TempoSource
  lock       : Bool
  defTempo   : Nat
  ppb        : Nat
  bpb        : Nat
  pos        : Word32
  sinceBeat  : Nat
  tapLast    : Option Word32
  taps       : List Nat
  pulseLast  : Option Word32
  pulses     : List Nat
  pulseCount : Nat
  pulseTimer : Bool
  countdown  : Int
  bc         : Nat
  beatCount  : Nat
  handed     : List (Option Nat)
  transport  : Transport
  bar        : Nat
  beat       : Nat
  cues       : List Cue
  lastFired  : Option (Nat × Nat)
  nextTag    : Nat
  deriving DecidableEq, Repr

/-! ## The Satellite Controller (chapter 9) -/

/-- State of a satellite (R156). -/
inductive SatState
  | unknown | absent | restoring | behind | inStep
  deriving DecidableEq, Repr

/-- Mark of a register in the pending set (R154). -/
inductive Mark
  | absent | routine | urgent
  deriving DecidableEq, Repr

/-- Class of the satellite arbiter (R166), highest first. -/
inductive SatClass
  | urgent | pass | routine | poll
  deriving DecidableEq, Repr

/-- What the controller holds for one satellite (R153, R154, R158). -/
structure Sat where
  desired   : List Nat
  marks     : List Mark
  owed      : Bool
  state     : SatState
  hidden    : Bool
  failures  : Nat
  last      : Option Byte
  latch     : Option Nat
  pollWaits : Bool
  deriving DecidableEq, Repr

/-- A pass-through request (R164). -/
structure PassReq where
  link  : Fin 4
  sat   : Nat
  reg   : Nat
  write : Bool
  deriving DecidableEq, Repr

/-- The transaction in flight (R152). `data` is what a write carries; `link` the requester of a pass-through. -/
structure Trans where
  sat  : Nat
  reg  : Nat
  cls  : SatClass
  read : Bool
  data : Nat
  link : Option (Fin 4)
  deriving DecidableEq, Repr

/-- Satellite Controller state. -/
structure SatCtl where
  sats      : List Sat
  holdAuto  : Bool
  refresh   : Bool
  pollTimer : Bool
  refTimer  : Bool
  queue     : List PassReq
  run       : Option (SatClass × Nat)
  scanU     : Nat × Nat
  scanR     : Nat × Nat
  scanP     : Nat
  inFlight  : Option Trans
  hideWaits : List (Fin 4 × Nat)
  deriving DecidableEq, Repr

/-! ## The Link Controller (chapter 10) -/

/-- Receiver state (R170); `waitHigh` after a break (R171). -/
inductive RxState
  | hunt | length | body | check | waitHigh
  deriving DecidableEq, Repr

/-- A link's receiver: state, recorded length and bytes stored. -/
structure Rx where
  st   : RxState
  len  : Nat
  body : List Byte
  deriving DecidableEq, Repr

/-- A packet the part sends: kind and payload; the envelope is R195's. -/
structure Packet where
  kind    : Byte
  payload : List Byte
  deriving DecidableEq, Repr

/-- What a filled reply place holds besides its packet: whether it is the BUSY place, and what the end of the packet
brings about (RESTART: start-up, R180; the requester's own SEAT_SET: the new rate, R176). -/
inductive PlaceTag
  | busy | plain | restart | ownSeat
  deriving DecidableEq, Repr

/-- A filled reply place (R173). -/
structure ReplyPlace where
  tag : PlaceTag
  pkt : Packet
  deriving DecidableEq, Repr

/-- An outstanding request (R173): its kind, and whether a break orphaned it (R171). -/
structure Outstanding where
  kind     : Nat
  orphaned : Bool
  deriving DecidableEq, Repr

/-- One link: seat, receiver, the transmitter's rate and the rate due at the end of the packet it is sending (R176),
outstanding request, reply places in filling order, packet in transmission with its tag, pending notice flags. -/
structure Link where
  seat        : Seat
  rx          : Rx
  txRate      : Rate
  nextRate    : Rate
  outstanding : Option Outstanding
  places      : List ReplyPlace
  tx          : Option ReplyPlace
  flags       : BitVec 16
  deriving DecidableEq, Repr

/-- Link Controller state: links, access table, panic flag and the link that last changed it, and the held setup values
of R180. -/
structure LinkCtl where
  links       : List Link
  access      : List Nat
  panic       : Bool
  panicLink   : Option (Fin 4)
  startPreset : Nat
  startScene  : Nat
  masterLevel : Nat
  deriving DecidableEq, Repr

/-! ## Start-up and the Clock Monitor (chapter 11) -/

/-- Start-up state (R189). -/
inductive StartPhase
  | booting | images | firstLoad | running
  deriving DecidableEq, Repr

/-- Audio clock state (R192). -/
inductive ClockState
  | present | lost | returning
  deriving DecidableEq, Repr

/-- Clock Monitor state. -/
structure ClockMon where
  state    : ClockState
  clean    : Nat
  watchdog : Bool
  deriving DecidableEq, Repr

/-- Start-up state: the phase, the factory flag, the first load's working data with its line join, supply, whether RESET_N
is held low (the level of the pin, with supply or without), and a RESTART whose reply has ended (R180). -/
structure Startup where
  phase      : StartPhase
  factory    : Bool
  load       : Option Loaded
  joined     : List (Nat × List Nat)
  powered    : Bool
  resetHeld  : Bool
  restartDue : Bool
  deriving DecidableEq, Repr

/-! ## The whole state -/

/-- The state of the PF40. `pending` is the queue of commands that wait, the front first. `freeCount` is the index of the
next free value (log 7). -/
structure State where
  pending   : List Instr
  startup   : Startup
  mon       : ClockMon
  tone      : Tone
  area      : AreaMan
  store     : Store
  scene     : SceneCtl
  sw        : SwitchEng
  tuner     : Tuner
  clk        : Show
  sat       : SatCtl
  link      : LinkCtl
  freeCount : Nat
  deriving DecidableEq, Repr

/-! ## Factory values and reset -/

/-- The factory seat table (R175). Masks: bit k for the notice kind of order k (R182). -/
def factorySeats : List Seat :=
  [⟨1, 1, .k250, false, 0x40D⟩, ⟨2, 2, .m1, true, 0x77D⟩, ⟨2, 2, .m1, true, 0x611⟩, ⟨3, 3, .m3, true, 0x761⟩]

/-- The factory access table, classes 0 to 20 (R177). -/
def factoryAccess : List Nat := [0, 1, 1, 1, 1, 1, 2, 2, 2, 2, 2, 2, 2, 2, 2, 3, 3, 3, 3, 3, 1]

/-- The factory string sets (R117). -/
def factoryStrings : List (List TString) :=
  [[40, 45, 50, 55, 59, 64], [38, 45, 50, 55, 59, 64], [35, 40, 45, 50, 55, 59, 64], [28, 33, 38, 43]].map
    (·.map fun n => ⟨n, 0⟩)

/-- The factory values of the setup (R187). -/
def Setup.factory : Setup where
  seats       := factorySeats
  access      := factoryAccess
  startPreset := 0
  startScene  := 0
  masterLevel := 32768
  sourceB     := false
  reference   := 4400
  exponent    := 9
  strings     := factoryStrings
  defTempo    := 1200
  ppb         := 24
  bpb         := 4
  hideMask    := List.replicate 8 false
  refresh     := false
  holdAuto    := false
  imageMask   := List.replicate 16 true

/-- A link as every entry to start-up leaves it (R186). -/
def Link.entry (seat : Seat) : Link := ⟨seat, ⟨.hunt, 0, []⟩, seat.rate, seat.rate, none, [], none, 0⟩

/-- A satellite as every entry to start-up leaves it (R154). -/
def Sat.entry : Sat :=
  ⟨List.replicate 16 0, List.replicate 16 .absent, false, .unknown, false, 0, none, none, false⟩

/-- The Tone Engine at the entry to start-up (R28). -/
def Tone.entry : Tone where
  chain       := []
  lanes       := List.replicate 4 Lane.clear
  order       := []
  chainGain   := .rest 0
  master      := .rest 0
  mute        := .rest 0
  holders     := ⟨false, false, true, false⟩
  changes     := []
  mainOut     := List.replicate 32 (0, 0)
  sendOut     := List.replicate 32 (0, 0)
  framePhase  := 0
  chainRested := false

/-- The Area Manager at the entry to start-up (R56), with the DRAM words given. The held image load mask until BOOTING:
DESIGN CHOICE the factory value (log 56). -/
def AreaMan.entry (dram : List (Nat × Word32)) : AreaMan where
  areas   := List.replicate 32 .free
  dram    := dram
  table   := List.replicate 16 none
  failed  := List.replicate 16 false
  uploads := List.replicate 4 ⟨none, .none⟩
  mask    := List.replicate 16 true

/-- The Scene Controller at the entry to start-up (R57, R79, R89, R91). -/
def SceneCtl.entry : SceneCtl where
  controls    := List.replicate 16 0
  buffer      := ⟨none, 0, none, 0, false⟩
  counter     := 0
  driven      := []
  posMap      := none
  stash       := []
  drops       := 0
  lastDropped := none

/-- The Switch Engine at the entry to start-up (R94, R114). The recorded chain level is set by the first load; until
then DESIGN CHOICE 0 (log 27). -/
def SwitchEng.entry : SwitchEng where
  inflight    := none
  pending     := none
  guard       := none
  reservation := false
  outcomes    := List.replicate 4 ⟨none, none, .none⟩
  level       := 0
  laneReports := []

/-- The Tuner at the entry to start-up (R117). -/
def Tuner.entry : Tuner where
  mode      := .off
  sourceB   := false
  reference := 4400
  exponent  := 9
  stringSet := none
  strings   := factoryStrings
  pos       := 0
  det       := {}
  prevStamp := none
  ring      := []
  outliers  := 0
  state     := .silent
  reading   := none
  noSignal  := false
  publish   := false

/-- The Show Clock at the entry to start-up (R132, R139, R140, R143, R147): 120.0 BPM, so a beat of 6,144,000. -/
def Show.entry : Show where
  tempo      := 1200
  source     := .internal
  lock       := false
  defTempo   := 1200
  ppb        := 24
  bpb        := 4
  pos        := 0
  sinceBeat  := 0
  tapLast    := none
  taps       := []
  pulseLast  := none
  pulses     := []
  pulseCount := 0
  pulseTimer := false
  countdown  := 6144000
  bc         := 6144000
  beatCount  := 0
  handed     := List.replicate 12 none
  transport  := .stopped
  bar        := 1
  beat       := 1
  cues       := []
  lastFired  := none
  nextTag    := 0

/-- The Satellite Controller at the entry to start-up (R154, R166, R167). -/
def SatCtl.entry : SatCtl where
  sats      := List.replicate 8 Sat.entry
  holdAuto  := false
  refresh   := false
  pollTimer := false
  refTimer  := false
  queue     := []
  run       := none
  scanU     := (7, 16)
  scanR     := (7, 16)
  scanP     := 7
  inFlight  := none
  hideWaits := []

/-- The Link Controller at the entry to start-up (R175, R177, R186). The link that last changed the panic flag: DESIGN
CHOICE none (log 27). Start preset, start scene and master level until BOOTING: DESIGN CHOICE the factory values (log 56). -/
def LinkCtl.entry : LinkCtl where
  links       := factorySeats.map Link.entry
  access      := factoryAccess
  panic       := false
  panicLink   := none
  startPreset := 0
  startScene  := 0
  masterLevel := 32768

/-- The Preset Store with the given nonvolatile content and no operation, as an entry to start-up leaves it (R78). -/
def Store.entry (library : List LibPlace) (images : List ImageCopy) (setup : StoredSetup) : Store where
  library    := library
  images     := images
  setup      := setup
  op         := none
  waitSwitch := none
  waitLinks  := []
  last       := none

/-- An EMPTY library place (R71). -/
def LibPlace.blank : LibPlace := ⟨false, none, 0⟩

/-- The state right after reset: the entry to start-up after power-on (R189), with BOOTING's read of the stored setup
begun (R190). The nonvolatile array of a part that was never written: DESIGN CHOICE every place EMPTY, no image, no setup
(log 4). DRAM: DESIGN CHOICE no word listed, so every word reads 0 (log 5). The factory flag until BOOTING's read ends: DESIGN
CHOICE clear (log 56). The queue is empty. -/
def State.reset : State where
  pending   := []
  startup   := ⟨.booting, false, none, [], true, false, false⟩
  mon       := ⟨.present, 0, true⟩
  tone      := Tone.entry
  area      := AreaMan.entry []
  store     := { Store.entry (List.replicate 128 LibPlace.blank) (List.replicate 16 .absent) .absent with
                 op := some (.startRead .setup) }
  scene     := SceneCtl.entry
  sw        := SwitchEng.entry
  tuner     := Tuner.entry
  clk       := Show.entry
  sat       := SatCtl.entry
  link      := LinkCtl.entry
  freeCount := 0

end Sys2Proof.Machine
end

