-- ==== Sys2Proof/Machine/Ops.lean ====
section
/-! DEFINITION. The shared small operations: lists, numbers and bytes, the ramp law (R38, R39), the DRAM words (R42,
R45), and the updates of one part of the state. -/

namespace Sys2Proof.Machine

/-! ## Lists and numbers -/

/-- Replace element `i` by `f` of it; nothing beyond the end. -/
def modAt {α : Type} (l : List α) (i : Nat) (f : α → α) : List α :=
  match l[i]? with
  | some a => l.set i (f a)
  | none => l

/-- Insert `a` before element `i`, at the end where `i` is the length or more. -/
def insertAt {α : Type} (l : List α) (i : Nat) (a : α) : List α := l.take i ++ a :: l.drop i

/-- The least index whose element satisfies `p`. -/
def firstIdx {α : Type} (p : α → Bool) : List α → Option Nat
  | [] => none
  | a :: t => if p a then some 0 else (firstIdx p t).map (· + 1)

/-- The indices, ascending, whose elements satisfy `p`, counted from `k`. -/
def indicesFrom {α : Type} (p : α → Bool) : Nat → List α → List Nat
  | _, [] => []
  | k, a :: t => if p a then k :: indicesFrom p (k + 1) t else indicesFrom p (k + 1) t

/-- Sum of natural numbers. -/
def sumNat (l : List Nat) : Nat := l.foldl (· + ·) 0

/-- Round-half-up of a quotient by a positive number (00 3.3): ties toward plus infinity. -/
def roundHalfUp (a : Int) (b : Nat) : Int := floorDiv (2 * a + b) (2 * b)

/-- A 16-bit field read as a signed value (12: two's complement). -/
def signed16 (v : Nat) : Int := (BitVec.ofNat 16 v).toInt

/-- Insert a number into an ascending list. -/
def insertSorted (a : Nat) : List Nat → List Nat
  | [] => [a]
  | b :: t => if a ≤ b then a :: b :: t else b :: insertSorted a t

/-- Sort numbers, ascending. -/
def sortNat (l : List Nat) : List Nat := l.foldr insertSorted []

/-! ## Bytes (R194): most significant byte first -/

/-- One byte. -/
def byte (n : Nat) : Byte := BitVec.ofNat 8 n
/-- Two bytes. -/
def be2 (n : Nat) : List Byte := [byte (n / 256), byte n]
/-- Four bytes. -/
def be4 (n : Nat) : List Byte := [byte (n / 16777216), byte (n / 65536), byte (n / 256), byte n]
/-- A signed value of two bytes. -/
def be2i (x : Int) : List Byte := be2 (BitVec.ofInt 16 x).toNat
/-- A signed value of four bytes. -/
def be4i (x : Int) : List Byte := be4 (BitVec.ofInt 32 x).toNat
/-- On or off. -/
def flagByte (b : Bool) : Byte := if b then 1 else 0
/-- A number or none (FFh). -/
def optByte (n : Option Nat) : Byte := byte (n.getD 255)
/-- A name padded with 00h to `n` bytes. -/
def nameBytes (n : Nat) (name : List Nat) : List Byte :=
  ((name.map byte) ++ List.replicate n 0).take n
/-- Sum of bytes, as a number. -/
def sumBytes (l : List Byte) : Nat := l.foldl (fun a b => a + b.toNat) 0

/-! ## The ramp law -/

/-- A new target with a length in frames (R39); a length of 0 counts as 1. -/
def rampTo (r : Ramp) (target : Int) (len : Nat) : Ramp := ⟨r.cur, target, max 1 len⟩

/-- One step of a ramped quantity (R38); at rest no step. -/
def rampStep (r : Ramp) : Ramp :=
  if r.n = 0 then r else ⟨r.cur + (r.target - r.cur).tdiv r.n, r.target, r.n - 1⟩

/-- A new target: a ramp, or at once while the audio clock is lost (R40, `landing`). -/
def rampGo (landing : Bool) (r : Ramp) (target : Int) (len : Nat) : Ramp :=
  if landing then .rest target else rampTo r target len

/-! ## DRAM words -/

/-- Does the list of words have its canonical form: addresses strictly rising, no word equal to what an unlisted address
reads as (0, log 5)? -/
def dramWf : List (Nat × Word32) → Bool
  | [] => true
  | [(_, v)] => v != 0
  | (a, v) :: (b, w) :: t => v != 0 && decide (a < b) && dramWf ((b, w) :: t)

/-- The word at an address. -/
def dramRead : List (Nat × Word32) → Nat → Word32
  | [], _ => 0
  | (b, v) :: t, a => if a = b then v else if a < b then 0 else dramRead t a

/-- Write one word. -/
def dramWrite : List (Nat × Word32) → Nat → Word32 → List (Nat × Word32)
  | [], a, v => if v = 0 then [] else [(a, v)]
  | (b, w) :: t, a, v =>
    if a < b then (if v = 0 then (b, w) :: t else (a, v) :: (b, w) :: t)
    else if a = b then (if v = 0 then t else (b, v) :: t)
    else (b, w) :: dramWrite t a v

/-- Write consecutive words. -/
def dramWriteAll : List (Nat × Word32) → Nat → List Word32 → List (Nat × Word32)
  | d, _, [] => d
  | d, a, v :: t => dramWriteAll (dramWrite d a v) (a + 1) t

/-- Write 0 to the words `lo` to `hi - 1`. -/
def dramClear (d : List (Nat × Word32)) (lo hi : Nat) : List (Nat × Word32) :=
  d.filter fun c => !(decide (lo ≤ c.1) && decide (c.1 < hi))

/-- The listed words `lo` to `hi - 1`. -/
def dramSlice (d : List (Nat × Word32)) (lo hi : Nat) : List (Nat × Word32) :=
  d.filter fun c => decide (lo ≤ c.1) && decide (c.1 < hi)

/-- Consecutive words from an address. -/
def dramBlock (d : List (Nat × Word32)) (lo n : Nat) : List Word32 :=
  let c := dramSlice d lo (lo + n)
  (List.range n).map fun k => dramRead c (lo + k)

/-- Address of word `w` of area `a`: areas lie one after another, each of 262,144 words (R42). -/
def areaAddr (a w : Nat) : Nat := a * Config.areaWords + w

/-! ## Updates of one part of the state -/

/-- Update the Tone Engine. -/
def onTone (f : Tone → Tone) (s : State) : State := { s with tone := f s.tone }
/-- Update the Area Manager. -/
def onArea (f : AreaMan → AreaMan) (s : State) : State := { s with area := f s.area }
/-- Update the Preset Store. -/
def onStore (f : Store → Store) (s : State) : State := { s with store := f s.store }
/-- Update the Scene Controller. -/
def onScene (f : SceneCtl → SceneCtl) (s : State) : State := { s with scene := f s.scene }
/-- Update the Switch Engine. -/
def onSw (f : SwitchEng → SwitchEng) (s : State) : State := { s with sw := f s.sw }
/-- Update the Tuner. -/
def onTuner (f : Tuner → Tuner) (s : State) : State := { s with tuner := f s.tuner }
/-- Update the Show Clock. -/
def onClk (f : Show → Show) (s : State) : State := { s with clk := f s.clk }
/-- Update the Satellite Controller. -/
def onSat (f : SatCtl → SatCtl) (s : State) : State := { s with sat := f s.sat }
/-- Update the Link Controller. -/
def onLink (f : LinkCtl → LinkCtl) (s : State) : State := { s with link := f s.link }
/-- Update start-up. -/
def onStartup (f : Startup → Startup) (s : State) : State := { s with startup := f s.startup }
/-- Update the edit buffer. -/
def onBuffer (f : Buffer → Buffer) (s : State) : State := onScene (fun c => { c with buffer := f c.buffer }) s

/-- Update one link. -/
def onLinkAt (l : Fin 4) (f : Link → Link) (s : State) : State :=
  onLink (fun c => { c with links := modAt c.links l.val f }) s

/-- Update one satellite. -/
def onSatAt (i : Nat) (f : Sat → Sat) (s : State) : State :=
  onSat (fun c => { c with sats := modAt c.sats i f }) s

/-- Does the Clock Monitor report the audio clock present (R3, R192)? -/
def present (s : State) : Bool := s.mon.state == .present

/-- Link `l`; an empty seat where there is none (there are always four). -/
def linkOf (s : State) (l : Fin 4) : Link := s.link.links.getD l.val (Link.entry ⟨0, 0, .k250, false, 0⟩)

end Sys2Proof.Machine
end

