-- ==== Sys2Proof/Machine/Operands.lean ====
section
/-! DEFINITION. What operands mean: status codes (12.3), slot types with their parameters, costs and defaults (R5 to
R17, R29, R70), targets and their ranges (R59), the codes of the request fields (12.5, 12.7), divisions (R12). -/

namespace Sys2Proof.Machine

/-! ## Status codes -/

/-- Status codes of replies (12.3). -/
inductive Status
  | ok | clamped | busy | starting | denied | badArg | stale | detached | empty | badRecord | storeBusy | outranked
  | guarded | noArea | overBudget | full | crowded | occupied | noAnswer | lastSetup
  deriving DecidableEq, Repr

/-- The byte of a status code (12.3). -/
def statusCode : Status → Byte
  | .ok => 0x00 | .clamped => 0x01 | .busy => 0x10 | .starting => 0x11 | .denied => 0x12 | .badArg => 0x13
  | .stale => 0x14 | .detached => 0x15 | .empty => 0x20 | .badRecord => 0x21 | .storeBusy => 0x22
  | .outranked => 0x30 | .guarded => 0x31 | .noArea => 0x32 | .overBudget => 0x33 | .full => 0x34
  | .crowded => 0x35 | .occupied => 0x36 | .noAnswer => 0x40 | .lastSetup => 0x42

/-- CLAMPED where a value was clamped, OK otherwise. -/
def okOr (clamped : Bool) : Status := if clamped then .clamped else .ok

/-- The byte of an outcome (12.3). -/
def outcomeCode : SwOutcome → Byte
  | .none => 0xFF | .taken => 0xE1 | .done => 0x00 | .superseded => 0xE0 | .guarded => 0x31 | .outranked => 0x30
  | .badArg => 0x13 | .empty => 0x20 | .badRecord => 0x21 | .noArea => 0x32

/-! ## Slot types -/

/-- A parameter of a slot type (R6): its range, whether it is level class, its default (R70). -/
structure ParamSpec where
  lo    : Int
  hi    : Int
  level : Bool
  dflt  : Int
  deriving DecidableEq, Repr

/-- The parameters of a slot type in index order (R7 to R16, R29), with the defaults of R70. -/
def paramSpecs : SlotType → LengthClass → List ParamSpec
  | .gate, _ => [⟨0, 32767, false, 0⟩, ⟨1, 2000, false, 1⟩]
  | .comp, _ => [⟨1, 32767, false, 1⟩, ⟨10, 200, false, 10⟩, ⟨1, 200, false, 1⟩, ⟨10, 2000, false, 10⟩,
      ⟨0, 65535, true, 4096⟩]
  | .amp, _ => [⟨0, 65535, true, 4096⟩, ⟨0, 100, false, 0⟩, ⟨0, 100, false, 0⟩, ⟨0, 100, false, 0⟩,
      ⟨0, 32767, false, 0⟩, ⟨1, 32767, false, 1⟩, ⟨1, 32767, false, 1⟩, ⟨0, 32768, true, 32768⟩]
  | .cab, _ => [⟨0, 15, false, 0⟩, ⟨0, 32768, true, 32768⟩]
  | .eq, _ =>
      let coeff := fun (k : Nat) => (⟨-32768, 32767, false, if k % 5 = 0 then 16384 else 0⟩ : ParamSpec)
      (List.range 20).map coeff ++ [⟨0, 32768, true, 32768⟩]
  | .mod, _ => [⟨0, 1, false, 0⟩, ⟨0, 100, false, 0⟩, ⟨1, 2000, false, 1⟩, ⟨0, 1, false, 0⟩, ⟨0, 8, false, 0⟩,
      ⟨0, 32768, true, 16384⟩]
  | .delay, c => [⟨1, if c = .long then 5461 else 2730, false, 1⟩, ⟨0, 1, false, 0⟩, ⟨0, 8, false, 0⟩,
      ⟨0, 31130, false, 0⟩, ⟨0, 32768, true, 16384⟩, ⟨1, 200, false, 1⟩]
  | .reverb, _ => [⟨0, 100, false, 0⟩, ⟨1, 200, false, 1⟩, ⟨0, 100, false, 0⟩, ⟨0, 32768, true, 16384⟩,
      ⟨1, 200, false, 1⟩]
  | .loop, _ => [⟨0, 32768, true, 16384⟩]
  | .volume, _ => [⟨0, 32768, true, 32768⟩]

/-- Is a slot type one whose instances hold a line (DELAY, REVERB: R17)? -/
def holdsLine : SlotType → Bool
  | .delay | .reverb => true
  | _ => false

/-- Cost of a slot (R17). -/
def slotCost : SlotType → LengthClass → Nat
  | .gate, _ => 15 | .comp, _ => 45 | .amp, _ => 180
  | .cab, .taps512 => 110 | .cab, .taps1024 => 210 | .cab, _ => 60
  | .eq, _ => 35 | .mod, _ => 50 | .delay, _ => 40 | .reverb, _ => 220 | .loop, _ => 20 | .volume, _ => 5

/-- LINE areas of a slot (R17). -/
def lineNeed : SlotType → LengthClass → Nat
  | .delay, .long => 2
  | .delay, _ => 1
  | .reverb, _ => 1
  | _, _ => 0

/-- Taps of a CAB's length class (R5). -/
def classTaps : LengthClass → Nat
  | .taps512 => 512 | .taps1024 => 1024 | _ => 256

/-- Greatest delay length of a DELAY (R45). -/
def delayCap (c : LengthClass) : Nat := if c = .long then 262143 else 131071

/-- Cost of a chain of slot records. -/
def chainCost (c : List SlotRec) : Nat := sumNat (c.map fun r => slotCost r.stype r.lclass)
/-- LINE need of a chain of slot records. -/
def chainNeed (c : List SlotRec) : Nat := sumNat (c.map fun r => lineNeed r.stype r.lclass)

/-- Codes of slot types, 0 to 9 (12.5). -/
def slotTypeOf : Nat → Option SlotType
  | 0 => some .gate | 1 => some .comp | 2 => some .amp | 3 => some .cab | 4 => some .eq | 5 => some .mod
  | 6 => some .delay | 7 => some .reverb | 8 => some .loop | 9 => some .volume
  | _ => none

/-- Code of a slot type (12.5). -/
def slotTypeCode : SlotType → Nat
  | .gate => 0 | .comp => 1 | .amp => 2 | .cab => 3 | .eq => 4 | .mod => 5 | .delay => 6 | .reverb => 7 | .loop => 8
  | .volume => 9

/-- Length class of a code that fits the type (12.5, R86). -/
def lengthClassOf : SlotType → Nat → Option LengthClass
  | .delay, 0 => some .short | .delay, 1 => some .long | .delay, _ => none
  | .cab, 0 => some .taps256 | .cab, 1 => some .taps512 | .cab, 2 => some .taps1024 | .cab, _ => none
  | _, 0 => some .plain
  | _, _ => none

/-- Code of a length class (12.5). -/
def lengthClassCode : LengthClass → Nat
  | .plain => 0 | .short => 0 | .long => 1 | .taps256 => 0 | .taps512 => 1 | .taps1024 => 2

/-- Tail policy of a code (12.5). -/
def tailPolicyOf : Nat → Option TailPolicy
  | 0 => some .cut | 1 => some .keep | _ => none

/-- Code of a tap count (12.7). -/
def tapsCode (n : Nat) : Nat := if n = 256 then 0 else if n = 512 then 1 else if n = 1024 then 2 else 255

/-- Divisions 0 to 8 in beats, numerator and denominator (R12). -/
def division (i : Int) : Nat × Nat :=
  match i.toNat with
  | 0 => (1, 1) | 1 => (1, 2) | 2 => (1, 3) | 3 => (1, 4) | 4 => (3, 4) | 5 => (3, 8) | 6 => (1, 6) | 7 => (1, 8)
  | _ => (2, 1)

/-- Unity filter, 30 fraction bits (R35). -/
def unityBiquad : Biquad := ⟨1073741824, 0, 0, 0, 0⟩

/-- The default shaper table (R70). -/
def defaultTable : List Int := (List.range 32).map (fun k => -32768 + 2048 * (k : Int)) ++ [32767]

/-- A slot record with the defaults of R70. -/
def defaultSlot (t : SlotType) (c : LengthClass) (p : TailPolicy) : SlotRec where
  stype  := t
  lclass := c
  policy := p
  bypass := false
  params := (paramSpecs t c).map (·.dflt)
  table  := if t = .amp then defaultTable else []
  sets   := if t = .amp then List.replicate 15 unityBiquad else []

/-- The fallback record (R79). -/
def fallbackRecord : Record where
  name    := [0x44, 0x45, 0x46, 0x41, 0x55, 0x4C, 0x54]
  fadeOut := 8
  fadeIn  := 8
  tempo   := none
  chain   := [defaultSlot .volume .plain .cut]
  scenes  := [⟨[0x41], 32768, 8, []⟩]
  images  := []
  map     := []

/-! ## Names, numbers and targets -/

/-- Is a character printable (R69)? -/
def printable (c : Nat) : Bool := decide (0x20 ≤ c) && decide (c ≤ 0x7E)

/-- The characters of a name field: those before the first 00h (12.7). -/
def nameOf : List Nat → List Nat
  | [] => []
  | c :: t => if c = 0 then [] else c :: nameOf t

/-- Is a name field legal: 1 to `n` printable characters, then 00h only (R69, R82, R83)? -/
def nameLegal (n : Nat) (f : List Nat) : Bool :=
  let w := nameOf f
  decide (1 ≤ w.length) && decide (w.length ≤ n) && w.all printable && (f.drop w.length).all (· == 0)

/-- A preset number that may be none, FFh (12). -/
def presetOf (n : Nat) : Option Nat := if n = 255 then none else some n

/-- The target a packet names (12.5). -/
def targetOf (r : RawTarget) : Option Target :=
  match r.kind with
  | 0 => some (.param r.a r.b)
  | 1 => some (.bypass r.a)
  | 2 => some .level
  | 3 => some (.sat r.a r.b)
  | _ => none

/-- The three bytes of a target (12.7). -/
def targetBytes : Target → List Byte
  | .param p i => [0, byte p, byte i]
  | .bypass p => [1, byte p, 0]
  | .level => [2, 0, 0]
  | .sat s r => [3, byte s, byte r]

/-- The position a target names. -/
def targetPos : Target → Option Nat
  | .param p _ => some p
  | .bypass p => some p
  | _ => none

/-- The specification of a parameter of a chain. -/
def chainParam (chain : List SlotRec) (pos idx : Nat) : Option ParamSpec :=
  match chain[pos]? with
  | some r => (paramSpecs r.stype r.lclass)[idx]?
  | none => none

/-- The range of a target's values (R59); none where the target names nothing of the chain. -/
def targetRange (chain : List SlotRec) : Target → Option (Int × Int)
  | .param p i => (chainParam chain p i).map fun q => (q.lo, q.hi)
  | .bypass p => if p < chain.length then some (0, 32768) else none
  | .level => some (0, 32768)
  | .sat s r => if s < 8 ∧ r < 16 then some (0, 255) else none

/-- The value a two-byte field gives for a range: signed where the range is (R59). -/
def fieldValue (range : Int × Int) (v : Nat) : Int := if range.1 < 0 then signed16 v else (v : Int)

/-- Bypass on or off of a value of a bypass target (R59): 16384 or more is on; 1, the value SET_PARAM gives (R81), is on
too. DESIGN CHOICE (log 14). -/
def bypassOn (v : Int) : Bool := v == 1 || decide (16384 ≤ v)

/-- Codes of rates (12.7). -/
def rateOf : Nat → Option Rate
  | 0 => some .k250 | 1 => some .m1 | 2 => some .m3 | _ => none
/-- Code of a rate (12.7). -/
def rateCode : Rate → Nat
  | .k250 => 0 | .m1 => 1 | .m3 => 2

/-- The marks of a mask field that the part takes: the kinds of R182 without bits 1 and 7 (12.7). -/
def maskOf (m : Nat) : BitVec 16 := BitVec.ofNat 16 m &&& 0x077D

/-- Codes of tempo sources (12.4). -/
def tempoSourceOf : Nat → Option TempoSource
  | 0 => some .internal | 1 => some .tap | 2 => some .external | _ => none
/-- Code of a tempo source (12.4). -/
def tempoSourceCode : TempoSource → Nat
  | .internal => 0 | .tap => 1 | .external => 2
/-- Codes of tuner modes (12.7). -/
def tunerModeOf : Nat → Option TunerMode
  | 0 => some .off | 1 => some .watch | 2 => some .mute | _ => none
/-- Code of a tuner mode (12.4). -/
def tunerModeCode : TunerMode → Nat
  | .off => 0 | .watch => 1 | .mute => 2
/-- Code of a detector state (12.4). -/
def detCode : DetState → Nat
  | .silent => 0 | .seeking => 1 | .locked => 2
/-- Code of a transport state (12.4). -/
def transportCode : Transport → Nat
  | .stopped => 0 | .armed => 1 | .running => 2 | .held => 3
/-- Code of a satellite state (12.4). -/
def satStateCode : SatState → Nat
  | .unknown => 0 | .absent => 1 | .restoring => 2 | .behind => 3 | .inStep => 4
/-- Code of a satellite class (12.4). -/
def satClassCode : SatClass → Nat
  | .urgent => 0 | .pass => 1 | .routine => 2 | .poll => 3
/-- Code of the last end of an upload (12.4). -/
def lastEndCode : LastEnd → Nat
  | .none => 0 | .saved => 1 | .unjoined => 2 | .lapsed => 3 | .broken => 4
/-- Code of an audio clock state (12.4). -/
def clockCode : ClockState → Nat
  | .present => 0 | .lost => 1 | .returning => 2
/-- Code of a start-up state (12.4). -/
def startCode : StartPhase → Nat
  | .booting => 0 | .images => 1 | .firstLoad => 2 | .running => 3
/-- Code of the engine state (12.4). -/
def engineCode : Option Phase → Nat
  | none => 0 | some .loading => 1 | some .fadingOut => 2 | some .fadingIn => 3 | some .ramping => 4
/-- Code of an origin (12.4). -/
def originCode : Origin → Nat
  | .link l => l.val
  | .cue _ => 4

/-- The engine state: none is IDLE (R94). -/
def engine (s : State) : Option Phase := s.sw.inflight.map (·.phase)

end Sys2Proof.Machine
end

