-- ==== Sys2Proof/Machine/Flags.lean ====
section
/-! DEFINITION. The flags: notice pending flags of the links (R182) and the mute holders' bits (12.4). -/

namespace Sys2Proof.Machine

/-- The order of a notice kind (R182). -/
def noticeOrder : NoticeKind → Nat
  | .scene => 0 | .switchOutcome => 1 | .tuner => 2 | .beat => 3 | .cue => 4 | .satellite => 5 | .store => 6
  | .area => 7 | .stash => 8 | .clock => 9 | .panic => 10

/-- The notice kinds in order. -/
def noticeKinds : List NoticeKind :=
  [.scene, .switchOutcome, .tuner, .beat, .cue, .satellite, .store, .area, .stash, .clock, .panic]

/-- The flag bit of a kind. -/
def noticeBit (k : NoticeKind) : BitVec 16 := 1#16 <<< noticeOrder k

/-- An event makes a notice pending on every link whose seat's mask marks the kind (R182). -/
def raise (k : NoticeKind) (s : State) : State :=
  onLink (fun c => { c with links := c.links.map fun l =>
    { l with flags := l.flags ||| (l.seat.mask &&& noticeBit k) } }) s

/-- An event makes a notice pending on its origin link alone (SWITCH_OUTCOME, AREA: R182). -/
def raiseOn (k : NoticeKind) (l : Fin 4) (s : State) : State :=
  onLinkAt l (fun r => { r with flags := r.flags ||| noticeBit k }) s

/-- The lowest-numbered pending kind of a set of flags (R183). -/
def lowestFlag (f : BitVec 16) : Option NoticeKind := noticeKinds.find? fun k => (f &&& noticeBit k) != 0

/-- A new mask on a link (R182): flags of the kinds it no longer marks are cleared, SWITCH_OUTCOME and AREA flags kept. -/
def maskedFlags (flags mask : BitVec 16) : BitVec 16 := flags &&& (mask ||| 0x0082)

/-- The holders as bits: tuner, panic, start-up, clock from bit 0 (12.4). -/
def holderBits (h : Holders) : Nat :=
  (if h.tuner then 1 else 0) + (if h.panic then 2 else 0) + (if h.startup then 4 else 0) + (if h.clock then 8 else 0)

/-- Is any mute holder set (R27)? -/
def anyHolder (h : Holders) : Bool := h.tuner || h.panic || h.startup || h.clock

end Sys2Proof.Machine
end

