-- ==== Sys2Proof/Machine/Areas.lean ====
section
/-! DEFINITION. The Area Manager's operations (chapter 3): counts of areas, joins, releases, image references. A release
needs no report of its own: what waits for one (the line join) is due as soon as the areas allow it (log 1). -/

namespace Sys2Proof.Machine

/-- Is an area FREE? -/
def isFree : Area → Bool
  | .free => true
  | _ => false

/-- Is an area IMAGE or LOADING (R19)? -/
def isImageOrLoading : Area → Bool
  | .image .. => true
  | .loading .. => true
  | _ => false

/-- Number of FREE areas. -/
def freeAreas (m : AreaMan) : Nat := (m.areas.filter isFree).length

/-- Make an area FREE (R46). -/
def freeArea (a : Nat) (m : AreaMan) : AreaMan := { m with areas := m.areas.set a .free }

/-- Make several areas FREE. -/
def freeAreaList (l : List Nat) (m : AreaMan) : AreaMan := l.foldl (fun m a => freeArea a m) m

/-- A LINE area changes holder; phase and half are unchanged (R46). -/
def rehold (h : Holder) (a : Nat) (m : AreaMan) : AreaMan :=
  { m with areas := modAt m.areas a fun
      | .line _ ready second => .line h ready second
      | x => x }

/-- Several LINE areas change holder. -/
def reholdList (h : Holder) (l : List Nat) (m : AreaMan) : AreaMan := l.foldl (fun m a => rehold h a m) m

/-- The areas of a line need at one incoming position, from the FREE areas, lowest first: each enters LINE, FILLING; the
second of a pair is the second half (R43). -/
def joinLine (pos need : Nat) (m : AreaMan) : List Nat × AreaMan :=
  let got := (indicesFrom isFree 0 m.areas).take need
  let mark := fun (areas : List Area) (k : Nat × Nat) => areas.set k.1 (.line (.incoming pos) false (k.2 == 1))
  (got, { m with areas := (got.zip (List.range got.length)).foldl mark m.areas })

/-- The line join of a chain whose first slot stands at `pos` (R43): for each DELAY and REVERB its position and areas. -/
def joinLines : Nat → List SlotRec → AreaMan → List (Nat × List Nat) × AreaMan
  | _, [], m => ([], m)
  | pos, r :: t, m =>
    let need := lineNeed r.stype r.lclass
    if need = 0 then joinLines (pos + 1) t m
    else
      let (got, m1) := joinLine pos need m
      let (rest, m2) := joinLines (pos + 1) t m1
      ((pos, got) :: rest, m2)

/-- Is a LINE area READY? -/
def lineReady (m : AreaMan) (a : Nat) : Bool :=
  match m.areas[a]? with
  | some (.line _ r _) => r
  | _ => false

/-- Are all areas of a line join READY (R44)? -/
def joinReady (m : AreaMan) (j : List (Nat × List Nat)) : Bool := j.all fun p => p.2.all (lineReady m)

/-- The fill of an area ends (R44): its words are 0 and it is READY. -/
def fillArea (a : Nat) (m : AreaMan) : AreaMan :=
  { m with
    dram := dramClear m.dram (areaAddr a 0) (areaAddr (a + 1) 0)
    areas := modAt m.areas a fun
      | .line h _ second => .line h true second
      | x => x }

/-- Is an area a LINE in fill phase FILLING? -/
def isFilling (m : AreaMan) (a : Nat) : Bool :=
  match m.areas[a]? with
  | some (.line _ ready _) => !ready
  | _ => false

/-- A CAB resolves an image slot (R10, R47): the area's count rises, or no area is read. -/
def resolveImage (slot : Nat) (m : AreaMan) : Option (Nat × Nat) × AreaMan :=
  match m.table.getD slot none with
  | some (a, taps) =>
    (some (a, taps), { m with areas := modAt m.areas a fun
      | .image i t refs => .image i t (refs + 1)
      | x => x })
  | none => (none, m)

/-- An IMAGE area with count 0 that no image slot maps to becomes FREE (R48). -/
def settleImage : Area → Area
  | .image none _ 0 => .free
  | x => x

/-- A CAB ceases to read an area (R47, R48). -/
def releaseImage (i : Option (Nat × Nat)) (m : AreaMan) : AreaMan :=
  match i with
  | some (a, _) =>
    { m with areas := modAt m.areas a fun
      | .image sl t refs => settleImage (.image sl t (refs - 1))
      | x => x }
  | none => m

/-- An image slot's previous area is orphaned (R48). -/
def orphanImage (a : Nat) (m : AreaMan) : AreaMan :=
  { m with areas := modAt m.areas a fun
      | .image _ t refs => settleImage (.image none t refs)
      | x => x }

/-- The area a link's upload holds, with its record (R48). -/
def uploadArea (m : AreaMan) (l : Fin 4) : Option Nat := (m.uploads.getD l.val ⟨none, .none⟩).area

/-- The upload of a link ends: its area is FREE, its record names no area and the last end (R51, R53, R54). -/
def endUpload (l : Fin 4) (e : LastEnd) (m : AreaMan) : AreaMan :=
  match uploadArea m l with
  | some a => { freeArea a m with uploads := m.uploads.set l.val ⟨none, e⟩ }
  | none => m

/-- The line words of sample `j` of a line in `areas` (R45): address of the left word. -/
def lineAddr (areas : List Nat) (j : Nat) : Nat :=
  if j < 131072 then areaAddr (areas.getD 0 0) (2 * j) else areaAddr (areas.getD 1 0) (2 * (j - 131072))

/-- Line length in stereo samples (R45). -/
def lineLen (areas : List Nat) : Nat := if areas.length = 2 then 262144 else 131072

/-- Read stereo sample `j` of a line. -/
def lineRead (dram : List (Nat × Word32)) (areas : List Nat) (j : Nat) : Stereo :=
  ((dramRead dram (lineAddr areas j)).toInt, (dramRead dram (lineAddr areas j + 1)).toInt)

/-- Write stereo sample `j` of a line. -/
def lineWrite (dram : List (Nat × Word32)) (areas : List Nat) (j : Nat) (x : Stereo) : List (Nat × Word32) :=
  dramWrite (dramWrite dram (lineAddr areas j) (BitVec.ofInt 32 x.1)) (lineAddr areas j + 1) (BitVec.ofInt 32 x.2)

end Sys2Proof.Machine
end

