-- ==== Sys2Proof/Machine/Dsp.lean ====
section
/-! DEFINITION. The audio computations of the slot types over one frame of samples (R4, R7 to R16) and of the AMP
(R31 to R37). Samples are exact integers, narrowed where the manual narrows them. -/

namespace Sys2Proof.Machine

/-! ## Shared steps -/

/-- Run a per-sample step over a frame, in sample order. -/
def runSamples {σ : Type} (f : σ → Stereo → σ × Stereo) : σ → List Stereo → σ × List Stereo
  | s, [] => (s, [])
  | s, x :: t =>
    let (s1, y) := f s x
    let (s2, ys) := runSamples f s1 t
    (s2, y :: ys)

/-- A function on both channels. -/
def stereo (f : Int → Int) (x : Stereo) : Stereo := (f x.1, f x.2)
/-- A function of both channels' pairs. -/
def stereo2 (f : Int → Int → Int) (x y : Stereo) : Stereo := (f x.1 y.1, f x.2 y.2)
/-- The larger magnitude of both channels. -/
def peakOf (x : Stereo) : Int := max (Int.natAbs x.1) (Int.natAbs x.2)
/-- Slot output saturation (R4). -/
def satStereo (x : Stereo) : Stereo := stereo sat32 x

/-- The slot output of R7: `floor(wet × w / 32768) + floor(x × (32768 − w) / 32768)`, saturated (R4). -/
def bypassMix (w : Int) (x wet : Stereo) : Stereo :=
  stereo2 (fun x y => sat32 (mulQ15 y w + mulQ15 x (32768 - w))) x wet

/-- Input conversion of a port sample (R4). -/
def portIn (x : Int) : Int := x * 16
/-- Output conversion to a port sample (R4). -/
def portOut (x : Int) : Int := sat24 (floorDiv x 16)

/-- One step of a second-order filter with its history (R35). -/
def biquadStep (c : Biquad) (h : BiqHist) (x : Int) : BiqHist × Int :=
  let acc := c.b0 * x + c.b1 * h.x1 + c.b2 * h.x2 - c.a1 * h.y1 - c.a2 * h.y2
  let y := sat32 (floorDiv acc 1073741824)
  (⟨x, h.x1, y, h.y1⟩, y)

/-- Filters in series, first first: each filter's output is the next one's input (R11, R35). -/
def biquadChain : List Biquad → List BiqHist → Int → List BiqHist × Int
  | c :: cs, h :: hs, x =>
    let (h1, y) := biquadStep c h x
    let (hs1, z) := biquadChain cs hs y
    (h1 :: hs1, z)
  | _, hs, x => (hs, x)

/-! ## Fractions -/

/-- Lowest terms. -/
def fracNorm (f : Frac) : Frac := let g := max 1 (Nat.gcd f.num f.den); ⟨f.num / g, f.den / g⟩
/-- The fractional part of a sum. -/
def fracAdd (a b : Frac) : Frac :=
  let d := max 1 (a.den * b.den)
  fracNorm ⟨(a.num * b.den + b.num * a.den) % d, d⟩

/-! ## COMP (R9) -/

/-- `1 − x/k × (1 − x/(k+1) × …)` with `x = 1 / n`, as numerator and denominator, from the innermost of `j` terms out. -/
def expTail (n : Nat) : Nat → Nat → Int × Int
  | _, 0 => (1, 1)
  | k, j + 1 => let (a, b) := expTail n (k + 1) j; (b * (n * k) - a, b * (n * k))

/-- Envelope coefficient of a time in ms: `floor(32768 × (1 − exp(−1 / (48 × t))))`, at least 1 (R9); 12 terms of the
series decide the floor for every t of 1 to 2000. -/
def compCoeff (t : Int) : Int :=
  let n := 48 * t.toNat
  let (a, b) := expTail n 2 12
  max 1 ((32768 * a) / (b * n))

/-- Does the gain `g` not exceed `32768 × (T / e)^(1 − 10 / ratio)`? Exact: both sides to the power `ratio`. -/
def compGainOk (t e ratio g : Nat) : Bool :=
  decide (g ^ ratio * e ^ (ratio - 10) ≤ 32768 ^ ratio * t ^ (ratio - 10))

/-- The largest gain below `2 ^ k` above `lo` that does not exceed the bound. -/
def compSearch (t e ratio : Nat) : Nat → Nat → Nat
  | 0, lo => lo
  | k + 1, lo => if compGainOk t e ratio (lo + 2 ^ k) then compSearch t e ratio k (lo + 2 ^ k) else compSearch t e ratio k lo

/-- COMP gain (R9): 32768 while the envelope does not exceed the level and with ratio 1.0:1, else the floor of the exact
power, which then lies below 32768. -/
def compGain (t e ratio : Int) : Int :=
  if e ≤ t ∨ ratio ≤ 10 then 32768 else (compSearch t.toNat e.toNat ratio.toNat 15 0 : Nat)

/-- One COMP sample: envelope, then wet output (R9). -/
def compStep (level ratio attack release makeup : Int) (e : Int) (x : Stereo) : Int × Stereo :=
  let p := peakOf x
  let c := if p > e then attack else release
  let e1 := e + mulQ15 (p - e) c
  let g := compGain level e1 ratio
  (e1, stereo (fun v => floorDiv (mulQ15 v g * makeup) 4096) x)

/-! ## AMP (R31 to R37) -/

/-- Pre-gain and clamp (R32). -/
def ampPre (g x : Int) : Int := clampInt (-536870912) 536870911 (floorDiv (x * g) 4096)

/-- Shaper (R33). -/
def ampShape (y : List Int) (x : Int) : Int :=
  let u := (x + 536870912).toNat
  let i := u / 33554432
  let f := u % 33554432
  y.getD i 0 * 16384 + floorDiv ((y.getD (i + 1) 0 - y.getD i 0) * f) 2048

/-- Interpolation of one coefficient at knob `k` (R34). -/
def ampCoeff (c0 c1 : Int) (k j : Nat) : Int := c0 + floorDiv ((c1 - c0) * ((k - 25 * j : Nat) : Int)) 25

/-- Interpolated coefficients of tone filter `f` at knob `k`, from the 15 sets (filter-major, R29, R34). -/
def ampTone (sets : List Biquad) (f k : Nat) : Biquad :=
  let j := min 3 (k / 25)
  let a := sets.getD (5 * f + j) unityBiquad
  let b := sets.getD (5 * f + j + 1) unityBiquad
  ⟨ampCoeff a.b0 b.b0 k j, ampCoeff a.b1 b.b1 k j, ampCoeff a.b2 b.b2 k j, ampCoeff a.a1 b.a1 k j, ampCoeff a.a2 b.a2 k j⟩

/-- Sag gain of an envelope (R36). -/
def sagGain (depth e : Int) : Int := max 8192 (32768 - floorDiv (depth * e) 134217728)

/-- Sag envelope step (R36). -/
def sagStep (attack release e p : Int) : Int := e + mulQ15 (p - e) (if p > e then attack else release)

/-- Parameters of an AMP in force for a frame (R31). -/
structure AmpCtl where
  pre     : Int
  depth   : Int
  attack  : Int
  release : Int
  level   : Int
  deriving DecidableEq, Repr

/-- One AMP sample (R31): state is both channels' histories and the sag envelope. -/
def ampStep (c : AmpCtl) (table : List Int) (coeffs : List Biquad) (st : List BiqHist × List BiqHist × Int) (x : Stereo) :
    (List BiqHist × List BiqHist × Int) × Stereo :=
  let (hl, yl) := biquadChain coeffs st.1 (ampShape table (ampPre c.pre x.1))
  let (hr, yr) := biquadChain coeffs st.2.1 (ampShape table (ampPre c.pre x.2))
  let g := sagGain c.depth st.2.2
  let e := sagStep c.attack c.release st.2.2 (peakOf (yl, yr))
  ((hl, hr, e), stereo (fun y => mulQ15 (mulQ15 y g) c.level) (yl, yr))

/-! ## CAB (R10) -/

/-- The exact sum of products of two lists. -/
def dot : List Int → List Int → Int
  | a :: as, b :: bs => a * b + dot as bs
  | _, _ => 0

/-- Taps 0 to `n − 1` of an image in area `a` with `taps` taps: left and right coefficients; taps beyond the image's end
are 0 (R10). -/
def imageTaps (dram : List (Nat × Word32)) (a taps n : Nat) : List Int × List Int :=
  let m := min taps n
  let w := (dramBlock dram (areaAddr a 0) (2 * m)).map BitVec.toInt
  ((List.range m).map fun k => w.getD (2 * k) 0, (List.range m).map fun k => w.getD (2 * k + 1) 0)

/-- One convolved CAB sample with the history of `n − 1` earlier samples, newest first (R10). -/
def cabStep (n : Nat) (h : List Int × List Int) (hist : List Stereo) (x : Stereo) : List Stereo × Stereo :=
  let w := x :: hist
  (w.take (n - 1), stereo (fun a => sat32 (floorDiv a 1073741824)) (dot h.1 (w.map (·.1)), dot h.2 (w.map (·.2))))

/-! ## EQ (R11) -/

/-- Band filters from the 16-bit parameters (R11). -/
def eqBands (p : List Int) : List Biquad :=
  (List.range 4).map fun b =>
    let c := fun k => p.getD (5 * b + k) 0 * 65536
    ⟨c 0, c 1, c 2, c 3, c 4⟩

/-! ## MOD (R12) -/

/-- LFO value of a phase (R12). -/
def lfoValue (f : Frac) : Nat :=
  if 2 * f.num < f.den then 65536 * f.num / f.den else 65536 * (f.den - f.num) / f.den

/-- The CHORUS tap in 1/256 sample (R12): exact value `61440 + 3 × depth × v / 40`; where it is no whole number the manual
does not round it (log 8). -/
def chorusTap (depth v : Nat) : Nat :=
  let num := 3 * depth * v
  61440 + num / 40 + (if num % 40 ≠ 0 ∧ Config.chorusTapUp num 40 then 1 else 0)

/-- Linear interpolation between two samples at a fraction of 1/256 (R12, log 8). -/
def chorusLerp (f : Nat) (a b : Int) : Int :=
  let num := a * ((256 - f : Nat) : Int) + b * (f : Int)
  floorDiv num 256 + (if num % 256 ≠ 0 ∧ Config.chorusSampleUp num then 1 else 0)

/-- Parameters of a MOD in force for a frame, with its phase advance per sample. -/
structure ModCtl where
  chorus : Bool
  depth  : Nat
  mix    : Int
  step   : Frac
  deriving DecidableEq, Repr

/-- One MOD sample (R12): state is the phase and the buffer, newest sample first, the current one included. -/
def modStep (c : ModCtl) (st : Frac × List Stereo) (x : Stereo) : (Frac × List Stereo) × Stereo :=
  let v := lfoValue st.1
  let buf := (x :: st.2).take 2048
  let m :=
    if c.chorus then
      let t := chorusTap c.depth v
      stereo2 (chorusLerp (t % 256)) (buf.getD (t / 256) (0, 0)) (buf.getD (t / 256 + 1) (0, 0))
    else stereo (fun y => mulQ15 y (32768 - ((c.depth * v / 100 : Nat) : Int))) x
  ((fracAdd st.1 c.step, buf), stereo2 (fun a b => mulQ15 a (32768 - c.mix) + mulQ15 b c.mix) x m)

/-! ## DELAY (R13, R14) -/

/-- Parameters of a DELAY in force for a frame: taps, cross-fade weight, feed, feedback, mix. -/
structure DelayCtl where
  areas    : List Nat
  d        : Nat
  next     : Option Nat
  fade     : Int
  feed     : Int
  feedback : Int
  mix      : Int
  deriving DecidableEq, Repr

/-- The read value at write position `w` (R13, R14). -/
def delayRead (c : DelayCtl) (dram : List (Nat × Word32)) (w : Nat) : Stereo :=
  let len := lineLen c.areas
  let tap := fun d => lineRead dram c.areas ((w + len - d) % len)
  match c.next with
  | none => tap c.d
  | some n => stereo2 (fun a b => mulQ15 a (32768 - c.fade) + mulQ15 b c.fade) (tap c.d) (tap n)

/-- One DELAY sample (R13): the line takes the fed input and the fed-back read value; gives the wet part. -/
def delayStep (c : DelayCtl) (st : List (Nat × Word32) × Nat) (x : Stereo) : (List (Nat × Word32) × Nat) × Stereo :=
  let r := delayRead c st.1 st.2
  let v := stereo2 (fun x r => sat32 (mulQ15 x c.feed + mulQ15 r c.feedback)) x r
  ((lineWrite st.1 c.areas st.2 v, (st.2 + 1) % lineLen c.areas), stereo (fun r => mulQ15 r c.mix) r)

/-! ## REVERB (R15) -/

/-- One REVERB sample's wet part: free values (log 7), two for each sample. -/
def reverbStep (mix : Int) (k : Nat) (_x : Stereo) : Nat × Stereo :=
  (k + 2, stereo (fun v => mulQ15 v mix) ((Config.reverbWet k).toInt, (Config.reverbWet (k + 1)).toInt))

end Sys2Proof.Machine
end

