-- ==== Sys2Proof/Machine/Tone.lean ====
section
/-! DEFINITION. The Tone Engine (chapter 1): building instances, taking up changes (R2, R3), the ramp step of a boundary
(R38), running the chain, the lanes and the output stage over one frame (R1, R20 to R25), and the mute holders (R27). -/

namespace Sys2Proof.Machine

/-! ## Tempo figures the Tone Engine reads (R139 to R141) -/

/-- Beat length of a tempo in 1/256 sample (R139). -/
def beatLen (t : Nat) : Nat := 7372800000 / max 1 t

/-- Synced length of a division at a tempo (R141). -/
def syncedLen (t : Nat) (div : Int) : Nat := beatLen t * (division div).1 / ((division div).2 * 256)

/-- The beat length handed over (R140). -/
def beatHanded (c : Show) : Nat := if c.source = .external then beatLen c.tempo else c.bc

/-- Beats elapsed with the fraction of the current beat (R140). Under EXTERNAL, past the end of the beat, the fraction is
held below 1 at a value the manual does not give (log 9). -/
def beatPhase (c : Show) : Frac :=
  let b := max 1 (beatHanded c)
  let part :=
    if c.source = .external then
      (if c.sinceBeat * 256 < b then c.sinceBeat * 256 else Config.heldFraction (c.sinceBeat * 256) b % b)
    else (b - c.countdown).toNat
  ⟨c.beatCount * b + part, b⟩

/-! ## Instances -/

/-- The current value of a parameter. -/
def parCur (i : Inst) (k : Nat) : Int := (i.params.getD k (.rest 0)).cur

/-- Processing state at the build (R5, R8 to R16, R30), with the parameter values; GATE: log 10. -/
def buildProc (t : SlotType) (p : List Int) (table : List Int) (sets : List Biquad) : Proc :=
  match t with
  | .gate => .gate (.rest 0) 0 .closed
  | .comp => .comp 0 (compCoeff (p.getD 2 1)) (compCoeff (p.getD 3 10))
  | .amp => .amp table sets ((List.range 3).map fun f => ampTone sets f (p.getD (f + 1) 0).toNat)
      (List.replicate 3 {}) (List.replicate 3 {}) 0
  | .cab => .cab none true [] (.rest 32768) .steady
  | .eq => .eq (List.replicate 4 {}) (List.replicate 4 {})
  | .mod => .mod ⟨0, 1⟩ []
  | .delay => .delay 0 0 none none none (.rest 0) false
  | .reverb => .reverb (p.getD 0 0) none none (.rest 0)
  | .loop => .loop (List.replicate 32 (0, 0))
  | .volume => .volume

/-- Clamp parameter values to the ranges of a type (R6). -/
def clampParams (t : SlotType) (c : LengthClass) (p : List Int) : List Int :=
  List.zipWith (fun (q : ParamSpec) v => clampInt q.lo q.hi v) (paramSpecs t c) p

/-- An instance built from a slot record whose parameters and bypass are the effective values, with its LINE areas (R2,
R41). -/
def buildInst (r : SlotRec) (areas : List Nat) : Inst :=
  let p := clampParams r.stype r.lclass r.params
  { stype := r.stype, lclass := r.lclass, policy := r.policy, params := p.map .rest, bypass := r.bypass
    weight := .rest (if r.bypass then 0 else 32768), proc := buildProc r.stype p r.table r.sets, areas := areas }

/-- The instance at a live position. -/
def instAt (s : State) (pos : Nat) : Option Inst := (s.tone.chain[pos]?).bind (·.inst)

/-- Replace the instance at a live position. -/
def setInst (pos : Nat) (i : Option Inst) (s : State) : State :=
  onTone (fun t => { t with chain := modAt t.chain pos fun p => { p with inst := i } }) s

/-- Cost of an instance (R17). -/
def instCost (i : Inst) : Nat := slotCost i.stype i.lclass

/-- Cost of the live chain (R18). -/
def liveCost (s : State) : Nat := sumNat (s.tone.chain.map fun p => (p.inst.map instCost).getD 0)

/-- Cost of a lane (R18). -/
def laneCost (l : Lane) : Nat := (l.inst.map instCost).getD 0

/-- LINE areas of the live instances (R18). -/
def liveLines (s : State) : Nat := sumNat (s.tone.chain.map fun p => (p.inst.map fun i => i.areas.length).getD 0)

/-- LINE areas of a lane (R18). -/
def laneLines (l : Lane) : Nat := (l.inst.map fun i => i.areas.length).getD 0

/-- Lane `l`. -/
def laneOf (s : State) (l : Nat) : Lane := s.tone.lanes.getD l Lane.clear

/-- Is a lane occupied? -/
def occupied (l : Lane) : Bool := l.st != .empty

/-- Sum of the live cost and all lane costs (R18), which R17 keeps within the budget. -/
def totalCost (s : State) : Nat := liveCost s + sumNat (s.tone.lanes.map laneCost)

/-- The figures that the Tone Engine reports to admission (R18): the live chain's cost, number, state and cost of each occupied
lane, the sum of all costs, and the LINE areas that each live position and each lane holds. -/
structure Figures where
  live      : Nat
  lanes     : List (Nat × LaneState × Nat)
  total     : Nat
  liveAreas : List (List Nat)
  laneAreas : List (List Nat)
  deriving DecidableEq, Repr

/-- The figures of R18, current when they are read. -/
def figures (s : State) : Figures where
  live      := liveCost s
  lanes     := (indicesFrom occupied 0 s.tone.lanes).map fun l => (l, (laneOf s l).st, laneCost (laneOf s l))
  total     := totalCost s
  liveAreas := s.tone.chain.map fun p => (p.inst.map (·.areas)).getD []
  laneAreas := s.tone.lanes.map fun l => (l.inst.map (·.areas)).getD []

/-! ## Delay lengths and reverb sizes (R14, R15) -/

/-- The value that a cross-faded quantity is going to: the held one, else the one faded in, else the one in use (R14). -/
def aimOf {α : Type} (cur : α) (next held : Option α) : α :=
  match next with
  | some n => held.getD n
  | none => cur

/-- Start, hold or drop a cross-fade so that the value in use goes to `wanted` (R14): gives value, next, held, fade. Where
nothing is wanted, or the value is going there already, there is no change and a running cross-fade is kept, through a clock
loss too (R3); a change during a clock loss lands at once. -/
def retarget {α : Type} [DecidableEq α] (landing : Bool) (cur : α) (next held : Option α) (fade : Ramp)
    (wanted : Option α) : α × Option α × Option α × Ramp :=
  match wanted with
  | none => (cur, next, held, fade)
  | some v =>
    if v = aimOf cur next held then (cur, next, held, fade)
    else if landing then (v, none, none, .rest 0)
    else match next with
      | some n => (cur, some n, (if v = n then none else some v), fade)
      | none => (cur, some v, none, ⟨0, 32768, 8⟩)

/-- Form D of a DELAY, or the size of a REVERB, from its parameters and take up a change (R14, R15, log 11). With sync on
and no length handed yet, D stays what it is going to be until the Show Clock hands one. -/
def retime (landing : Bool) (i : Inst) : Inst :=
  match i.proc with
  | .delay w d next held synced fade clamped =>
    let cap := delayCap i.lclass
    let sync := parCur i 1 = 1
    let syn := if sync then synced else none
    let wanted := if sync then synced.map (min · cap) else some (parCur i 0 * 48).toNat
    let tooLong := if sync then (match synced with | some n => decide (cap < n) | none => clamped) else false
    let (d1, n1, h1, f1) := retarget landing d next held fade wanted
    { i with proc := .delay w d1 n1 h1 syn f1 (if h1.isSome then clamped else tooLong) }
  | .reverb size next held fade =>
    let (z1, n1, h1, f1) := retarget landing size next held fade (some (parCur i 0))
    { i with proc := .reverb z1 n1 h1 f1 }
  | _ => i

/-- The end of a cross-fade (R14): the new tap becomes the only tap; a held change is taken up. -/
def endCrossFade (i : Inst) : Inst :=
  match i.proc with
  | .delay w _ (some n) held synced _ clamped =>
    match held with
    | some h =>
      let tooLong := parCur i 1 = 1 ∧ (synced.getD 0) > delayCap i.lclass
      { i with proc := if h = n then .delay w n none none synced (.rest 0) clamped
                       else .delay w n (some h) none synced ⟨0, 32768, 8⟩ (decide tooLong) }
    | none => { i with proc := .delay w n none none synced (.rest 0) clamped }
  | .reverb _ (some n) held _ =>
    match held with
    | some h => { i with proc := if h = n then .reverb n none none (.rest 0) else .reverb n (some h) none ⟨0, 32768, 8⟩ }
    | none => { i with proc := .reverb n none none (.rest 0) }
  | _ => i

/-- Has a cross-fade of an instance reached its end? -/
def crossFadeDone (i : Inst) : Bool :=
  match i.proc with
  | .delay _ _ (some _) _ _ f _ => f.n == 0
  | .reverb _ (some _) _ f => f.n == 0
  | _ => false

/-- The DELAY built at the boundary that takes up a rebuild (R14, R141): its length at once, without a cross-fade. -/
def buildLength (tempo : Nat) (i : Inst) : Inst :=
  match i.proc with
  | .delay w _ _ _ _ _ _ =>
    if parCur i 1 = 1 then
      let n := syncedLen tempo (parCur i 2)
      { i with proc := .delay w (min n (delayCap i.lclass)) none none (some n) (.rest 0) (decide (delayCap i.lclass < n)) }
    else { i with proc := .delay w (parCur i 0 * 48).toNat none none none (.rest 0) false }
  | _ => i

/-- The length the Show Clock has handed for a built instance (R141). -/
def builtHanded (i : Inst) : Option Nat :=
  match i.proc with
  | .delay _ _ _ _ synced _ _ => synced
  | _ => none

/-! ## CAB resolution (R10) -/

/-- Release the area read and resolve the newest image slot; the history keeps `keep` newest samples; the resolve gain
and phase become those given (R10, R47). -/
def cabResolve (pos keep : Nat) (gain : Ramp) (phase : ResolvePhase) (s : State) : State :=
  match instAt s pos with
  | some i =>
    match i.proc with
    | .cab image _ hist _ _ =>
      let (img, m) := resolveImage (parCur i 0).toNat (releaseImage image s.area)
      setInst pos (some { i with proc := .cab img img.isNone (hist.take keep) gain phase }) { s with area := m }
    | _ => s
  | none => s

/-- A change of parameter 0 of a CAB taken up (R10): without fades where the weight is 0 or the clock is lost. -/
def cabChange (landing : Bool) (pos : Nat) (s : State) : State :=
  match instAt s pos with
  | some i =>
    match i.proc with
    | .cab image miss hist gain phase =>
      if landing || i.weight.cur == 0 then cabResolve pos 0 (.rest 32768) .steady s
      else if phase = .falling then s
      else setInst pos (some { i with proc := .cab image miss hist (rampTo gain 0 4) .falling }) s
    | _ => s
  | none => s

/-- Is the CAB at a position at the point where weight 0 ends its resolve fade (R10)? -/
def weightZeroDue (i : Inst) : Bool :=
  match i.proc with
  | .cab _ _ _ gain phase => i.weight.cur == 0 && i.weight.n == 0 && (phase == .falling || gain.n != 0)
  | _ => false

/-- The bypass weight reaches 0 (R7, R10): processing is frozen from here on (R7, by the weight itself); a resolve fade
of a CAB ends. During the fade back up the re-resolution is made and the input history, cleared by it, is kept (log 60). -/
def weightZero (pos : Nat) (s : State) : State :=
  match instAt s pos with
  | some i =>
    if weightZeroDue i then
      match i.proc with
      | .cab _ _ _ _ .falling => cabResolve pos 0 (.rest 32768) .steady s
      | .cab image miss hist _ _ => setInst pos (some { i with proc := .cab image miss hist (.rest 32768) .steady }) s
      | _ => s
    else s
  | none => s

/-! ## Taking up changes (R2, R3) -/

/-- Recompute what derives from a stepped parameter (R6, R9, R34). -/
def deriveParam (idx : Nat) (v : Int) (i : Inst) : Inst :=
  match i.proc with
  | .comp e a r =>
    if idx = 2 then { i with proc := .comp e (compCoeff v) r }
    else if idx = 3 then { i with proc := .comp e a (compCoeff v) } else i
  | .amp tb sets co hl hr e =>
    if 1 ≤ idx ∧ idx ≤ 3 then { i with proc := .amp tb sets (co.set (idx - 1) (ampTone sets (idx - 1) v.toNat)) hl hr e }
    else i
  | _ => i

/-- A parameter value taken up (R6, R41): clamped; level class ramps over 8 frames, others step. -/
def setParamValue (landing : Bool) (idx : Nat) (v : Int) (i : Inst) : Inst :=
  match (paramSpecs i.stype i.lclass)[idx]? with
  | some q =>
    let x := clampInt q.lo q.hi v
    let p := if q.level then rampGo landing (i.params.getD idx (.rest 0)) x 8 else .rest x
    deriveParam idx x { i with params := i.params.set idx p }
  | none => i

/-- Is parameter `idx` of a type one that D or the size is formed from (R14, R15)? -/
def setsLength (t : SlotType) (idx : Nat) : Bool := (t == .delay && decide (idx ≤ 1)) || (t == .reverb && idx == 0)

/-- The length last handed to a DELAY whose sync a change turned off is none (R141). -/
def forgetHanded (pos idx : Nat) (i : Inst) (s : State) : State :=
  if i.stype = .delay ∧ idx = 1 ∧ parCur i 1 ≠ 1 then { s with clk := { s.clk with handed := s.clk.handed.set pos none } }
  else s

/-- A parameter change taken up at a position (R2, R6, R10). During a clock loss a new D or size is taken at once (R3). The
Show Clock's last length for a DELAY whose sync goes off is none from here on (R141). -/
def takeParam (landing : Bool) (pos idx : Nat) (v : Int) (s : State) : State :=
  match instAt s pos with
  | some i =>
    let i1 := setParamValue landing idx v i
    let s1 := setInst pos (some (if landing && setsLength i.stype idx then retime true i1 else i1)) s
    let s2 := forgetHanded pos idx i1 s1
    if i.stype = .cab ∧ idx = 0 then cabChange landing pos s2 else s2
  | none => s

/-- A bypass change taken up (R7). -/
def takeBypass (landing : Bool) (pos : Nat) (on : Bool) (s : State) : State :=
  match instAt s pos with
  | some i =>
    let s1 := setInst pos (some { i with bypass := on, weight := rampGo landing i.weight (if on then 0 else 32768) 4 }) s
    if landing then weightZero pos s1 else s1
  | none => s

/-- A synced delay length taken up (R14): by a live DELAY whose sync is on. -/
def takeSyncLen (landing : Bool) (pos len : Nat) (s : State) : State :=
  match instAt s pos with
  | some i =>
    match i.proc with
    | .delay w d next held _ fade clamped =>
      if parCur i 1 = 1 then
        let i1 := { i with proc := .delay w d next held (some len) fade clamped }
        setInst pos (some (if landing then retime true i1 else i1)) s
      else s
    | _ => s
  | none => s

/-- An instance leaves the chain for good: a CAB releases its image, a line holder its areas (R46, R47). -/
def dropInst (i : Inst) (m : AreaMan) : AreaMan :=
  match i.proc with
  | .cab image _ _ _ _ => releaseImage image m
  | _ => freeAreaList i.areas m

/-- The drop of every DELAY and REVERB still in the chain (R46): their positions are DETACHED, their areas FREE. -/
def takeDrop (s : State) : State :=
  let gone := fun (p : Position) => match p.inst with | some i => holdsLine i.stype | none => false
  let m := s.tone.chain.foldl (fun m p => if gone p then (p.inst.map fun i => dropInst i m).getD m else m) s.area
  onTone (fun t => { t with chain := t.chain.map fun p => if gone p then { p with inst := none } else p })
    { s with area := m }

/-- A move of an instance to a lane (R20, R21, R22): FEEDING, feed gain to 0 over the length, tail gain at the chain gain of
the frame before, timer loaded. A change of D or size taken up before it at the same boundary starts or holds its
cross-fade first, so it goes on in the lane (R14, R15). -/
def takeMove (pos : Nat) (lane : Fin 4) (len : Nat) (s : State) : State :=
  match instAt s pos with
  | some i =>
    if holdsLine i.stype ∧ (laneOf s lane.val).st = .empty then
      let tailTime := parCur i (if i.stype = .delay then 5 else 4)
      let l : Lane := ⟨.feeding, some (retime false i), pos, true, ⟨32768, 0, max 1 len⟩, .rest s.tone.chainGain.cur, tailTime * 4800, 0⟩
      onTone (fun t => { t with lanes := t.lanes.set lane.val l, order := t.order ++ [lane.val] })
        { setInst pos none s with area := reholdList (.lane lane.val) i.areas s.area }
    else s
  | none => s

/-- A cut fade starts (R22, R23). -/
def startCut (l : Lane) : Lane :=
  match l.st with
  | .feeding => { l with st := .cutting, tail := rampTo l.tail 0 8 }
  | .ringing => { l with st := .cutting, tail := rampTo l.tail 0 8 }
  | _ => l

/-- A lane becomes EMPTY (R23, R24): its areas are released and it leaves the order; the Switch Engine needs wait for it
no longer. -/
def emptyLane (l : Nat) (s : State) : State :=
  let lane := laneOf s l
  let s1 := { s with area := freeAreaList ((lane.inst.map (·.areas)).getD []) s.area }
  onTone (fun t => { t with lanes := t.lanes.set l Lane.clear, order := t.order.filter (· != l) })
    (onSw (fun w => { w with inflight := w.inflight.map fun f => { f with evicting := f.evicting.filter (· != l) } }) s1)

/-- The immediate cut (R24): every lane becomes EMPTY; deferred candidates are treated as CUT (R103, R111). -/
def takeCutAll (s : State) : State :=
  onSw (fun w => { w with laneReports := [], inflight := w.inflight.map fun f => { f with deferred := [] } })
    ([0, 1, 2, 3].foldl (fun s l => if occupied (laneOf s l) then emptyLane l s else s) s)

/-- The CAB instances of a chain just made live resolve their image slots in position order (R47). -/
def resolveCabs (n : Nat) (s : State) : State :=
  (List.range n).foldl (fun s pos => cabResolve pos 0 (.rest 32768) .steady s) s

/-- A rebuild taken up (R2, R46, R47, R106): the old chain's instances are dropped, the new chain becomes live, lanes in
FEEDING become RINGING and are fed no longer, the new DELAYs take their build lengths (R141). -/
def takeRebuild (insts : List Inst) (s : State) : State :=
  let m := s.tone.chain.foldl (fun m p => (p.inst.map fun i => dropInst i m).getD m) s.area
  let built := insts.map (buildLength s.clk.tempo)
  let live := fun (mk : AreaMan × Nat) (i : Inst) => (reholdList (.live mk.2) i.areas mk.1, mk.2 + 1)
  let m1 := (built.foldl live (m, 0)).1
  let lane := fun (l : Lane) =>
    { l with fed := false, st := if l.st = .feeding then .ringing else l.st, quiet := if l.st = .feeding then 0 else l.quiet }
  let s1 := onTone (fun t => { t with
    chain := built.map fun i => ⟨i.stype, some i⟩
    lanes := t.lanes.map lane }) { s with area := m1 }
  let handed := (List.range 12).map fun k => (built[k]?).bind builtHanded
  resolveCabs built.length (onClk (fun c => { c with handed := handed }) s1)

/-- A gain changed by target or set (R39, R40). While the clock is lost the chain gain is at rest at once, which the Tone
Engine reports (R104, R112). -/
def takeGain (landing : Bool) (g : GainId) (f : Ramp → Ramp) (s : State) : State :=
  match g with
  | .chain => onTone (fun t => { t with chainGain := f t.chainGain, chainRested := t.chainRested || landing }) s
  | .master => onTone (fun t => { t with master := f t.master }) s

/-- The mute factor falls because a holder was set (R27). -/
def muteFallTo (landing : Bool) (f : Ramp) : Ramp :=
  if f.cur = 0 ∧ f.target = 0 then f else rampGo landing f 0 4

/-- Take up one change (R2); `landing` while the audio clock is lost (R3). -/
def applyChange (landing : Bool) (c : Change) (s : State) : State :=
  match c with
  | .param pos idx v => takeParam landing pos idx v s
  | .bypass pos on => takeBypass landing pos on s
  | .rebuild insts => takeRebuild insts s
  | .move pos lane len => takeMove pos lane len s
  | .evict lane => onTone (fun t => { t with lanes := modAt t.lanes lane.val startCut }) s
  | .cutAll => takeCutAll s
  | .drop => takeDrop s
  | .gainTarget g t len => takeGain landing g (fun r => rampGo landing r t len) s
  | .gainSet g v => takeGain landing g (fun _ => .rest v) s
  | .muteFall => onTone (fun t => { t with mute := muteFallTo landing t.mute }) s
  | .muteRise len => onTone (fun t => { t with mute := rampGo landing t.mute 32768 len }) s
  | .muteZero => onTone (fun t => { t with mute := .rest 0 }) s
  | .syncLen pos len => takeSyncLen landing pos len s

/-- Take up changes in the order of their arrival (R2). -/
def applyChanges (landing : Bool) (cs : List Change) (s : State) : State :=
  cs.foldl (fun s c => applyChange landing c s) s

/-- Hand a change to the Tone Engine: it waits for the next boundary, or is taken up at once while the audio clock is lost
(R2, R3). -/
def hand (c : Change) (s : State) : State :=
  if present s then onTone (fun t => { t with changes := t.changes ++ [c] }) s else applyChange true c s

/-! ## Mute holders (R27) -/

/-- Set a holder that `get` reads and `set` writes. -/
def setHolder (get : Holders → Bool) (set : Holders → Bool → Holders) (s : State) : State :=
  if get s.tone.holders then s
  else hand .muteFall (onTone (fun t => { t with holders := set t.holders true }) s)

/-- Release a holder: the factor rises over `len` frames if none remains; the clock holder sets it to 0 first. -/
def releaseHolder (get : Holders → Bool) (set : Holders → Bool → Holders) (zero : Bool) (len : Nat) (s : State) : State :=
  if get s.tone.holders then
    let s1 := onTone (fun t => { t with holders := set t.holders false }) s
    let s2 := if zero then hand .muteZero s1 else s1
    if anyHolder s2.tone.holders then s2 else hand (.muteRise len) s2
  else s

/-- The Tuner entering MUTE. -/
def setTunerHolder (s : State) : State := setHolder (·.tuner) (fun h b => { h with tuner := b }) s
/-- The Tuner leaving MUTE. -/
def releaseTunerHolder (s : State) : State := releaseHolder (·.tuner) (fun h b => { h with tuner := b }) false 16 s
/-- PANIC. -/
def setPanicHolder (s : State) : State := setHolder (·.panic) (fun h b => { h with panic := b }) s
/-- UNPANIC. -/
def releasePanicHolder (s : State) : State := releaseHolder (·.panic) (fun h b => { h with panic := b }) false 16 s
/-- Start-up reaching RUNNING. -/
def releaseStartupHolder (s : State) : State := releaseHolder (·.startup) (fun h b => { h with startup := b }) false 16 s
/-- The audio clock declared lost. -/
def setClockHolder (s : State) : State := setHolder (·.clock) (fun h b => { h with clock := b }) s
/-- The audio clock declared returned. -/
def releaseClockHolder (s : State) : State := releaseHolder (·.clock) (fun h b => { h with clock := b }) true 32 s

/-! ## The ramp step of a boundary (R1 step 2, R8, R38) -/

/-- The gate's comparison at the boundary (R8). -/
def gateCompare (threshold release : Int) (gain : Ramp) (peak : Int) (st : GateState) : Ramp × GateState :=
  if threshold * 4096 ≤ peak then
    (if st = .open then (gain, st) else (rampTo gain 32768 1, .open))
  else
    (if st = .open then (rampTo gain 0 (release * 3 / 2).toNat, .closing) else (gain, st))

/-- One step of every ramp of an instance. The processing state of types other than DELAY and REVERB is frozen from the
boundary at which the bypass weight reaches 0 (R7); that of an AMP holds its pre-gain and output level ramps (R30), while
the level parameters of the other types are none of theirs (R5) and run on. -/
def stepInst (i : Inst) : Inst :=
  let w := rampStep i.weight
  let i1 := { i with weight := w, params := if i.stype = .amp ∧ w.cur = 0 then i.params else i.params.map rampStep }
  match i.proc with
  | .gate gain peak st =>
    if w.cur = 0 then i1
    else
      let (g, st1) := gateCompare (parCur i1 0) (parCur i1 1) gain peak st
      { i1 with proc := .gate (rampStep g) peak st1 }
  | .cab image miss hist gain phase =>
    if w.cur = 0 then i1
    else
      let g := rampStep gain
      { i1 with proc := .cab image miss hist g (if phase = .rising ∧ g.n = 0 then .steady else phase) }
  | .delay wp d next held synced fade clamped => { i1 with proc := .delay wp d next held synced (rampStep fade) clamped }
  | .reverb size next held fade => { i1 with proc := .reverb size next held (rampStep fade) }
  | _ => i1

/-- One step of every ramp of a lane. -/
def stepLane (l : Lane) : Lane :=
  { l with inst := l.inst.map stepInst, feed := rampStep l.feed, tail := rampStep l.tail }

/-- One step of every ramped quantity (R38). The chain gain coming to rest is reported (R104). -/
def stepRamps (t : Tone) : Tone :=
  let g := rampStep t.chainGain
  { t with
    chain := t.chain.map fun p => { p with inst := p.inst.map stepInst }
    lanes := t.lanes.map stepLane
    chainGain := g
    master := rampStep t.master
    mute := rampStep t.mute
    chainRested := t.chainRested || (t.chainGain.n == 1) }

/-! ## Running a frame -/

/-- What a frame's processing reads besides the instances: the captured returns, converted, and the beat phase and length
that the Show Clock hands over (R140). -/
structure FrameEnv where
  ret   : List Stereo
  phase : Frac
  beat  : Nat
  deriving DecidableEq, Repr

/-- What running one instance over a frame gives. -/
structure SlotOut where
  out  : List Stereo
  inst : Inst
  dram : List (Nat × Word32)
  free : Nat
  send : Option (List Stereo)
  deriving DecidableEq, Repr

/-- The wet part of a DELAY or REVERB over a frame, fed `x × w / 32768` (R7, R13, R15). -/
def runLine (dram : List (Nat × Word32)) (free : Nat) (i : Inst) (xs : List Stereo) : SlotOut :=
  match i.proc with
  | .delay w d next held synced fade clamped =>
    let c : DelayCtl := ⟨i.areas, d, next, fade.cur, i.weight.cur, parCur i 3, parCur i 4⟩
    let ((dram1, w1), ys) := runSamples (delayStep c) (dram, w) xs
    ⟨ys, { i with proc := .delay w1 d next held synced fade clamped }, dram1, free, none⟩
  | .reverb .. =>
    let (k, ys) := runSamples (reverbStep (parCur i 3)) free xs
    ⟨ys, i, dram, k, none⟩
  | _ => ⟨xs.map fun _ => (0, 0), i, dram, free, none⟩

/-- The wet output of the other types over a frame (R8 to R12, R16, R31). A CAB's wet output times its resolve gain is
floored (log 48). -/
def runWet (env : FrameEnv) (dram : List (Nat × Word32)) (i : Inst) (xs : List Stereo) : List Stereo × Proc :=
  match i.proc with
  | .gate gain _ st =>
    (xs.map (stereo fun v => mulQ15 v gain.cur), .gate gain (xs.foldl (fun m x => max m (peakOf x)) 0) st)
  | .comp e a r =>
    let (e1, ys) := runSamples (compStep (parCur i 0 * 4096) (parCur i 1) a r (parCur i 4)) e xs
    (ys, .comp e1 a r)
  | .amp tb sets co hl hr e =>
    let c : AmpCtl := ⟨parCur i 0, parCur i 4, parCur i 5, parCur i 6, parCur i 7⟩
    let ((hl1, hr1, e1), ys) := runSamples (ampStep c tb co) (hl, hr, e) xs
    (ys, .amp tb sets co hl1 hr1 e1)
  | .cab image miss hist gain phase =>
    let n := classTaps i.lclass
    match image with
    | some (a, taps) =>
      let (hist1, ys) := runSamples (cabStep n (imageTaps dram a taps n)) hist xs
      (ys.map (stereo fun v => mulQ15 (mulQ15 v (parCur i 1)) gain.cur), .cab image miss hist1 gain phase)
    | none =>
      let hist1 := (xs.reverse ++ hist).take (n - 1)
      (xs.map (stereo fun v => mulQ15 v gain.cur), .cab image miss hist1 gain phase)
  | .eq hl hr =>
    let bands := eqBands (i.params.map (·.cur))
    let step := fun (st : List BiqHist × List BiqHist) (x : Stereo) =>
      let (l1, yl) := biquadChain bands st.1 x.1
      let (r1, yr) := biquadChain bands st.2 x.2
      ((l1, r1), stereo (fun y => mulQ15 y (parCur i 20)) (yl, yr))
    let ((hl1, hr1), ys) := runSamples step (hl, hr) xs
    (ys, .eq hl1 hr1)
  | .mod phase buf =>
    let sync := parCur i 3 = 1
    let (dn, dd) := division (parCur i 4)
    let phase1 := if sync then fracNorm ⟨(env.phase.num * dd) % (env.phase.den * dn), env.phase.den * dn⟩ else phase
    let adv : Frac := if sync then ⟨256 * dd, env.beat * dn⟩ else ⟨(parCur i 2).toNat, 4800000⟩
    let c : ModCtl := ⟨parCur i 0 = 1, (parCur i 1).toNat, parCur i 5, adv⟩
    let ((phase2, buf1), ys) := runSamples (modStep c) (phase1, buf) xs
    (ys, .mod phase2 buf1)
  | .loop ret =>
    let m := parCur i 0
    (List.zipWith (stereo2 fun x r => mulQ15 x (32768 - m) + mulQ15 r m) xs ret, .loop env.ret)
  | .volume => (xs.map (stereo fun v => mulQ15 v (parCur i 0)), .volume)
  | p => (xs, p)

/-- Run a live instance over a frame (R1, R4, R7). -/
def runInst (env : FrameEnv) (dram : List (Nat × Word32)) (free : Nat) (i : Inst) (xs : List Stereo) : SlotOut :=
  if holdsLine i.stype then
    let r := runLine dram free i xs
    { r with out := List.zipWith (stereo2 fun x y => sat32 (x + y)) xs r.out }
  else if i.weight.cur = 0 then ⟨xs.map satStereo, i, dram, free, none⟩
  else
    let (wet, p) := runWet env dram i xs
    ⟨List.zipWith (bypassMix i.weight.cur) xs wet, { i with proc := p }, dram, free,
      if i.stype = .loop then some (xs.map (stereo portOut)) else none⟩

/-- What running the chain over a frame gives: outputs, new positions, the input that reached each position. -/
structure ChainOut where
  out    : List Stereo
  chain  : List Position
  inputs : List (List Stereo)
  dram   : List (Nat × Word32)
  free   : Nat
  send   : Option (List Stereo)
  deriving DecidableEq, Repr

/-- Run the chain, position 0 first; a DETACHED position passes its input (R1, R5). -/
def runChain (env : FrameEnv) (dram : List (Nat × Word32)) (free : Nat) : List Position → List Stereo → ChainOut
  | [], xs => ⟨xs, [], [], dram, free, none⟩
  | p :: ps, xs =>
    match p.inst with
    | none =>
      let r := runChain env dram free ps xs
      { r with chain := p :: r.chain, inputs := xs :: r.inputs }
    | some i =>
      let o := runInst env dram free i xs
      let r := runChain env o.dram o.free ps o.out
      { r with chain := { p with inst := some o.inst } :: r.chain, inputs := xs :: r.inputs,
               send := match o.send with | some x => some x | none => r.send }

/-- Consecutive samples in which both channels stay below 4096 (R22). -/
def quietCount (q : Nat) (ys : List Stereo) : Nat :=
  ys.foldl (fun q y => if peakOf y < 4096 then q + 1 else 0) q

/-- Silence for one frame. -/
def silence : List Stereo := List.replicate 32 (0, 0)

/-- Run an occupied lane over a frame (R21, R22): gives its contribution to the bus. A lane whose cut fade has reached 0
contributes nothing (R23). -/
def runLane (inputs : List (List Stereo)) (dram : List (Nat × Word32)) (free : Nat) (l : Lane) :
    List Stereo × Lane × List (Nat × Word32) × Nat :=
  match l.inst with
  | some i =>
    if l.st = .cutting ∧ l.tail.n = 0 ∧ l.tail.cur = 0 then (silence, l, dram, free)
    else
      let xs := if l.fed then (inputs.getD l.former silence).map (stereo fun x => mulQ15 x l.feed.cur) else silence
      let r := runLine dram free i xs
      let q := if l.st = .ringing ∧ i.stype = .delay then quietCount l.quiet r.out else l.quiet
      (r.out.map (stereo fun y => mulQ15 y l.tail.cur), { l with inst := some r.inst, quiet := q }, r.dram, r.free)
  | none => (silence, l, dram, free)

/-- Run the lanes in order of number: gives the sum of their contributions. -/
def runLanes (inputs : List (List Stereo)) (dram : List (Nat × Word32)) (free : Nat) :
    List Lane → List Stereo × List Lane × List (Nat × Word32) × Nat
  | [] => (silence, [], dram, free)
  | l :: ls =>
    let (y, l1, d1, f1) := runLane inputs dram free l
    let (ys, ls1, d2, f2) := runLanes inputs d1 f1 ls
    (List.zipWith (stereo2 fun a b => a + b) y ys, l1 :: ls1, d2, f2)

/-- The output stage for one sample (R25): chain output and the sum of the lanes, both already exact. -/
def outputStage (chainGain master mute : Int) (x lanes : Int) : Int :=
  portOut (mulQ15 (mulQ15 (mulQ15 x chainGain + lanes) master) mute)

/-- Steps 3 to 5 of R1 over the captured frame. -/
def runFrame (c : Captured) (s : State) : State :=
  let pair := fun (a b : List Int) => List.zipWith (fun x y => (portIn x, portIn y)) a b
  let env : FrameEnv := ⟨pair c.retL c.retR, beatPhase s.clk, beatHanded s.clk⟩
  let r := runChain env s.area.dram s.freeCount s.tone.chain (pair c.inA c.inA)
  let (lanes, ls, d, f) := runLanes r.inputs r.dram r.free s.tone.lanes
  let t := s.tone
  let main := List.zipWith (stereo2 (outputStage t.chainGain.cur t.master.cur t.mute.cur)) r.out lanes
  { s with
    tone := { t with chain := r.chain, lanes := ls, mainOut := main, sendOut := r.send.getD silence }
    area := { s.area with dram := d }
    freeCount := f }

/-! ## Natural ends of lanes (R22) -/

/-- Start the natural end of a lane in FEEDING or RINGING. -/
def laneNatural (l : Lane) : Lane :=
  let t := l.timer - 32
  let ends := decide (t ≤ 0) || ((l.inst.map fun i => i.stype == .delay).getD false && decide (2048 ≤ l.quiet))
  let l1 := { l with timer := t }
  match l.st with
  | .empty => l
  | .cutting => l1
  | _ => if ends then startCut l1 else l1

/-- Take up at a boundary the D of every DELAY and the size of every REVERB of the live chain (R14, R15). -/
def retimeAll (t : Tone) : Tone :=
  { t with chain := t.chain.map fun p => { p with inst := p.inst.map (retime false) } }

end Sys2Proof.Machine
end

