-- ==== Sys2Proof/Machine/Tempo.lean ====
section
/-! DEFINITION. The tempo of the Show Clock and its neighbours (R133, R135, R139, R141). -/

namespace Sys2Proof.Machine

/-- Clear the tap series (R135). -/
def endTaps (c : Show) : Show := { c with tapLast := none, taps := [] }

/-- Clear the pulse history and the pulse count (R136). -/
def clearPulses (c : Show) : Show := { c with pulseLast := none, pulses := [], pulseCount := 0 }

/-- Load the countdown with the beat length of the tempo in force (R134, R137, R139). -/
def loadCountdown (c : Show) : Show := { c with countdown := (beatLen c.tempo : Nat), bc := beatLen c.tempo }

/-- Re-phase the beat clock (R139, R140): the beat starts at this sample, the beat count is 0. -/
def rephase (c : Show) : Show := { loadCountdown c with beatCount := 0 }

/-- The length to hand to each live position (R141): none where no synced DELAY stands. -/
def syncedLens (s : State) : List (Option Nat) :=
  (List.range 12).map fun k =>
    match instAt s k with
    | some i => if i.stype = .delay ∧ parCur i 1 = 1 then some (syncedLen s.clk.tempo (parCur i 2)) else none
    | none => none

/-- The changes that hand the lengths which differ from those last handed (R141), lowest position first. -/
def lensChanges (s : State) : List Change :=
  (List.range 12).filterMap fun k =>
    match (syncedLens s).getD k none with
    | some n => if s.clk.handed.getD k none = some n then none else some (.syncLen k n)
    | none => none

/-- Form the synced lengths and hand those that differ (R141), to be taken before the changes that wait already (log 61); at
once while the clock is lost. -/
def handLens (s : State) : State :=
  let cs := lensChanges s
  let s1 := onClk (fun c => { c with handed := syncedLens s }) s
  if present s then onTone (fun t => { t with changes := cs ++ t.changes }) s1 else applyChanges true cs s1

/-- The tempo becomes a value, clamped (R132, R133). During a clock loss a change hands the synced lengths at once
(R141). -/
def setTempo (v : Nat) (s : State) : State :=
  let t := clampNat 300 3000 v
  if t = s.clk.tempo then s
  else
    let s1 := onClk (fun c => { c with tempo := t }) s
    if present s then s1 else handLens s1

/-- TEMPO_SET and the TEMPO cue (R133). -/
def commandTempo (v : Nat) (s : State) : State :=
  match s.clk.source with
  | .internal => setTempo v s
  | .tap => onClk endTaps (setTempo v s)
  | .external => s

/-- The tempo of a preset (R133): ignored under lock and under EXTERNAL. -/
def presetTempo (v : Option Nat) (s : State) : State :=
  match v with
  | some t => if s.clk.lock || s.clk.source == .external then s else commandTempo t s
  | none => s

end Sys2Proof.Machine
end

