-- ==== Sys2Proof/Machine/Replies.lean ====
section
/-! DEFINITION. Replies (R173, R195): the outstanding request of a link and the place its reply fills. -/

namespace Sys2Proof.Machine

/-- The reply kind of a request kind (R195). -/
def replyKind (k : Nat) : Byte := byte (k + 0x80)

/-- Fill the reply place of a link with a packet that ends as `tag` says; an orphaned request's reply is discarded and the
link becomes free (R171, R173). -/
def answerTagged (tag : PlaceTag) (l : Fin 4) (st : Status) (content : List Byte) (s : State) : State :=
  match (linkOf s l).outstanding with
  | some o =>
    if o.orphaned then onLinkAt l (fun r => { r with outstanding := none }) s
    else onLinkAt l (fun r => { r with places := r.places ++ [⟨tag, ⟨replyKind o.kind, statusCode st :: content⟩⟩] }) s
  | none => s

/-- The owner hands the reply of a link's outstanding request (R173, R195). -/
def answer (l : Fin 4) (st : Status) (content : List Byte) (s : State) : State := answerTagged .plain l st content s

/-- A refusal carries its status alone (R195). -/
def refuse (l : Fin 4) (st : Status) (s : State) : State := answer l st [] s

/-- A reply to a link, or none where a RESTART ended the request (R78). -/
def answerOpt (l : Option (Fin 4)) (st : Status) (content : List Byte) (s : State) : State :=
  match l with
  | some l => answer l st content s
  | none => s

end Sys2Proof.Machine
end

