-- ==== Sys2Proof/Machine/Satellite.lean ====
section
/-! DEFINITION. The Satellite Controller (chapter 9): pushes, restores, outcomes of transactions, hiding, the arbiter. -/

namespace Sys2Proof.Machine

/-- Satellite `i`. -/
def satOf (s : State) (i : Nat) : Sat := s.sat.sats.getD i Sat.entry

/-- Is a pending set empty? -/
def noMarks (x : Sat) : Bool := x.marks.all (· == .absent)

/-- Number of registers in a pending set. -/
def markCount (x : Sat) : Nat := (x.marks.filter (· != .absent)).length

/-- A satellite's state becomes `st`; a change makes a SATELLITE notice pending (R168). -/
def satSetState (i : Nat) (st : SatState) (s : State) : State :=
  if (satOf s i).state = st then s else raise .satellite (onSatAt i (fun x => { x with state := st }) s)

/-- A register filled into the pending set of an IN_STEP satellite makes it BEHIND (R156). -/
def satFilled (i : Nat) (s : State) : State := if (satOf s i).state = .inStep then satSetState i .behind s else s

/-- Enter a register in the pending set with a class (R155): URGENT replaces any mark, ROUTINE keeps URGENT. -/
def enterMark (cls old : Mark) : Mark := if cls = .urgent ∨ old = .urgent then .urgent else .routine

/-- A push (R155): the desired value and the pending mark. -/
def satPush (cls : Mark) (i r v : Nat) (s : State) : State :=
  satFilled i (onSatAt i (fun x => { x with desired := x.desired.set r v, marks := modAt x.marks r (enterMark cls) }) s)

/-- Enter a register at its present desired value. -/
def satEnter (cls : Mark) (i r : Nat) (s : State) : State :=
  satFilled i (onSatAt i (fun x => { x with marks := modAt x.marks r (enterMark cls) }) s)

/-- A restore starts (R157). -/
def satRestore (i : Nat) (s : State) : State :=
  satSetState i .restoring (onSatAt i (fun x => { x with marks := List.replicate 16 .routine, owed := true }) s)

/-- What every answer does (R153, R156): failure count 0, a restore from UNKNOWN or ABSENT. -/
def satAnswered (i : Nat) (s : State) : State :=
  let s1 := onSatAt i (fun x => { x with failures := 0 }) s
  if (satOf s i).state = .unknown ∨ (satOf s i).state = .absent then satRestore i s1 else s1

/-- A failed transaction (R153): the count rises, at 3 the satellite is ABSENT. -/
def satFailed (i : Nat) (s : State) : State :=
  let n := min 3 ((satOf s i).failures + 1)
  let s1 := onSatAt i (fun x => { x with failures := n }) s
  if n = 3 then satSetState i .absent s1 else s1

/-- An answered write of a data register (R156). -/
def satWriteAnswer (i r data : Nat) (s : State) : State :=
  let keep := (satOf s i).desired.getD r 0 != data
  let s1 := if keep then s else onSatAt i (fun x => { x with marks := x.marks.set r .absent }) s
  let s2 := satAnswered i s1
  if (satOf s2 i).state = .behind ∧ noMarks (satOf s2 i) then satSetState i .inStep s2 else s2

/-- An answered status write (R157): the restore ends. -/
def satStatusWriteAnswer (i : Nat) (s : State) : State :=
  let s1 := satAnswered i s
  if (satOf s i).state = .restoring then
    let s2 := onSatAt i (fun x => { x with owed := false }) s1
    satSetState i (if noMarks (satOf s2 i) then .inStep else .behind) s2
  else s1

/-- The status byte kept: bits 5 and 4 are 0 (R196). -/
def statusKept (b : Byte) : Byte := b &&& 0xCF

/-- An answered status read (R158). -/
def satPollAnswer (i : Nat) (status : Byte) (s : State) : State :=
  let fault := status &&& 0x40 != 0
  let kind := (status &&& 0x0F).toNat
  let s1 := onSatAt i (fun x => { x with last := some (statusKept status) }) s
  let s2 := if fault then
      (if (satOf s i).latch = some kind then s1 else raise .satellite (onSatAt i (fun x => { x with latch := some kind }) s1))
    else s1
  let s3 := satAnswered i s2
  if status &&& 0x80 != 0 then satRestore i s3 else s3

/-- The reply to a pass-through request without an answer from the unit (R165): by the seat's quiet-absent flag. -/
def passAbsent (l : Fin 4) (s : State) : State :=
  if (linkOf s l).seat.quiet then refuse l .noAnswer s else answer l .ok [0xFF] s

/-! ## Hiding (R161) -/

/-- A satellite becomes hidden: its waiting poll leaves the class. -/
def satHide (i : Nat) (s : State) : State :=
  if (satOf s i).hidden then s
  else raise .satellite (onSatAt i (fun x => { x with hidden := true, pollWaits := false }) s)

/-- A satellite ceases to be hidden. -/
def satUnhide (i : Nat) (s : State) : State :=
  raise .satellite (onSatAt i (fun x => { x with hidden := false, state := .unknown, failures := 0 }) s)

/-- Is a transaction to satellite `i` in flight? -/
def satBusy (s : State) (i : Nat) : Bool := (s.sat.inFlight.map (·.sat)) == some i

/-- The oldest waiting hide of a satellite whose transaction has ended. -/
def hideDue (s : State) (want : Nat → Bool) : Option (Fin 4 × Nat) :=
  s.sat.hideWaits.find? fun h => want h.2 && !satBusy s h.2

/-- Carry out one waiting hide whose satellite `want` accepts, where one is due: the satellite is hidden and the request
answered (R161). -/
def deferredHideStep (want : Nat → Bool) (s : State) : State :=
  match hideDue s want with
  | some h =>
    answer h.1 .ok [] (satHide h.2 (onSat (fun c => { c with hideWaits := c.hideWaits.filter (· != h) }) s))
  | none => s

/-- Carry out every waiting hide that is due; at most one waits for each link. -/
def hidesStep (s : State) : State :=
  [0, 1, 2, 3].foldl (fun s (_ : Nat) => deferredHideStep (fun _ => true) s) s

/-! ## The arbiter (R166, R167) -/

/-- May a satellite receive URGENT and ROUTINE writes (R166)? -/
def satEligible (c : SatCtl) (x : Sat) : Bool := !x.hidden && x.state != .absent && !c.holdAuto

/-- Keys `satellite × 17 + register` of the marks of a class waiting for one satellite; an owed status write stands as
register 16 (R157, R167) and waits in RESTORING alone, not in an UNKNOWN satellite that was unhidden (log 62). -/
def satKeys (c : SatCtl) (cls : Mark) (i : Nat) : List Nat :=
  let x := c.sats.getD i Sat.entry
  if satEligible c x then
    (indicesFrom (· == cls) 0 x.marks).map (i * 17 + ·)
      ++ (if cls = .routine ∧ x.owed ∧ x.state = .restoring ∧ noMarks x then [i * 17 + 16] else [])
  else []

/-- All waiting keys of a mark class, ascending. -/
def satWaiting (c : SatCtl) (cls : Mark) : List Nat := (List.range 8).flatMap (satKeys c cls)

/-- Satellites whose status read waits. -/
def satPolls (c : SatCtl) : List Nat :=
  (List.range 8).filter fun i => let x := c.sats.getD i Sat.entry; x.pollWaits && !x.hidden && !c.holdAuto

/-- The classes with waiting work, highest first (R166). -/
def satClasses (c : SatCtl) : List SatClass :=
  (if satWaiting c .urgent = [] then [] else [.urgent]) ++ (if c.queue = [] then [] else [.pass])
    ++ (if satWaiting c .routine = [] then [] else [.routine]) ++ (if satPolls c = [] then [] else [.poll])

/-- The first entry after the scan position, wrapping (R167). -/
def scanNext (after : Nat) (l : List Nat) : Option Nat :=
  match l.find? (fun k => decide (after < k)) with
  | some k => some k
  | none => l.head?

/-- Which class is granted and what the run becomes (R166). -/
def arbitrate (run : Option (SatClass × Nat)) (classes : List SatClass) : Option (SatClass × Option (SatClass × Nat)) :=
  match classes.head?, classes.getLast? with
  | some h, some l =>
    if h = l then some (h, none)
    else match run with
      | some (c, n) => if c = h then (if n = 8 then some (l, none) else some (h, some (h, n + 1))) else some (h, some (h, 1))
      | none => some (h, some (h, 1))
  | _, _ => none

/-- The transaction of a key of a pending set (R152, R157). -/
def keyTrans (c : SatCtl) (cls : SatClass) (k : Nat) : Trans :=
  let i := k / 17
  let r := k % 17
  ⟨i, r, cls, false, if r = 16 then 0x80 else (c.sats.getD i Sat.entry).desired.getD r 0, none⟩

/-- Begin the transaction of a class. A pass-through leaves the queue at its grant (log 63). -/
def grantClass (cls : SatClass) (c : SatCtl) : SatCtl :=
  match cls with
  | .urgent =>
    match scanNext (c.scanU.1 * 17 + c.scanU.2) (satWaiting c .urgent) with
    | some k => { c with scanU := (k / 17, k % 17), inFlight := some (keyTrans c .urgent k) }
    | none => c
  | .routine =>
    match scanNext (c.scanR.1 * 17 + c.scanR.2) (satWaiting c .routine) with
    | some k => { c with scanR := (k / 17, k % 17), inFlight := some (keyTrans c .routine k) }
    | none => c
  | .pass =>
    match c.queue with
    | q :: t =>
      let data := if q.write then (c.sats.getD q.sat Sat.entry).desired.getD q.reg 0 else 0
      { c with queue := t, inFlight := some ⟨q.sat, q.reg, .pass, !q.write, data, some q.link⟩ }
    | [] => c
  | .poll =>
    match scanNext c.scanP (satPolls c) with
    | some i => { c with
        scanP := i, sats := modAt c.sats i (fun x => { x with pollWaits := false })
        inFlight := some ⟨i, 16, .poll, true, 0, none⟩ }
    | none => c

/-- Remove from the head of the queue the request for a satellite that is hidden or ABSENT, and answer it (R164). -/
def prunePass (s : State) : State :=
  match s.sat.queue with
  | q :: t =>
    let x := satOf s q.sat
    if x.hidden ∨ x.state = .absent then passAbsent q.link (onSat (fun c => { c with queue := t }) s) else s
  | [] => s

/-- Grant the next transaction where the line is idle and work waits (R152, R166). Work that one command brings in several
pieces has all arrived before the grant (log 58). -/
def grantStep (s : State) : State :=
  let s1 := [0, 1, 2, 3].foldl (fun s (_ : Nat) => prunePass s) s
  match s1.sat.inFlight with
  | some _ => s1
  | none =>
    match arbitrate s1.sat.run (satClasses s1.sat) with
    | some (cls, run) => onSat (fun c => { grantClass cls c with run := run }) s1
    | none => s1

/-- The arbiter's event: hides that waited for the transaction, then the next grant (R161, R166). -/
def satGrantStep (s : State) : State := grantStep (hidesStep s)

/-- The transaction in flight ends. -/
def endTrans (s : State) : State := onSat (fun c => { c with inFlight := none }) s

end Sys2Proof.Machine
end

