-- ==== Sys2Proof/Machine/Tuner.lean ====
section
/-! DEFINITION. The Tuner (chapter 7): modes, detector, estimator, reading. -/

namespace Sys2Proof.Machine

/-- Clear the detector (R117). -/
def clearDetector (t : Tuner) : Tuner := { t with det := {} }

/-- Clear the estimator (R117). -/
def clearEstimator (t : Tuner) : Tuner :=
  { t with ring := [], outliers := 0, prevStamp := none, reading := none, noSignal := false, state := .silent }

/-- Clear both, with a TUNER notice where the state becomes SILENT (R129). -/
def clearTuner (s : State) : State :=
  let s1 := onTuner (fun t => clearEstimator (clearDetector t)) s
  if s.tuner.state = .silent then s1 else raise .tuner s1

/-- A change of mode (R118). -/
def setTunerMode (m : TunerMode) (s : State) : State :=
  if m = s.tuner.mode then s
  else
    let old := s.tuner.mode
    let s1 := onTuner (fun t => { t with mode := m }) s
    let s2 :=
      match old, m with
      | .off, _ => onTuner (fun t => { clearEstimator (clearDetector t) with publish := true }) s1
      | _, .off => onTuner (fun t => { clearEstimator (clearDetector t) with publish := false }) s1
      | _, _ => s1
    let s3 := if m = .mute then setTunerHolder s2 else if old = .mute then releaseTunerHolder s2 else s2
    raise .tuner s3

/-! ## The reading (R127, R128) -/

/-- `floor(log2(n))` of a number below `2 ^ (2 ^ k)`, by halving the exponent; 0 for 0. -/
def bigLog2 : Nat → Nat → Nat
  | 0, _ => 0
  | k + 1, n =>
    if Nat.pow 2 (Nat.pow 2 k) ≤ n then Nat.pow 2 k + bigLog2 k (n >>> Nat.pow 2 k) else bigLog2 k n

/-- `floor(log2(a ^ e))`. -/
def log2Pow (a e : Nat) : Nat := bigLog2 (Nat.log2 (e * (Nat.log2 a + 1)) + 1) (Nat.pow a e)

/-- `floor(log2((a / b) ^ e))`. -/
def log2Ratio (a b e : Nat) : Int :=
  let x := Nat.pow a e
  let y := Nat.pow b e
  let d : Int := (log2Pow a e : Int) - (log2Pow b e : Int)
  if 0 ≤ d then (if y * Nat.pow 2 d.toNat ≤ x then d else d - 1) else (if y ≤ x * Nat.pow 2 (-d).toNat then d else d - 1)

/-- C in tenths of a cent (R127): `round-half-up(12,000 × log2(122,880,000 / (M × r)))`, exact: with `q` the quotient, the
floor of `(log2(q^24000) + 1) / 2`. -/
def tunerCents (m r : Nat) : Int := floorDiv (log2Ratio 122880000 (m * r) 24000 + 1) 2

/-- The lower median of the ring (R124); 0 for an empty ring. -/
def ringMedian (ring : List Nat) : Nat := (sortNat ring).getD ((ring.length - 1) / 2) 0

/-- The string with the smallest distance, lowest index first (R128). -/
def nearestString (c : Int) : Nat → List TString → Option (Nat × Int)
  | _, [] => none
  | k, x :: t =>
    let d := c - (1000 * ((x.note : Int) - 69) + x.offset)
    match nearestString c (k + 1) t with
    | some (j, e) => if d.natAbs ≤ e.natAbs then some (k, d) else some (j, e)
    | none => some (k, d)

/-- The reading from M (R127, R128). -/
def readingOf (t : Tuner) (m : Nat) : Reading :=
  let c := tunerCents m t.reference
  let note := 69 + roundHalfUp c 1000
  let chrom : Reading := ⟨c, note, c - 1000 * (note - 69), none⟩
  match t.stringSet with
  | none => chrom
  | some k =>
    match nearestString c 0 (t.strings.getD k []) with
    | some (i, d) => ⟨c, note, clampInt (-32768) 32767 d, some i⟩
    | none => chrom

/-- Form the reading again (R125): none with fewer than 3 entries. -/
def renewReading (t : Tuner) : Tuner :=
  { t with reading := if 3 ≤ t.ring.length then some (readingOf t (ringMedian t.ring)) else none }

/-- Distance of two naturals. -/
def dist (a b : Nat) : Nat := (a - b) + (b - a)

/-- The detector state of a ring (R125). -/
def ringState (ring : List Nat) : DetState :=
  let m := ringMedian ring
  if ring = [] then .silent
  else if 5 ≤ ring.length ∧ (ring.drop (ring.length - 5)).all (fun p => decide (dist p m * 1000 ≤ 15 * m)) then .locked
  else .seeking

/-- The ring becomes a new list (R124, R125). -/
def setRing (ring : List Nat) (t : Tuner) : Tuner := renewReading { t with ring := ring, state := ringState ring }

/-- The outlier test of an accepted period (R124). -/
def acceptPeriod (p : Nat) (t : Tuner) : Tuner :=
  let m := ringMedian t.ring
  if t.ring = [] then setRing [p] { t with outliers := 0 }
  else if dist p m * 100 ≤ 12 * m then
    setRing ((t.ring ++ [p]).drop (t.ring.length - 7)) { t with outliers := 0 }
  else if t.outliers = 2 then setRing [p] { t with outliers := 0 }
  else { t with outliers := t.outliers + 1 }

/-- A firing's timestamp at the period stage (R123). -/
def takeStamp (stamp : Word32) (t : Tuner) : Tuner :=
  let t1 := { t with prevStamp := some stamp }
  match t.prevStamp with
  | none => t1
  | some prev =>
    let p := (stamp - prev).toNat
    if 8777 ≤ p ∧ p ≤ 614400 then acceptPeriod p { t1 with noSignal := true } else t1

/-- The filters of one sample (R121): gives the states and the filtered sample. -/
def detectorFilter (d : Detector) (x : Int) : Detector :=
  let b := x - d.xPrev + floorDiv (32604 * d.dPrev) 32768
  let l1 := d.l1 + floorDiv (4751 * (b - d.l1)) 32768
  let l2 := d.l2 + floorDiv (4751 * (l1 - d.l2)) 32768
  { d with xPrev := x, dPrev := b, l1 := l1, l2 := l2 }

/-- One sample of the detector at position `pos` (R121 to R123). -/
def tunerSample (pos : Word32) (x : Int) (t : Tuner) : Tuner :=
  let d := detectorFilter t.det x
  let prev := t.det.sPrev
  let cur := d.l2
  let h : Int := 134217728 / 2 ^ t.exponent
  let fires := t.det.armed && decide (prev < 0) && decide (0 ≤ cur)
  let armed := if fires then false else t.det.armed || decide (cur < -h)
  let t1 := { t with det := { d with armed := armed, sPrev := cur } }
  if fires then
    let f := min 255 (floorDiv (256 * (-prev)) (cur - prev).toNat)
    takeStamp (256 * (pos - 1) + BitVec.ofInt 32 f) t1
  else t1

/-- The samples of a frame, the first at position `pos` (R120). -/
def tunerSamples : Word32 → List Int → Tuner → Tuner
  | _, [], t => t
  | pos, x :: xs, t => tunerSamples (pos + 1) xs (tunerSample pos x t)

/-- The Tuner's part of a boundary (R120): the position has advanced over the frame; in WATCH and MUTE the detector runs
over the samples of the source. -/
def tunerFrame (c : Captured) (t : Tuner) : Tuner :=
  if t.mode = .off then t
  else tunerSamples (t.pos - 32) ((if t.sourceB then c.inB else c.inA).map portIn) t

end Sys2Proof.Machine
end

