-- ==== Sys2Proof/Machine/Scene.lean ====
section
/-! DEFINITION. The Scene Controller: effective values and the control map (chapter 4), edits of the buffer, satellite
images and the stash (chapter 5). -/

namespace Sys2Proof.Machine

/-! ## The buffer -/

/-- Scene `k` of a record. -/
def sceneOf (r : Record) (k : Nat) : Scene := r.scenes.getD k ⟨[], 0, 1, []⟩

/-- Update the record fields of the buffer. -/
def onRecord (f : Record → Record) (s : State) : State := onBuffer (fun b => { b with record := b.record.map f }) s

/-- Update scene `k` of the buffer's record. -/
def onSceneAt (k : Nat) (f : Scene → Scene) (s : State) : State :=
  onRecord (fun r => { r with scenes := modAt r.scenes k f }) s

/-- Update slot `k` of the buffer's record. -/
def onSlotAt (k : Nat) (f : SlotRec → SlotRec) (s : State) : State :=
  onRecord (fun r => { r with chain := modAt r.chain k f }) s

/-- What every taken edit does (R79, R80): the counter advances, the buffer takes the number, the dirty mark is set. -/
def takenEdit (s : State) : State :=
  onScene (fun c => { c with
    counter := c.counter + 1, buffer := { c.buffer with seq := c.counter + 1, dirty := true } }) s

/-- The live position of a buffer position (R88). -/
def liveOf (s : State) (pos : Nat) : Option Nat :=
  match s.scene.posMap with
  | none => some pos
  | some m => m.getD pos none

/-- Is a buffer position's live position DETACHED by a switch in FADING_OUT (R80, R105)? -/
def detachedAt (s : State) (pos : Nat) : Bool :=
  (engine s == some .fadingOut) &&
    match liveOf s pos with
    | some p => (s.tone.chain[p]?).any (·.inst.isNone)
    | none => false

/-! ## Effective values (R60 to R62) -/

/-- The value of a curve at a held value, clamped to the target's range (R60). -/
def evalCurve (points : List Int) (v : Nat) (range : Int × Int) : Int :=
  let j := v / 128
  let p := points.getD j 0
  clampInt range.1 range.2 (p + floorDiv ((points.getD (j + 1) 0 - p) * ((v - 128 * j : Nat) : Int)) 128)

/-- The driven value of an entry with the held values (R60). -/
def evalEntry (controls : List Nat) (chain : List SlotRec) (e : MapEntry) : Int :=
  evalCurve e.points (controls.getD e.source 0) ((targetRange chain e.target).getD (0, 0))

/-- A driven value as an effective value: for a bypass target, on (1) from 16384 (R59). -/
def drivenValue (t : Target) (v : Int) : Int :=
  match t with
  | .bypass _ => if 16384 ≤ v then 1 else 0
  | _ => v

/-- An override's value as an effective value (log 14). -/
def overrideValue (t : Target) (v : Int) : Int :=
  match t with
  | .bypass _ => if bypassOn v then 1 else 0
  | _ => v

/-- The image value of a register, where it is in the care set (R62). -/
def imageValue (r : Record) (sat reg : Nat) : Option Int :=
  match r.images.find? (·.sat == sat) with
  | some e => (e.regs.find? (·.1 == reg)).map fun x => (x.2 : Int)
  | none => none

/-- The base value of a target (R62). -/
def baseValue (r : Record) (scene : Nat) : Target → Option Int
  | .param p i => (r.chain[p]?).bind fun x => x.params[i]?
  | .bypass p => (r.chain[p]?).map fun x => if x.bypass then 1 else 0
  | .level => some (sceneOf r scene).level
  | .sat i g => imageValue r i g

/-- The override of a scene for a target. -/
def overrideOf (c : Scene) (t : Target) : Option Int := (c.overrides.find? (·.target == t)).map (·.value)

/-- The effective value of a target in a record with its driven records (R62): driven value, else override, else base. -/
def effectiveIn (r : Record) (scene : Nat) (driven : List Int) (t : Target) : Option Int :=
  match firstIdx (fun (e : MapEntry) => e.target == t) r.map with
  | some k => some (drivenValue t (driven.getD k 0))
  | none =>
    match overrideOf (sceneOf r scene) t with
    | some v => some (overrideValue t v)
    | none => baseValue r scene t

/-- The effective value of a target of the live preset (R62). -/
def effective (s : State) (t : Target) : Option Int :=
  match s.scene.buffer.record with
  | some r => effectiveIn r s.scene.buffer.scene s.scene.driven t
  | none => none

/-- Does an entry of the map drive a target? -/
def isDriven (s : State) (t : Target) : Bool :=
  (s.scene.buffer.record.map fun r => r.map.any (·.target == t)).getD false

/-- Does the current scene hold an override for a target? -/
def isOverridden (s : State) (t : Target) : Bool :=
  (s.scene.buffer.record.map fun r => (overrideOf (sceneOf r s.scene.buffer.scene) t).isSome).getD false

/-- Evaluate every entry of the buffer's map (R61): the results become the records. -/
def evalMap (s : State) : State :=
  match s.scene.buffer.record with
  | some r => onScene (fun c => { c with driven := r.map.map (evalEntry c.controls r.chain) }) s
  | none => onScene (fun c => { c with driven := [] }) s

/-- The effective chain level; 0 for a buffer without record fields. -/
def effectiveLevel (s : State) : Int := (effective s .level).getD 0

/-- The slot records of the buffer with effective parameters and bypass, as a rebuild carries them (R106). -/
def effectiveSlots (s : State) : List SlotRec :=
  match s.scene.buffer.record with
  | some r =>
    let eff := effectiveIn r s.scene.buffer.scene s.scene.driven
    (r.chain.zip (List.range r.chain.length)).map fun (x, k) =>
      { x with
        bypass := (eff (.bypass k)).getD 0 == 1
        params := (x.params.zip (List.range x.params.length)).map fun (v, i) => (eff (.param k i)).getD v }
  | none => []

/-- The instances of a rebuild with the LINE areas joined for each position (R106). -/
def effectiveInsts (joined : List (Nat × List Nat)) (s : State) : List Inst :=
  let c := effectiveSlots s
  (c.zip (List.range c.length)).map fun (x, k) => buildInst x (((joined.find? (·.1 == k)).map (·.2)).getD [])

/-! ## Handing on (R63 to R65, R108) -/

/-- The chain gain's remaining count that a bent fade keeps (R108): that of a target not yet taken up, else the ramp's. -/
def gainRemaining (s : State) : Nat :=
  let last := s.tone.changes.foldl (fun (o : Option Nat) c =>
    match c with
    | .gainTarget .chain _ len => some len
    | .gainSet .chain _ => none
    | _ => o) none
  max 1 (last.getD s.tone.chainGain.n)

/-- A change of the effective chain level reaches the Switch Engine (R64, R108). -/
def levelChanged (v : Int) (s : State) : State :=
  let s1 := onSw (fun w => { w with level := v }) s
  match engine s with
  | none => hand (.gainTarget .chain v 8) s1
  | some .loading => hand (.gainTarget .chain v 8) s1
  | some .fadingOut => s1
  | some .fadingIn => hand (.gainTarget .chain v (gainRemaining s)) s1
  | some .ramping => hand (.gainTarget .chain v (gainRemaining s)) s1

/-- Hand an effective value to its owner (R63 to R65), parameter and bypass values at the live position (R88). -/
def handValue (t : Target) (v : Int) (s : State) : State :=
  match t with
  | .param p i => (match liveOf s p with | some q => hand (.param q i v) s | none => s)
  | .bypass p => (match liveOf s p with | some q => hand (.bypass q (v == 1)) s | none => s)
  | .level => levelChanged v s
  | .sat i r => satPush .routine i r v.toNat s

/-- Hand the effective value of a target on where it differs from what it was in `old` (R62). -/
def handChanged (old : State) (t : Target) (s : State) : State :=
  match effective s t with
  | some v => if effective old t = some v then s else handValue t v s
  | none => s

/-- Hand the effective value of a target on, changed or not. -/
def handAlways (t : Target) (s : State) : State :=
  match effective s t with
  | some v => handValue t v s
  | none => s

/-- Evaluate entry `k` again (R61): the record takes a new value, which is handed on; a bypass only where on or off
changes. -/
def driveEntry (k : Nat) (s : State) : State :=
  match s.scene.buffer.record with
  | some r =>
    match r.map[k]? with
    | some e =>
      let v := evalEntry s.scene.controls r.chain e
      let old := s.scene.driven.getD k 0
      let s1 := onScene (fun c => { c with driven := c.driven.set k v }) s
      if drivenValue e.target v = drivenValue e.target old then s1 else handValue e.target (drivenValue e.target v) s1
    | none => s
  | none => s

/-- A changed held value evaluates every entry on its source in list order (R58). -/
def driveSource (src : Nat) (s : State) : State :=
  match s.scene.buffer.record with
  | some r =>
    (List.range r.map.length).foldl (fun s k =>
      if (r.map[k]?).any (·.source == src) then driveEntry k s else s) s
  | none => s

/-! ## Satellite images (R69, R84) -/

/-- Set a register of an ascending care set. -/
def setReg (reg v : Nat) : List (Nat × Nat) → List (Nat × Nat)
  | [] => [(reg, v)]
  | (a, b) :: t => if reg < a then (reg, v) :: (a, b) :: t else if reg = a then (reg, v) :: t else (a, b) :: setReg reg v t

/-- Store an image value, adding the register to the care set and the entry where there is none (R84), a new entry at the
end of the list (log 49). -/
def setImage (sat reg v : Nat) (l : List SatImage) : List SatImage :=
  if l.any (·.sat == sat) then l.map fun e => if e.sat = sat then { e with regs := setReg reg v e.regs } else e
  else l ++ [⟨sat, [(reg, v)]⟩]

/-- Remove a register from the care set, and the entry with its last register (R69, R84). -/
def clearImage (sat reg : Nat) (l : List SatImage) : List SatImage :=
  (l.map fun e => if e.sat = sat then { e with regs := e.regs.filter (·.1 != reg) } else e).filter (·.regs != [])

/-- A pass-through SAT_WRITE or a SATELLITE cue stores a value in the buffer's image (R84). -/
def writeImage (sat reg v : Nat) (s : State) : State :=
  takenEdit (onRecord (fun r => { r with images := setImage sat reg v r.images }) s)

/-! ## The stash (R89 to R91) -/

/-- An entry leaves the stash where `p` holds; a STASH notice where one left (R91). -/
def stashLeave (p : StashEntry → Bool) (s : State) : State :=
  if s.scene.stash.any p then
    raise .stash (onScene (fun c => { c with stash := c.stash.filter fun e => !p e }) s)
  else s

/-- Drop the oldest entry of a full stash (R89, R91). -/
def stashOverflow (s : State) : State :=
  if s.scene.stash.length < 4 then s
  else onScene (fun c => { c with
    stash := c.stash.tail, drops := c.drops + 1, lastDropped := (c.stash.head?).bind (·.preset) }) s

/-- Capture the outgoing buffer (R89): the entry of its preset number leaves, a full stash drops its oldest, the buffer
joins as the newest. -/
def stashCapture (s : State) : State :=
  let b := s.scene.buffer
  match b.record with
  | some r =>
    let s1 := stashOverflow (onScene (fun c => { c with stash := c.stash.filter fun e => e.preset != b.preset }) s)
    raise .stash (onScene (fun c => { c with stash := c.stash ++ [⟨b.preset, b.scene, r, b.seq⟩] }) s1)
  | none => s

end Sys2Proof.Machine
end

