-- ==== Sys2Proof/Machine/Switch.lean ====
section
/-! DEFINITION. The Switch Engine (chapter 6): arbiter, loading, tail selection, fading out, swap, completion. -/

namespace Sys2Proof.Machine

/-! ## Outcomes (R97) -/

/-- A cue's outcome field, where the cue is still in the list (R149). -/
def cueOutcome (tag : Nat) (o : SwOutcome) (s : State) : State :=
  if s.clk.cues.any (·.tag == tag) then
    raise .cue (onClk (fun c => { c with cues := c.cues.map fun q => if q.tag = tag then { q with outcome := o } else q }) s)
  else s

/-- The preset number and scene reported for a target: a stash copy's entry, a rebuild's buffer (log 22). -/
def reportedTarget (s : State) (t : SwTarget) : Option Nat × Option Nat :=
  match t with
  | .preset n k => (some n, some k)
  | .stash e => (e.preset, some e.scene)
  | .rebuild => (s.scene.buffer.preset, some s.scene.buffer.scene)

/-- Record an outcome for the origin of a request: a link's outcome record, with a SWITCH_OUTCOME notice where `notify`;
a cue's field (R97). -/
def tellOrigin (q : SwRequest) (o : SwOutcome) (notify : Bool) (s : State) : State :=
  match q.origin with
  | .link l =>
    let t := reportedTarget s q.target
    let s1 := onSw (fun w => { w with outcomes := w.outcomes.set l.val ⟨t.1, t.2, o⟩ }) s
    if notify then raiseOn .switchOutcome l s1 else s1
  | .cue tag => cueOutcome tag o s

/-- Is a request from the cue list? -/
def isCue (q : SwRequest) : Bool :=
  match q.origin with
  | .cue _ => true
  | .link _ => false

/-! ## Guard (R95) -/

/-- Does an open guard window refuse a precedence? -/
def guardBlocks (s : State) (p : Nat) : Bool := s.sw.guard.any fun g => decide (p < g.1)

/-- A cue switch that completed with a guard opens or renews the window. -/
def openGuard (q : SwRequest) (s : State) : State :=
  if isCue q ∧ 0 < q.guard then onSw (fun w => { w with guard := some (q.precedence, q.guard) }) s else s

/-! ## Completion (R98) -/

/-- Remove the in-flight switch. -/
def endInflight (s : State) : State :=
  onTone (fun t => { t with chainRested := false }) (onSw (fun w => { w with inflight := none, laneReports := [] }) s)

/-- A switch completes (R98): guard, outcome DONE, SCENE notice (R115). The pending request is examined by the promotion
that is due with no switch in flight. -/
def completeSwitch (q : SwRequest) (s : State) : State :=
  raise .scene (tellOrigin q .done false (openGuard q (endInflight s)))

/-- A switch fails (R99, R100): nothing live changes; the origin is told. -/
def failSwitch (q : SwRequest) (o : SwOutcome) (s : State) : State :=
  raise .scene (tellOrigin q o true (endInflight s))

/-! ## Reads (R72, R73, R99) -/

/-- Is the Preset Store busy for a write (R72, R73)? -/
def storeBusy (s : State) : Bool := s.store.op.isSome || s.store.waitSwitch.isSome || s.store.waitLinks != []

/-- Ask for the read of a switch load: at once from an idle store, else it waits. -/
def askRead (n : Nat) (s : State) : State :=
  if storeBusy s then onStore (fun c => { c with waitSwitch := some n }) s
  else onStore (fun c => { c with op := some (.presetRead (.switch false) n) }) s

/-- A load is abandoned (R99): a waiting read is withdrawn, one in flight is discarded at its end. -/
def abandonLoad (s : State) : State :=
  onStore (fun c => { c with
    waitSwitch := none
    op := match c.op with
      | some (.presetRead (.switch _) n) => some (.presetRead (.switch true) n)
      | o => o }) s

/-! ## Tail selection (R100 to R102) -/

/-- LINE areas counted by admission (R100). -/
def admissionSum (s : State) : Nat :=
  freeAreas s.area + liveLines s + sumNat (s.tone.lanes.map laneLines)

/-- Candidates for lanes, in chain order: positions of live KEEP line holders (R101). -/
def tailCandidates (s : State) : List Nat :=
  (List.range s.tone.chain.length).filter fun k =>
    (instAt s k).any fun i => holdsLine i.stype && i.policy == .keep

/-- Cost of the instances at positions. -/
def costAt (s : State) (ps : List Nat) : Nat := sumNat (ps.map fun k => ((instAt s k).map instCost).getD 0)

/-- LINE areas of the live instances at other positions. -/
def linesExcept (s : State) (ps : List Nat) : Nat :=
  sumNat ((List.range s.tone.chain.length).map fun k =>
    if ps.contains k then 0 else ((instAt s k).map fun i => i.areas.length).getD 0)

/-- Do cost, lanes and areas suffice for candidates with the lanes of `e` evicted (R101, R102)? -/
def tailRoom (s : State) (cost need : Nat) (e ps : List Nat) : Bool :=
  let rest := s.tone.order.filter fun l => !e.contains l
  decide (cost + sumNat (rest.map fun l => laneCost (laneOf s l)) + costAt s ps ≤ Config.budget)
    && decide (rest.length + ps.length ≤ 4)
    && decide (need ≤ freeAreas s.area + linesExcept s ps + sumNat (e.map fun l => laneLines (laneOf s l)))

/-- The lanes to evict, oldest first, until there is room for all candidates (R101). -/
def evictions (s : State) (cost need : Nat) (ps : List Nat) : List Nat :=
  s.tone.order.foldl (fun e l => if tailRoom s cost need e ps then e else e ++ [l]) []

/-- The candidates admitted after eviction, in chain order (R102). -/
def admitted (s : State) (cost need : Nat) (e ps : List Nat) : List Nat :=
  ps.foldl (fun a p => if tailRoom s cost need e (a ++ [p]) then a ++ [p] else a) []

/-- The EMPTY lanes, lowest first. -/
def emptyLanes (s : State) : List Nat := indicesFrom (fun l => !occupied l) 0 s.tone.lanes

/-! ## Line join (R43, R103, R104) -/

/-- The chain a switch is going to build: the record's, or the buffer's for a REBUILD. -/
def incomingChain (s : State) (f : Inflight) : List SlotRec :=
  match f.loaded with
  | some l => l.record.chain
  | none => (s.scene.buffer.record.map (·.chain)).getD []

/-- Is a line join waiting whose areas are now FREE? -/
def joinDue (s : State) : Bool :=
  match s.sw.inflight with
  | some f => (f.phase == .fadingOut) && (f.join == .waiting) && decide (chainNeed (incomingChain s f) ≤ freeAreas s.area)
  | none => false

/-- The line join of the switch in FADING_OUT is asked: taken where the FREE areas suffice, refused otherwise (R43). -/
def lineJoinStep (s : State) : State :=
  if joinDue s then
    match s.sw.inflight with
    | some f =>
      let (j, m) := joinLines 0 (incomingChain s f) s.area
      onSw (fun w => { w with inflight := some { f with
        joined := j, join := if j = [] then .complete else .filling } }) { s with area := m }
    | none => s
  else s

/-! ## Fading out (R103) -/

/-- Enter FADING_OUT with the fade-out length: gain, moves and evictions are handed in this order, then the line join is
asked. During a clock loss a gain set of 0, no moves, no evictions (R101, R112). -/
def startFadeOut (f : Inflight) (fadeOut : Nat) (s : State) : State :=
  let chain := incomingChain s f
  let cost := chainCost chain
  let need := chainNeed chain
  let here := present s
  let ps := if here then tailCandidates s else []
  let e := if here then evictions s cost need ps else []
  let adm := admitted s cost need e ps
  let pairs := adm.zip (emptyLanes s)
  let s1 := onTone (fun t => { t with chainRested := false }) (onSw (fun w => { w with
    reservation := true, laneReports := []
    inflight := some { f with
      phase := .fadingOut, evicting := e, assigned := pairs.map (·.2), deferred := adm.drop pairs.length
      join := .waiting, joined := [], dropped := false } }) s)
  let s2 := hand (if here then .gainTarget .chain 0 fadeOut else .gainSet .chain 0) s1
  let s3 := pairs.foldl (fun s p => hand (.move p.1 (Fin.ofNat 4 p.2) fadeOut) s) s2
  let s4 := e.foldl (fun s l => hand (.evict (Fin.ofNat 4 l)) s) s3
  lineJoinStep s4

/-- The end of LOADING (R99, R100): admission, then FADING_OUT. A REBUILD is always admitted (R100, R110): its chain passed
R19, and its lines come free in its course, also where the first load's lines are not live yet. -/
def endLoading (f : Inflight) (s : State) : State :=
  let chain := incomingChain s f
  let fadeOut := match f.loaded with
    | some l => l.record.fadeOut
    | none => (s.scene.buffer.record.map (·.fadeOut)).getD 1
  if f.kind = .rebuild ∨ chainNeed chain ≤ admissionSum s then startFadeOut f fadeOut s else failSwitch f.req .noArea s

/-! ## The SCENE switch (R109) -/

/-- Hand an effective value that changed at the start of a SCENE switch: a satellite register as URGENT where it differs
from its desired value; a driven value keeps and is not handed (R66). -/
def sceneHand (old : State) (t : Target) (s : State) : State :=
  if isDriven s t then s else
  match t with
  | .sat i r =>
    match effective s t with
    | some v => if (satOf s i).desired.getD r 0 = v.toNat then s else satPush .urgent i r v.toNat s
    | none => s
  | _ => handChanged old t s

/-- The targets of a SCENE switch in order: the new scene's overrides, then those of the old scene that revert. -/
def sceneTargets (old new : Scene) : List Target :=
  new.overrides.map (·.target)
    ++ (old.overrides.map (·.target)).filter fun t => !(new.overrides.any (·.target == t))

/-- A SCENE switch begins (R109). -/
def startScene (q : SwRequest) (k : Nat) (s : State) : State :=
  match s.scene.buffer.record with
  | some r =>
    let old := sceneOf r s.scene.buffer.scene
    let new := sceneOf r k
    let s1 := onTone (fun t => { t with chainRested := false }) (onBuffer (fun b => { b with scene := k }) (onSw (fun w => { w with
      inflight := some ⟨q, .scene, .ramping, none, [], [], [], .complete, [], false⟩ }) s))
    let s2 := (sceneTargets old new).foldl (fun x t => sceneHand s t x) s1
    let v := effectiveLevel s2
    let s3 := hand (.gainTarget .chain v new.ramp) (onSw (fun w => { w with level := v }) s2)
    raise .scene (if q.exitTuner then setTunerMode .off s3 else s3)
  | none => s

/-! ## A request becomes in-flight (R93) -/

/-- A no-change request completes at once (R93, R95). -/
def noChange (q : SwRequest) (s : State) : State :=
  let s1 := if q.exitTuner then setTunerMode .off s else s
  tellOrigin q .done false (openGuard q s1)

/-- A request becomes in-flight: its kind is decided by the buffer of this moment and its work begins (R93, R99). -/
def beginSwitch (q : SwRequest) (s : State) : State :=
  match q.target with
  | .rebuild => endLoading ⟨q, .rebuild, .loading, none, [], [], [], .waiting, [], false⟩ s
  | .stash e =>
    let l : Loaded := ⟨e.record, e.preset, e.scene, some e.seq⟩
    endLoading ⟨q, .preset, .loading, some l, [], [], [], .waiting, [], false⟩ s
  | .preset n k =>
    if q.reload ∨ s.scene.buffer.preset ≠ some n then
      askRead n (onSw (fun w => { w with
        inflight := some ⟨q, .preset, .loading, none, [], [], [], .waiting, [], false⟩ }) s)
    else
      let scenes := (s.scene.buffer.record.map (·.scenes.length)).getD 1
      if k = s.scene.buffer.scene then noChange q s else startScene q (min k (scenes - 1)) s

/-- Promotion of the pending request with no switch in flight (R98): discarded below an open guard's precedence, else it
becomes in-flight. -/
def promotionStep (s : State) : State :=
  match s.sw.inflight, s.sw.pending with
  | none, some q =>
    let s1 := onSw (fun w => { w with pending := none }) s
    if guardBlocks s q.precedence then tellOrigin q .guarded true s1 else beginSwitch q s1
  | _, _ => s

/-! ## The arbiter (R96) -/

/-- A request past its own checks reaches the guard check and the arbiter: gives TAKEN, GUARDED or OUTRANKED. -/
def arbiter (q : SwRequest) (s0 : State) : SwOutcome × State :=
  let s := promotionStep s0
  if guardBlocks s q.precedence then (.guarded, s)
  else
    match s.sw.inflight with
    | none => (.taken, beginSwitch q (tellOrigin q .taken false s))
    | some f =>
      if f.phase = .loading ∧ f.req.precedence ≤ q.precedence then
        let s1 := abandonLoad (tellOrigin f.req .superseded true (onSw (fun w => { w with inflight := none }) s))
        (.taken, beginSwitch q (tellOrigin q .taken false s1))
      else
        match s.sw.pending with
        | none => (.taken, onSw (fun w => { w with pending := some q }) (tellOrigin q .taken false s))
        | some p =>
          if p.precedence ≤ q.precedence then
            (.taken, onSw (fun w => { w with pending := some q }) (tellOrigin q .taken false (tellOrigin p .superseded true s)))
          else (.outranked, s)

/-- The checks of a preset target (R92): BAD_ARG outside the ranges, and for the live preset's scenes. -/
def switchArgsOk (s : State) (preset scene : Nat) (reload : Bool) : Bool :=
  decide (preset < 128) && decide (scene < 4)
    && (reload || s.scene.buffer.preset != some preset
      || decide (scene < (s.scene.buffer.record.map (·.scenes.length)).getD 0))

/-! ## Reports of the Tone Engine (R104) -/

/-- Lanes that became EMPTY go to the deferred candidates (R104), lowest lane first, earliest candidate first; once the
chain gain has reached 0 the candidates are treated as CUT; a fade that starts at level 0 has reached it when its count
has run out (log 51). The feed gain takes the count that the chain gain has left before
its step at the boundary that takes up the move, so both reach 0 together (log 45). -/
def deferredMoveStep (s : State) : State :=
  match s.sw.inflight with
  | some f =>
    if f.phase = .fadingOut ∧ s.sw.laneReports ≠ [] then
      let g := s.tone.chainGain
      if f.deferred = [] ∨ (g.n = 0 ∧ g.cur = 0) then
        onSw (fun w => { w with laneReports := [], inflight := some { f with deferred := [] } }) s
      else
        let pairs := f.deferred.zip (sortNat s.sw.laneReports)
        let s1 := onSw (fun w => { w with
          laneReports := []
          inflight := some { f with
            assigned := f.assigned ++ pairs.map (·.2), deferred := f.deferred.drop pairs.length } }) s
        pairs.foldl (fun s p => hand (.move p.1 (Fin.ofNat 4 p.2) g.n) s) s1
    else s
  | none => s

/-- The chain gain came to rest (R104, R107, R109): in FADING_OUT the deferred candidates are CUT and the drop is handed;
FADING_IN and RAMPING end. -/
def chainRestStep (s : State) : State :=
  if s.tone.chainRested then
    let s1 := onTone (fun t => { t with chainRested := false }) s
    match s.sw.inflight with
    | some f =>
      match f.phase with
      | .loading => s1
      | .fadingOut =>
        hand .drop (onSw (fun w => { w with laneReports := [], inflight := some { f with deferred := [], dropped := true } }) s1)
      | .fadingIn => completeSwitch f.req s1
      | .ramping => completeSwitch f.req s1
    | none => s1
  else s

/-! ## The swap (R106) -/

/-- Load the buffer (R79, R106): new sequence number; dirty for a stash copy, clean for a library record. -/
def loadBuffer (l : Loaded) (s : State) : State :=
  let k := min l.scene (l.record.scenes.length - 1)
  onScene (fun c => { c with
    counter := c.counter + 1
    buffer := ⟨l.preset, k, some l.record, c.counter + 1, l.stashSeq.isSome⟩ }) s

/-- Every satellite register, satellites and registers ascending. -/
def allRegs : List (Nat × Nat) := (List.range 8).flatMap fun i => (List.range 16).map fun r => (i, r)

/-- Hand the effective satellite values as URGENT (R106, R155): all of them, or those that differ from the shadow image. -/
def pushImages (onlyChanged : Bool) (s : State) : State :=
  allRegs.foldl (fun x p =>
    match effective x (.sat p.1 p.2) with
    | some v =>
      if onlyChanged && ((satOf x p.1).desired.getD p.2 0 == v.toNat) then x else satPush .urgent p.1 p.2 v.toNat x
    | none => x) s

/-- Has the swap condition of R104 become true? -/
def swapDue (s : State) : Bool :=
  match s.sw.inflight with
  | some f => (f.phase == .fadingOut) && f.dropped && (f.evicting == []) && (f.join == .complete)
  | none => false

/-- The swap, steps 1 and 2 of R106: capture and load. -/
def swapLoad (f : Inflight) (s : State) : State :=
  match f.loaded with
  | some l =>
    let s1 := match l.stashSeq with
      | some q => stashLeave (fun e => e.seq == q) s
      | none => s
    let s2 := if s.scene.buffer.dirty && !f.req.discard then stashCapture s1 else s1
    loadBuffer l s2
  | none => s

/-- The swap (R106). During a clock loss the rebuild carries a gain set and the switch completes (R112). -/
def swapStep (s : State) : State :=
  if swapDue s then
    match s.sw.inflight with
    | some f =>
      let s1 := evalMap (onScene (fun c => { c with posMap := none }) (swapLoad f s))
      let v := effectiveLevel s1
      let s2 := onSw (fun w => { w with level := v, reservation := false, inflight := some { f with phase := .fadingIn } }) s1
      let fadeIn := (s2.scene.buffer.record.map (·.fadeIn)).getD 1
      let s3 := hand (.rebuild (effectiveInsts f.joined s2)) s2
      let s4 := hand (if present s then .gainTarget .chain v fadeIn else .gainSet .chain v) s3
      let s5 := match f.kind with
        | .rebuild => pushImages true s4
        | _ => pushImages false (presetTempo (s4.scene.buffer.record.bind (·.tempo)) s4)
      let s6 := raise .scene (if f.req.exitTuner then setTunerMode .off s5 else s5)
      if present s then s6 else completeSwitch f.req s6
    | none => s
  else s

/-! ## The audio clock loss (R112) -/

/-- The Switch Engine's action at the loss declaration. -/
def switchClockLoss (s : State) : State :=
  match s.sw.inflight with
  | some f =>
    match f.phase with
    | .loading => s
    | .fadingOut => hand (.gainSet .chain 0) (onSw (fun w => { w with inflight := some { f with deferred := [] } }) s)
    | .fadingIn => completeSwitch f.req (hand (.gainSet .chain s.sw.level) s)
    | .ramping => completeSwitch f.req (hand (.gainSet .chain s.sw.level) s)
  | none => s

end Sys2Proof.Machine
end

