-- ==== Sys2Proof/Machine/Formats.lean ====
section
/-! DEFINITION. The formats of chapter 12: the envelope, the preset record, check words, notice payloads and the contents
of the status replies. -/

namespace Sys2Proof.Machine

/-! ## Envelope (12.1, R195) -/

/-- The check byte that makes the 8-bit sum of length, kind, payload and itself 0. -/
def checkByte (body : List Byte) : Byte := 0 - (body.foldl (· + ·) 0)

/-- The bytes of a packet on the line (R195). -/
def wireBytes (p : Packet) : List Byte :=
  let body := byte (p.payload.length + 1) :: p.kind :: p.payload
  0x5A :: body ++ [checkByte body]

/-! ## The link line (R170): one level for each bit time, `true` for high -/

/-- A number as bits, most significant first. -/
def bitsMsb (w n : Nat) : List Bool := (List.range w).map fun k => n.testBit (w - 1 - k)

/-- The number that bits spell, most significant first. -/
def bitsValue (b : List Bool) : Nat := b.foldl (fun v x => 2 * v + x.toNat) 0

/-- A byte on the line (R170): the start bit low, the data bits from the least significant on, the stop bit high. -/
def byteLevels (b : Byte) : List Bool := false :: ((bitsMsb 8 b.toNat).reverse ++ [true])

/-- The byte that ten levels from a start bit on spell; none where the stop bit is low, which is FRAMING_ERROR (R170). -/
def levelsByte (v : List Bool) : Option Byte :=
  if v[0]? = some false ∧ v[9]? = some true then some (byte (bitsValue ((v.drop 1).take 8).reverse)) else none

/-- Levels held low for at least 10 bit times are a break (R171). -/
def breakLevels (v : List Bool) : Bool := decide (10 ≤ v.length) && v.all (! ·)

/-- What a link's transmit line carries (R170, R195): the bytes of the packet in transmission; otherwise it idles high. -/
def lineLevels (r : Link) : List Bool :=
  match r.tx with
  | some p => (wireBytes p.pkt).flatMap byteLevels
  | none => [true]

/-! ## The satellite transaction on SDAT (12.6, R196) -/

/-- What the part sends on SDAT while it drives SSEL (R196): direction, satellite, register and, for a write, the data, each
most significant bit first. -/
def sdatFrame (t : Trans) : List Bool :=
  t.read :: bitsMsb 3 t.sat ++ bitsMsb 5 t.reg ++ (if t.read then [] else bitsMsb 8 t.data)

/-- What the unit drives after it (R196): none where the acknowledge is not low, which is TRANSACTION_FAILED; else the data
of a read, as the rows of the answers carry it (a write's answer has none, given as 0). -/
def sdatAnswer (read : Bool) : List Bool → Option Byte
  | false :: d => some (if read then byte (bitsValue (d.take 8)) else 0)
  | _ => none

/-- What the part drives on the satellite link (R152, R196): the frame of the transaction in flight, with SSEL; nothing while
the line is idle. -/
def sdatDriven (s : State) : Option (List Bool) := s.sat.inFlight.map sdatFrame

/-! ## The preset record (12.5) -/

/-- The bytes of a slot record. -/
def slotBytes (r : SlotRec) : List Byte :=
  [byte (slotTypeCode r.stype), flagByte r.bypass, if r.policy = .keep then 1 else 0, byte (lengthClassCode r.lclass)]
    ++ r.params.flatMap be2i ++ r.table.flatMap be2i
    ++ r.sets.flatMap fun c => be4i c.b0 ++ be4i c.b1 ++ be4i c.b2 ++ be4i c.a1 ++ be4i c.a2

/-- The bytes of a scene record. -/
def sceneBytes (c : Scene) : List Byte :=
  nameBytes 8 c.name ++ be2 c.level ++ [byte c.ramp, byte c.overrides.length]
    ++ c.overrides.flatMap fun o => targetBytes o.target ++ be2i o.value

/-- The care set of an image entry as bits. -/
def careBits (e : SatImage) : Nat := e.regs.foldl (fun m x => m + 2 ^ x.1) 0

/-- The bytes of an image entry. -/
def imageBytes (e : SatImage) : List Byte := byte e.sat :: be2 (careBits e) ++ e.regs.map fun x => byte x.2

/-- The bytes of a map entry. -/
def entryBytes (e : MapEntry) : List Byte := byte e.source :: targetBytes e.target ++ e.points.flatMap be2i

/-- The bytes of a preset record. -/
def recordBytes (r : Record) : List Byte :=
  nameBytes 16 r.name ++ [byte r.fadeOut, byte r.fadeIn] ++ be2 (r.tempo.getD 0)
    ++ [byte r.chain.length, byte r.scenes.length, byte r.images.length, byte r.map.length]
    ++ r.chain.flatMap slotBytes ++ r.scenes.flatMap sceneBytes ++ r.images.flatMap imageBytes ++ r.map.flatMap entryBytes

/-- The check word of a record's bytes (R71). -/
def checkWord (bytes : List Byte) : Word32 := BitVec.ofNat 32 4294967295 - BitVec.ofNat 32 (sumBytes bytes)

/-- State of a library record at a read (R71): none is EMPTY, `some none` CORRUPT. -/
def readPlace (p : LibPlace) : Option (Option Record) :=
  if !p.written then none
  else match p.content with
    | some r => if p.check = checkWord (recordBytes r) then some (some r) else some none
    | none => some none

/-- Library place `n`. -/
def placeOf (s : State) (n : Nat) : LibPlace := s.store.library.getD n LibPlace.blank

/-- Chunk `k` of 200 bytes (R77); none beyond the last. -/
def chunkOf (bytes : List Byte) (k : Nat) : Option (List Byte) :=
  if 200 * k < bytes.length then some ((bytes.drop (200 * k)).take 200) else none

/-! ## Small fields -/

/-- A word of four bytes. -/
def word4 (w : Word32) : List Byte := be4 w.toNat

/-- A cue countdown (12.4): FFFFh for none; a value that two bytes cannot hold beside it is not stated (log 21). -/
def countdownBytes (c : Option Nat) : List Byte :=
  match c with
  | none => [0xFF, 0xFF]
  | some n => if n < 65535 then be2 n else be2 (Config.wideCountdown n)

/-- Beats from the current position to the first unfired cue after it (R150). -/
def cueCountdown (c : Show) : Option Nat :=
  let from11 := c.transport = .stopped ∨ c.transport = .armed
  let after := fun (q : Cue) =>
    !q.fired && (decide (c.bar < q.bar) || (q.bar == c.bar && (decide (c.beat < q.beat) || (decide from11 && q.beat == c.beat))))
  (c.cues.find? after).map fun q => ((q.bar : Int) - c.bar) * c.bpb + ((q.beat : Int) - c.beat) |>.toNat

/-- Transport state, position and countdown, as the transport replies carry them (12.7). -/
def transportBytes (c : Show) : List Byte :=
  byte (transportCode c.transport) :: be2 c.bar ++ [byte c.beat] ++ countdownBytes (cueCountdown c)

/-- Cue action kind (12.4). -/
def actionCode : CueAction → Nat
  | .switch .. => 0 | .tempo _ => 1 | .tuner _ => 2 | .satellite .. => 3 | .stop => 4

/-- The five argument bytes of a cue (12.7). -/
def actionBytes : CueAction → List Byte
  | .switch p k pr g => [byte p, byte k, byte pr] ++ be2 g
  | .tempo t => be2 t ++ [0, 0, 0]
  | .tuner w => [flagByte w, 0, 0, 0, 0]
  | .satellite i r v => [byte i, byte r, byte v, 0, 0]
  | .stop => [0, 0, 0, 0, 0]

/-- Store state and number (12.4). -/
def storeState (c : Store) : List Byte :=
  match c.op with
  | none => [0, 0xFF]
  | some (.presetStore _ n _ _) => [1, byte n]
  | some (.presetErase _ n) => [2, byte n]
  | some (.imageStore _ k _ _ _) => [3, byte k]
  | some (.setupStore _ _) => [4, 0xFF]
  | some (.presetRead _ n) => [5, byte n]
  | some (.startRead .setup) => [6, 0xFF]
  | some (.startRead (.image k)) => [6, byte k]
  | some (.startRead (.preset n)) => [6, byte n]

/-- The last-write record (12.4): operation, number, outcome. -/
def lastWrite (c : Store) : List Byte :=
  match c.last with
  | none => [0xFF, 0xFF, 0xFF]
  | some (k, n) =>
    [match k with | .presetStore => 0 | .presetErase => 1 | .imageStore => 2 | .setupStore => 3, optByte n, 0]

/-- Preset, scene and origin of a switch request, or none. -/
def requestBytes (s : State) (q : Option SwRequest) : List Byte :=
  match q with
  | some q => let t := reportedTarget s q.target; [optByte t.1, optByte t.2, byte (originCode q.origin)]
  | none => [0xFF, 0xFF, 0xFF]

/-- An outcome record. -/
def outcomeBytes (o : OutcomeRec) : List Byte := [optByte o.preset, optByte o.scene, outcomeCode o.outcome]

/-- The outcome record of a link. -/
def outcomeRec (s : State) (l : Fin 4) : OutcomeRec := s.sw.outcomes.getD l.val ⟨none, none, .none⟩

/-- Note, deviation and string index of a reading (12.4). -/
def readingBytes (r : Option Reading) : List Byte :=
  match r with
  | some r => byte r.note.toNat :: be2i r.dev ++ [optByte r.str]
  | none => [0xFF, 0, 0, 0xFF]

/-- The satellite fields of the SATELLITE notice (12.4). -/
def satBytes (x : Sat) : List Byte :=
  [byte (satStateCode x.state), flagByte x.hidden, flagByte x.latch.isSome, byte (x.latch.getD 0), x.last.getD 0xFF,
    byte (markCount x)]

/-- A seat as LINK_STATUS and SEAT_SET carry it (12.7). -/
def seatBytes (x : Seat) : List Byte :=
  [byte x.tier, byte x.precedence, byte (rateCode x.rate), flagByte x.quiet] ++ be2 x.mask.toNat

/-! ## Notice payloads (12.4, R183) -/

/-- The cues at the most recent firing position, with their numbers, up to 4 (R150). -/
def firedCues (c : Show) : List (Nat × Cue) :=
  match c.lastFired with
  | some (b, k) => (((List.range c.cues.length).zip c.cues).filter fun q => q.2.bar == b && q.2.beat == k).take 4
  | none => []

/-- The state of a notice kind as it stands (R183), on link `l`. AREA of a link that holds no area names area FFh with a
remaining count of 0 (log 59). -/
def noticePayload (k : NoticeKind) (l : Fin 4) (s : State) : List Byte :=
  match k with
  | .scene =>
    let b := s.scene.buffer
    [optByte b.preset, byte b.scene] ++ word4 b.seq ++ [flagByte b.dirty, byte (engineCode (engine s))]
      ++ requestBytes s (s.sw.inflight.map (·.req)) ++ requestBytes s s.sw.pending
  | .switchOutcome => outcomeBytes (outcomeRec s l)
  | .tuner =>
    [byte (tunerModeCode s.tuner.mode), byte (detCode s.tuner.state)] ++ readingBytes s.tuner.reading
  | .beat => be2 s.clk.tempo ++ [byte (tempoSourceCode s.clk.source), byte s.clk.beatCount] ++ transportBytes s.clk
  | .cue =>
    let q := firedCues s.clk
    transportBytes s.clk ++ [byte q.length]
      ++ q.flatMap fun x => byte x.1 :: be2 x.2.bar ++ [byte x.2.beat, byte (actionCode x.2.action), outcomeCode x.2.outcome]
  | .satellite => [flagByte s.sat.holdAuto, flagByte s.sat.refresh] ++ s.sat.sats.flatMap satBytes
  | .store => lastWrite s.store ++ storeState s.store
  | .area =>
    let u := s.area.uploads.getD l.val ⟨none, .none⟩
    let load := u.area.bind fun a => match s.area.areas[a]? with
      | some (.loading _ _ rem saving _) => some (a, rem, saving)
      | _ => none
    match load with
    | some (a, rem, saving) => byte a :: be2 rem ++ [flagByte saving, byte (lastEndCode u.lastEnd)]
    | none => [0xFF, 0, 0, 0xFF, byte (lastEndCode u.lastEnd)]
  | .stash =>
    [s.scene.drops, optByte s.scene.lastDropped, byte s.scene.stash.length]
      ++ s.scene.stash.flatMap fun e => optByte e.preset :: word4 e.seq ++ nameBytes 16 e.record.name
  | .clock =>
    [byte (tempoSourceCode s.clk.source), flagByte s.clk.lock] ++ be2 s.clk.tempo ++ [byte (clockCode s.mon.state)]
  | .panic =>
    [flagByte s.link.panic, optByte (s.link.panicLink.map (·.val)), byte (holderBits s.tone.holders)]

/-- The packet of a notice: kinds C0h to CAh, no status byte (R195). -/
def noticePacket (k : NoticeKind) (l : Fin 4) (s : State) : Packet := ⟨byte (0xC0 + noticeOrder k), noticePayload k l s⟩

/-! ## Contents of status replies (12.7) -/

/-- IDENTIFY (R179). -/
def identifyContent (l : Fin 4) (s : State) : List Byte :=
  let seat := (linkOf s l).seat
  [0x00, 0x40, 0x01, byte l.val, byte seat.tier, byte seat.precedence, byte (startCode s.startup.phase)]

/-- GET_STATUS (R179). -/
def getStatusContent (s : State) : List Byte :=
  let b := s.scene.buffer
  [byte (startCode s.startup.phase), flagByte s.startup.factory, byte (clockCode s.mon.state), flagByte s.link.panic,
    byte (holderBits s.tone.holders), byte (engineCode (engine s)), optByte b.preset, byte b.scene, flagByte b.dirty,
    byte (tunerModeCode s.tuner.mode), byte (transportCode s.clk.transport)]
    ++ be2 s.clk.bar ++ [byte s.clk.beat] ++ be2 s.clk.tempo
    ++ [byte (tempoSourceCode s.clk.source)] ++ (storeState s.store).take 1

/-- LINK_STATUS (R179). -/
def linkStatusContent (s : State) : List Byte :=
  s.link.links.flatMap (fun l => seatBytes l.seat) ++ s.link.access.map byte
    ++ s.link.links.flatMap fun l =>
      (match l.outstanding with | none => 0 | some o => if o.orphaned then 2 else 1) :: be2 l.flags.toNat

/-- The six bytes of one area in AREA_STATUS (12.7). -/
def areaBytes : Area → List Byte
  | .free => [0, 0xFF, 0xFF, 0xFF, 0, 0]
  | .line h ready _ =>
    let holder := match h with
      | .live p => p
      | .incoming p => 0x40 + p
      | .lane l => 0x80 + l
    [1, byte holder, flagByte ready, 0xFF, 0, 0]
  | .image slot taps refs => [2, optByte slot, 0xFF, byte (tapsCode taps)] ++ be2 refs
  | .loading l taps rem saving _ => [3, byte l.val, flagByte saving, byte (tapsCode taps)] ++ be2 rem

/-- AREA_STATUS (R55). -/
def areaStatusContent (s : State) : List Byte :=
  s.area.areas.flatMap areaBytes
    ++ (s.area.table.zip s.area.failed).flatMap (fun x =>
      [optByte (x.1.map (·.1)), byte ((x.1.map fun e => tapsCode e.2).getD 255), flagByte x.2])
    ++ [flagByte s.sw.reservation, byte (freeAreas s.area)]

/-- MAP_STATUS (R68). -/
def mapStatusContent (s : State) : List Byte :=
  let m := (s.scene.buffer.record.map (·.map)).getD []
  s.scene.controls.flatMap be2 ++ [byte m.length]
    ++ (m.zip s.scene.driven).flatMap fun x => byte x.1.source :: targetBytes x.1.target ++ be2i x.2

/-- Type and marks of a live position (12.7). -/
def positionBytes (p : Position) : List Byte :=
  let marks := match p.inst with
    | none => 0x80
    | some i => match i.proc with
      | .cab _ missing _ _ _ => if missing then 1 else 0
      | .delay _ _ _ _ _ _ clamped => if clamped then 2 else 0
      | _ => 0
  [byte (slotTypeCode p.stype), byte marks]

/-- Is a REBUILD outstanding (R85)? -/
def rebuildOutstanding (s : State) : Bool := s.scene.posMap.isSome

/-- BUFFER_STATUS (R85). -/
def bufferStatusContent (s : State) : List Byte :=
  let b := s.scene.buffer
  [optByte b.preset, byte b.scene] ++ word4 b.seq ++ [flagByte b.dirty]
    ++ nameBytes 16 ((b.record.map (·.name)).getD [])
    ++ [byte s.tone.chain.length] ++ s.tone.chain.flatMap positionBytes ++ [flagByte (rebuildOutstanding s)]
    ++ storeState s.store ++ [byte s.scene.stash.length]
    ++ s.scene.stash.flatMap (fun e => optByte e.preset :: nameBytes 16 e.record.name ++ word4 e.seq)
    ++ [s.scene.drops, optByte s.scene.lastDropped]

/-- Target kind of a switch request (12.7). -/
def targetKindCode : SwTarget → Nat
  | .preset .. => 0 | .stash _ => 1 | .rebuild => 2

/-- Milliseconds left of the guard (R116): a free value within the time loaded (log 6); with no guard open, 0 (log 29). -/
def guardRemaining (s : State) : Nat :=
  match s.sw.guard with
  | some (_, ms) => Config.guardLeft s.freeCount % (ms + 1)
  | none => 0

/-- The in-flight part of SWITCH_STATUS; fields of no switch are FFh, its flags, waits and counts 0 (log 29). Outside
FADING_OUT the waits are 0, while the lanes assigned stay as the switch holds them (log 52). -/
def inflightBytes (s : State) : List Byte :=
  match s.sw.inflight with
  | some f =>
    let t := reportedTarget s f.req.target
    let q := f.req
    let flags := (if q.discard then 1 else 0) + (if q.exitTuner then 2 else 0) + (if q.reload then 4 else 0)
    let waits := if f.phase = .fadingOut then
        (if f.dropped then 0 else 1) + (if f.evicting = [] then 0 else 2) + (if f.join = .complete then 0 else 4)
      else 0
    [match f.kind with | .preset => 0 | .scene => 1 | .rebuild => 2, byte (targetKindCode q.target), optByte t.1, optByte t.2,
      byte (originCode q.origin), byte q.precedence, byte flags, byte waits,
      byte (((List.range 4).filter f.assigned.contains).foldl (fun m l => m + 2 ^ l) 0), byte f.deferred.length]
  | none => [0xFF, 0xFF, 0xFF, 0xFF, 0xFF, 0xFF, 0, 0, 0, 0]

/-- SWITCH_STATUS (R116) for a link. -/
def switchStatusContent (l : Fin 4) (s : State) : List Byte :=
  byte (engineCode (engine s)) :: inflightBytes s
    ++ (match s.sw.pending with
      | some q => byte (targetKindCode q.target) :: requestBytes s (some q) ++ [byte q.precedence]
      | none => [0xFF, 0xFF, 0xFF, 0xFF, 0xFF])
    ++ [optByte (s.sw.guard.map (·.1))] ++ be2 (guardRemaining s) ++ [flagByte s.sw.reservation]
    ++ be2i s.sw.level ++ outcomeBytes (outcomeRec s l)

/-- TUNER_STATUS (R130). -/
def tunerStatusContent (s : State) : List Byte :=
  let t := s.tuner
  [byte (tunerModeCode t.mode), flagByte t.sourceB] ++ be2 t.reference
    ++ [byte t.exponent, flagByte t.stringSet.isSome, optByte t.stringSet, byte (detCode t.state), byte t.ring.length]
    ++ be4 (ringMedian t.ring) ++ readingBytes t.reading ++ be4i ((t.reading.map (·.c)).getD 0)
    ++ [flagByte s.tone.holders.tuner]

/-- SHOW_STATUS (R151). -/
def showStatusContent (s : State) : List Byte :=
  let c := s.clk
  be2 c.tempo ++ [byte (tempoSourceCode c.source), flagByte c.lock] ++ be4 c.bc ++ be4i c.countdown
    ++ [byte c.ppb, byte c.pulses.length, flagByte c.pulseTimer, byte c.bpb] ++ be2 c.defTempo
    ++ [byte c.taps.length, byte c.beatCount] ++ transportBytes c ++ [byte c.cues.length]

/-- CUE_LIST (R151) from a starting number. -/
def cueListContent (start : Nat) (s : State) : List Byte :=
  let listed := (((List.range s.clk.cues.length).zip s.clk.cues).drop start).take 16
  [byte s.clk.cues.length, byte listed.length]
    ++ listed.flatMap fun x => byte x.1 :: be2 x.2.bar ++ [byte x.2.beat, byte (actionCode x.2.action)]
      ++ actionBytes x.2.action ++ [flagByte x.2.fired, outcomeCode x.2.outcome]

/-- Code of a pending mark (12.7). -/
def markCode : Mark → Byte
  | .absent => 0 | .routine => 1 | .urgent => 2

/-- SAT_STATUS (R169), of one satellite or of all; with an idle line the satellite and the register are sent as the class
is, FFh (log 54). -/
def satStatusContent (sat : Option Nat) (s : State) : List Byte :=
  [flagByte s.sat.holdAuto, flagByte s.sat.refresh, byte s.sat.queue.length]
    ++ (match s.sat.inFlight with
      | some t => [byte t.sat, byte t.reg, byte (satClassCode t.cls)]
      | none => [0xFF, 0xFF, 0xFF])
    ++ s.sat.sats.flatMap (fun x => satBytes x ++ [byte x.failures])
    ++ (match sat with
      | some i => (satOf s i).desired.map byte ++ (satOf s i).marks.map markCode ++ [flagByte (satOf s i).owed]
      | none => [])

end Sys2Proof.Machine
end

