-- ==== Sys2Proof/Machine/Links.lean ====
section
/-! DEFINITION. The Link Controller (chapter 10): receiver, transmitter, BUSY replies, breaks. -/

namespace Sys2Proof.Machine

/-! ## Receiver (R170) -/

/-- A receiver in HUNT. -/
def rxHunt : Rx := ⟨.hunt, 0, []⟩

/-- One received byte (R170): the receiver after it, and the complete packet (kind and payload) where the check passes. A
receiver that waits for the line to go high takes none (R171). -/
def rxByte (b : Byte) (r : Rx) : Rx × Option (List Byte) :=
  match r.st with
  | .hunt => (if b = 0x5A then ⟨.length, 0, []⟩ else rxHunt, none)
  | .length => (if 1 ≤ b.toNat ∧ b.toNat ≤ 250 then ⟨.body, b.toNat, []⟩ else rxHunt, none)
  | .body =>
    let body := r.body ++ [b]
    (⟨if body.length = r.len then .check else .body, r.len, body⟩, none)
  | .check => (rxHunt, if (byte r.len :: r.body ++ [b]).foldl (· + ·) (0 : Byte) = 0 then some r.body else none)
  | .waitHigh => (r, none)

/-- Bytes received one after another. Packets completed on the way are requests with rows of their own (log 18). -/
def rxBytes (bs : List Byte) (r : Rx) : Rx := bs.foldl (fun r b => (rxByte b r).1) r

/-- A gap or a bad stop bit discards the packet in progress (R170); a receiver that waits after a break goes on waiting. -/
def rxDrop (r : Rx) : Rx := if r.st = .waitHigh then r else rxHunt

/-- Update the receiver of a link. -/
def onRx (l : Fin 4) (f : Rx → Rx) (s : State) : State := onLinkAt l (fun r => { r with rx := f r.rx }) s

/-! ## Transmitter (R174, R183) -/

/-- The transmitter begins a reply (R173, R176): the reply of the outstanding request frees the link; the end of the reply to
the link's own SEAT_SET brings the rate of the seat. -/
def beginReply (p : ReplyPlace) (rest : List ReplyPlace) (x : Link) : Link :=
  { x with
    tx := some p
    places := rest
    outstanding := if p.tag = .busy then x.outstanding else none
    nextRate := if p.tag = .ownSeat then x.seat.rate else x.nextRate }

/-- The transmitter of a link chooses its next packet where it is idle (R174): a reply place in the order of filling, else
the lowest pending notice with the state as it stands. Notices wait through BOOTING, since they are sent under the masks it
loads (R191, log 47). -/
def pumpLink (l : Fin 4) (s : State) : State :=
  let r := linkOf s l
  match r.tx with
  | some _ => s
  | none =>
    match r.places with
    | p :: rest => onLinkAt l (beginReply p rest) s
    | [] =>
      if s.startup.phase = .booting then s
      else match lowestFlag r.flags with
        | some k =>
          let pkt := noticePacket k l s
          onLinkAt l (fun x => { x with tx := some ⟨.plain, pkt⟩, flags := x.flags &&& ~~~ noticeBit k }) s
        | none => s

/-- Every idle transmitter with something ready starts it. -/
def pump (s : State) : State := pumpLink 3 (pumpLink 2 (pumpLink 1 (pumpLink 0 s)))

/-- The packet in transmission ends, and the rate due at its end applies (R176). -/
def endPacket (x : Link) : Link := { x with tx := none, txRate := x.nextRate }

/-- A packet's end (R174, R176, R180). -/
def txEnd (l : Fin 4) (s : State) : State :=
  match (linkOf s l).tx with
  | some p =>
    let s1 := onLinkAt l endPacket s
    if p.tag = .restart then onStartup (fun u => { u with restartDue := true }) s1 else pumpLink l s1
  | none => s

/-- A packet that meets an outstanding request fills the BUSY place, or is discarded while that is full (R173). -/
def busyReply (l : Fin 4) (p : Packet) (s : State) : State :=
  onLinkAt l (fun x =>
    if x.places.any (·.tag == .busy) then x else { x with places := x.places ++ [⟨.busy, p⟩] }) s

/-- The link's request becomes outstanding (R172). -/
def beginRequest (l : Fin 4) (kind : Nat) (s : State) : State :=
  onLinkAt l (fun x => { x with outstanding := some ⟨kind, false⟩ }) s

/-! ## Break (R171) -/

/-- A link at a break (R171): a reply already filled is discarded and the link free; otherwise the outstanding request is
orphaned. With the reply to the link's own SEAT_SET discarded, the seat's rate applies from the end of the packet in
transmission, or at once (log 65). -/
def orphan (x : Link) : Link :=
  let filled := x.places.any (·.tag != .busy)
  { x with
    rx := ⟨.waitHigh, 0, []⟩
    txRate := if x.tx.isNone then x.seat.rate else x.txRate
    nextRate := x.seat.rate
    places := []
    outstanding := if filled then none else x.outstanding.map fun o => { o with orphaned := true } }

/-- Does a discarded reply bring about start-up (R180)? -/
def restartHeld (x : Link) : Bool := x.places.any (·.tag == .restart)

/-- A waiting READ_PRESET is withdrawn by a break on its link, which ends the request (R73, R171). -/
def withdrawRead (l : Fin 4) (s : State) : State :=
  if s.store.waitLinks.any (·.link == l) then
    onLinkAt l (fun x => { x with outstanding := none })
      (onStore (fun c => { c with waitLinks := c.waitLinks.filter (·.link != l) }) s)
  else s

/-- A break acts on the link's upload (R54). -/
def breakUpload (l : Fin 4) (s : State) : State :=
  match uploadArea s.area l with
  | some a =>
    match s.area.areas[a]? with
    | some (.loading _ _ _ false _) => raiseOn .area l { s with area := endUpload l .broken s.area }
    | _ => s
  | none => s

/-- A break on a link (R171). -/
def breakLink (l : Fin 4) (s : State) : State :=
  let restart := restartHeld (linkOf s l)
  let s2 := breakUpload l (withdrawRead l (onLinkAt l orphan s))
  if restart then onStartup (fun u => { u with restartDue := true }) s2 else s2

/-! ## Seats (R176, R182) -/

/-- Does the reply to the link's own SEAT_SET wait? -/
def ownReplyWaits (x : Link) : Bool := x.places.any (·.tag == .ownSeat)

/-- A link takes a new seat (R176, R182). A changed rate resets the receiver, which goes on waiting after a break (log 55), and
reaches the transmitter at the end of the packet it is sending, or at once if it is idle; but the reply to the link's own
SEAT_SET goes out first, the one being taken (`own`) or one that waits already (log 65). Flags of kinds that the new mask lacks
are cleared, at the end of BOOTING too (log 47). -/
def takeSeat (own : Bool) (seat : Seat) (x : Link) : Link :=
  let held := own || ownReplyWaits x
  { x with
    seat := seat
    rx := if seat.rate = x.seat.rate then x.rx else rxDrop x.rx
    txRate := if x.tx.isNone && !held then seat.rate else x.txRate
    nextRate := if held then x.nextRate else seat.rate
    flags := maskedFlags x.flags seat.mask }

end Sys2Proof.Machine
end

