-- ==== Sys2Proof/Machine/Startup.lean ====
section
/-! DEFINITION. Start-up (chapter 11, R114): the entry values, BOOTING, IMAGES, FIRST_LOAD. -/

namespace Sys2Proof.Machine

/-- What a write cut short leaves in the nonvolatile array (R52, R78, R188). -/
def interruptWrite (c : Store) : Store :=
  match c.op with
  | some (.presetStore _ n _ _) => { c with library := c.library.set n ⟨true, none, 0⟩ }
  | some (.presetErase _ n) => { c with library := c.library.set n ⟨true, none, 0⟩ }
  | some (.imageStore _ k _ _ _) => { c with images := c.images.set k .bad }
  | some (.setupStore _ _) => { c with setup := .bad }
  | _ => c

/-- A write in flight at a RESTART, which ends its request and goes on (R78); a read in flight ends. -/
def keepWrite : Option StoreOp → Option StoreOp
  | some (.presetStore _ n r q) => some (.presetStore none n r q)
  | some (.presetErase _ n) => some (.presetErase none n)
  | some (.imageStore _ k a t w) => some (.imageStore none k a t w)
  | some (.setupStore _ v) => some (.setupStore none v)
  | _ => none

/-- Every block at its entry values (R189), with the nonvolatile array of `c`, the store's operation, and supply and
RESET_N as given. The queue, the DRAM words (log 5) and the free value index stay. The factory flag is clear until BOOTING's
read ends (log 56). -/
def startupEntry (c : Store) (op : Option StoreOp) (powered held : Bool) (s : State) : State :=
  { State.reset with
    pending   := s.pending
    startup   := ⟨.booting, false, none, [], powered, held, false⟩
    area      := AreaMan.entry s.area.dram
    store     := { Store.entry c.library c.images c.setup with op := op }
    freeCount := s.freeCount }

/-- RESTART's entry (R78, R180, R189): a write in flight goes on, and BOOTING's read waits behind it. -/
def restartStep (s : State) : State :=
  if s.startup.restartDue then
    startupEntry s.store (match keepWrite s.store.op with | some w => some w | none => some (.startRead .setup)) true false s
  else s

/-! ## BOOTING (R190) -/

/-- Clamp a stored string (R117). -/
def clampString (x : TString) : TString := ⟨clampNat 15 89 x.note, clampInt (-500) 500 x.offset⟩

/-- Fixed entries of the access table keep their factory tiers (R177). -/
def takeAccess (stored : List Nat) : List Nat :=
  (List.range 21).map fun k =>
    if k = 0 ∨ k = 19 ∨ k = 20 then factoryAccess.getD k 0 else stored.getD k (factoryAccess.getD k 0)

/-- Every block takes its part of the setup (R190). -/
def applySetup (v : Setup) (s : State) : State :=
  let s1 := onLink (fun c => { c with
    links := List.zipWith (fun x seat => takeSeat false seat x) c.links v.seats
    access := takeAccess v.access
    startPreset := v.startPreset, startScene := v.startScene, masterLevel := v.masterLevel }) s
  let s2 := onTuner (fun t => { t with
    sourceB := v.sourceB, reference := clampNat 4300 4500 v.reference, exponent := clampNat 6 12 v.exponent
    strings := v.strings.map (·.map clampString) }) s1
  let t := clampNat 300 3000 v.defTempo
  let s3 := onClk (fun c => loadCountdown { c with tempo := t, defTempo := t, ppb := v.ppb, bpb := v.bpb }) s2
  let s4 := onSat (fun c => { c with
    sats := List.zipWith (fun x h => { x with hidden := h }) c.sats v.hideMask
    holdAuto := v.holdAuto, refresh := v.refresh, pollTimer := true, refTimer := true }) s3
  hand (.gainSet .master v.masterLevel) (onArea (fun m => { m with mask := v.imageMask }) s4)

/-- The values of the setup as the blocks hold them (R187, R188). -/
def heldSetup (s : State) : Setup where
  seats       := s.link.links.map (·.seat)
  access      := s.link.access
  startPreset := s.link.startPreset
  startScene  := s.link.startScene
  masterLevel := s.link.masterLevel
  sourceB     := s.tuner.sourceB
  reference   := s.tuner.reference
  exponent    := s.tuner.exponent
  strings     := s.tuner.strings
  defTempo    := s.clk.defTempo
  ppb         := s.clk.ppb
  bpb         := s.clk.bpb
  hideMask    := s.sat.sats.map (·.hidden)
  refresh     := s.sat.refresh
  holdAuto    := s.sat.holdAuto
  imageMask   := s.area.mask

/-! ## FIRST_LOAD (R114, R191) -/

/-- FIRST_LOAD begins: the start preset is read. -/
def beginFirstLoad (s : State) : State :=
  onStartup (fun u => { u with phase := .firstLoad })
    (onStore (fun c => { c with op := some (.startRead (.preset s.link.startPreset)) })
      (onArea (fun m => { m with mask := m.table.map Option.isSome }) s))

/-- Is an area the IMAGE of a slot? -/
def isImageOf (k : Nat) : Area → Bool
  | .image (some j) _ _ => j == k
  | _ => false

/-- The lowest FREE area is joined into IMAGE for slot `k` (R56): the tap count of its copy, reference count 0. The slot table
names it once its words are copied. -/
def joinImage (k : Nat) (copy : ImageCopy) (m : AreaMan) : AreaMan :=
  match copy, firstIdx isFree m.areas with
  | .good taps _, some a => { m with areas := m.areas.set a (.image (some k) taps 0) }
  | _, _ => m

/-- IMAGES from image slot `k` on (R56): the next marked slot whose copy passes gets its area, and the copy of its words
begins; marked slots whose copies fail get their failed mark; after the last, FIRST_LOAD begins. -/
def imagesFrom (k : Nat) (s : State) : State :=
  let rest := (List.range 16).drop k
  let copy := fun j => s.store.images.getD j .absent
  let marked := fun j => s.area.mask.getD j false
  let good := fun j => marked j && match copy j with | .good .. => true | _ => false
  let next := rest.find? good
  let passed := match next with | some j => rest.filter (fun i => decide (i < j)) | none => rest
  let failed := passed.foldl (fun f j => if marked j && (copy j == .bad) then f.set j true else f) s.area.failed
  let s1 := onArea (fun m => { m with failed := failed }) s
  match next with
  | some j => onStore (fun c => { c with op := some (.startRead (.image j)) }) (onArea (joinImage j (copy j)) s1)
  | none => beginFirstLoad (onStore (fun c => { c with op := none }) s1)

/-- The stored setup has been read (R190): BOOTING ends, IMAGES begins. -/
def bootRead (s : State) : State :=
  let s1 := match s.store.setup with
    | .good v => onStartup (fun u => { u with factory := false }) (applySetup v s)
    | _ => onStartup (fun u => { u with factory := true }) (applySetup Setup.factory s)
  imagesFrom 0 (onStartup (fun u => { u with phase := .images }) s1)

/-- The copy of image slot `k` ends (R56): its area holds the words, the slot table names the area; the next slot is taken. -/
def imageCopied (k : Nat) (s : State) : State :=
  match s.store.images.getD k .absent, firstIdx (isImageOf k) s.area.areas with
  | .good taps words, some a =>
    imagesFrom (k + 1) (onArea (fun m => { m with
      dram := dramWriteAll m.dram (areaAddr a 0) words
      table := m.table.set k (some (a, taps)) }) s)
  | _, _ => imagesFrom (k + 1) s

/-- The first load hands its rebuild (R114, R191): RUNNING, then the start-up holder is released. -/
def finishFirstLoad (s : State) : State :=
  match s.startup.load with
  | some l =>
    let s1 := evalMap (loadBuffer l s)
    let v := effectiveLevel s1
    let s2 := hand (.gainSet .chain v) (hand (.rebuild (effectiveInsts s.startup.joined s1)) s1)
    let s3 := pushImages false (onSw (fun w => { w with level := v }) s2)
    let s4 := raise .scene (presetTempo l.record.tempo s3)
    releaseStartupHolder (onStartup (fun u => { u with phase := .running, load := none, joined := [] }) s4)
  | none => s

/-- The start preset has been read (R114, R191): an EMPTY or CORRUPT record, or a LINE need beyond the FREE areas, gives
the fallback record; the line join is made. -/
def startPresetRead (n : Nat) (s : State) : State :=
  let fallback : Loaded := ⟨fallbackRecord, none, 0, none⟩
  let l : Loaded := match readPlace (placeOf s n) with
    | some (some r) => if chainNeed r.chain ≤ freeAreas s.area then ⟨r, some n, s.link.startScene, none⟩ else fallback
    | _ => fallback
  let (j, m) := joinLines 0 l.record.chain s.area
  let s1 := onStartup (fun u => { u with load := some l, joined := j })
    (onStore (fun c => { c with op := none }) { s with area := m })
  if j = [] then finishFirstLoad s1 else s1

end Sys2Proof.Machine
end

