-- ==== Sys2Proof/Machine/Cues.lean ====
section
/-! DEFINITION. The show transport, the cue list and the beat clock (R139, R140, R143 to R150). -/

namespace Sys2Proof.Machine

/-- Is a position before another? -/
def posBefore (b1 k1 b2 k2 : Nat) : Bool := decide (b1 < b2) || (b1 == b2 && decide (k1 < k2))

/-- STOPPED at 1:1 with every cue unfired (R144, R148). -/
def stopShow (c : Show) : Show :=
  { c with transport := .stopped, bar := 1, beat := 1, cues := c.cues.map fun q => { q with fired := false } }

/-- A SATELLITE cue's write (R84, R148): to the image, and to the shadow image where neither an entry nor an override is
in force. -/
def cueSatellite (i r v : Nat) (s : State) : State :=
  let s1 := writeImage i r v s
  if isDriven s1 (.sat i r) || isOverridden s1 (.sat i r) then s1 else satPush .routine i r v s1

/-- A SWITCH cue's request (R92, R148): its outcome at the take, then what the arbiter does. -/
def cueSwitch (tag preset scene precedence guard : Nat) (s : State) : State :=
  if switchArgsOk s preset scene false then
    let r := arbiter ⟨.preset preset scene, false, false, false, .cue tag, precedence, guard⟩ s
    if r.1 = .taken then r.2 else cueOutcome tag r.1 r.2
  else cueOutcome tag .badArg s

/-- A cue fires (R148). -/
def fireCue (q : Cue) (s : State) : State :=
  let s1 := raise .cue (onClk (fun c => { c with
    lastFired := some (q.bar, q.beat)
    cues := c.cues.map fun x => if x.tag = q.tag then { x with fired := true, outcome := .done } else x }) s)
  match q.action with
  | .switch p k pr g => cueSwitch q.tag p k pr g s1
  | .tempo t => commandTempo t s1
  | .tuner watch => setTunerMode (if watch then .watch else .off) s1
  | .satellite i r v => cueSatellite i r v s1
  | .stop => onClk stopShow s1

/-- Cues fire one after another; a STOP ends the firing (R148). -/
def fireList : List Cue → State → State
  | [], s => s
  | q :: t, s => if q.action = .stop then fireCue q s else fireList t (fireCue q s)

/-- The unfired cues at the current position fire in list order. -/
def fireHere (s : State) : State :=
  fireList (s.clk.cues.filter fun q => !q.fired && q.bar == s.clk.bar && q.beat == s.clk.beat) s

/-- A beat event moves a RUNNING show (R143). -/
def advanceShow (s : State) : State :=
  let c := s.clk
  if c.transport = .running then
    if c.beat < c.bpb then fireHere (onClk (fun c => { c with beat := c.beat + 1 }) s)
    else if c.bar < 9999 then fireHere (onClk (fun c => { c with bar := c.bar + 1, beat := 1 }) s)
    else onClk (fun c => { c with transport := .held }) s
  else s

/-- What every beat event does (R140, R143): the beat count advances, a RUNNING show moves, a BEAT notice is pending. -/
def beatDone (s : State) : State :=
  raise .beat (advanceShow (onClk (fun c => { c with beatCount := (c.beatCount + 1) % 48, sinceBeat := 0 }) s))

/-- Has the countdown passed 0 (R139)? -/
def beatDue (s : State) : Bool := present s && s.clk.source != .external && decide (s.clk.countdown ≤ 0)

/-- The reload of the countdown (R139): B from the current tempo, so that the part of a sample passed is carried on. -/
def reloadCountdown (c : Show) : Show :=
  { c with countdown := c.countdown + (beatLen c.tempo : Nat), bc := beatLen c.tempo }

/-- The beat event of the countdown (R139): the event, then the reload from the tempo it leaves (a TEMPO cue that fires at
the event sets the beat that begins there). -/
def beatStep (s : State) : State := if beatDue s then onClk reloadCountdown (beatDone s) else s

/-- `k` sample periods pass (R120, R132, R139): positions advance, the countdown falls outside EXTERNAL. -/
def passSamples (k : Nat) (s : State) : State :=
  onTuner (fun t => { t with pos := t.pos + BitVec.ofNat 32 k })
    (onClk (fun c => { c with
      pos := c.pos + BitVec.ofNat 32 k
      sinceBeat := c.sinceBeat + k
      countdown := if c.source = .external then c.countdown else c.countdown - 256 * (k : Int) }) s)

/-- Sample periods until the countdown passes 0. -/
def samplesToBeat (c : Show) : Nat := ((c.countdown + 255) / 256).toNat

/-- A panic, a clock loss or a lost external clock holds a RUNNING show (R146). -/
def holdShow (c : Show) : Show := if c.transport = .running then { c with transport := .held } else c

/-- An ARMED show stops (R146); its position is 1:1 and its cue marks are unfired already. -/
def disarmShow (c : Show) : Show := if c.transport = .armed then { c with transport := .stopped } else c

/-- The source becomes EXTERNAL (R134, R140). -/
def enterExternal (c : Show) : Show :=
  { clearPulses c with source := .external, pulseTimer := true, sinceBeat := 0 }

/-- The source leaves EXTERNAL (R134, R137). -/
def leaveExternal (src : TempoSource) (c : Show) : Show :=
  loadCountdown { clearPulses c with source := src, pulseTimer := false }

/-- Where a cue is inserted: after the cues at its position and before later ones (R147). -/
def insertCue (q : Cue) : List Cue → List Cue
  | [] => [q]
  | x :: t => if posBefore q.bar q.beat x.bar x.beat then q :: x :: t else x :: insertCue q t

/-- The latest SWITCH cue strictly before a position (R145). -/
def chaseCue (b k : Nat) (l : List Cue) : Option Cue :=
  (l.filter fun q => posBefore q.bar q.beat b k && match q.action with | .switch .. => true | _ => false).getLast?

end Sys2Proof.Machine
end

