-- ==== Sys2Proof/Machine/Events.lean ====
section
/-! DEFINITION. Due events (log 1): what the part does by itself as soon as its condition holds in the state, each with the
row of the table that names it; the prelude that carries them out before a command from outside; the envelope of a
request (R172, R173) and of an edit (R80). -/

namespace Sys2Proof.Machine

/-! ## Due events -/

/-- Has the cut fade of a lane reached 0 (R23)? -/
def cutDue (l : Lane) : Bool := l.st == .cutting && l.tail.n == 0 && l.tail.cur == 0

/-- CUT_FADE_END of a lane (R23): EMPTY, areas and cost removed, reported to a switch with deferred candidates (R104). -/
def cutFadeStep (l : Nat) (s : State) : State :=
  if cutDue (laneOf s l) then
    onSw (fun w => { w with
      laneReports := if w.inflight.any (fun f => f.phase == .fadingOut) then w.laneReports ++ [l] else w.laneReports })
      (emptyLane l s)
  else s

/-- GATE_CLOSED at a position (R8): a gate gain at rest at 0 in CLOSING. -/
def gateClosedStep (pos : Nat) (s : State) : State :=
  match instAt s pos with
  | some i =>
    match i.proc with
    | .gate gain peak .closing =>
      if gain.cur = 0 ∧ gain.n = 0 then setInst pos (some { i with proc := .gate gain peak .closed }) s else s
    | _ => s
  | none => s

/-- RESOLVE_FADE_END at a position (R10): the resolve gain fell to 0. The history keeps the samples of the frame of that
boundary (log 16). -/
def resolveFadeStep (pos : Nat) (s : State) : State :=
  match instAt s pos with
  | some i =>
    match i.proc with
    | .cab _ _ _ gain .falling =>
      if gain.cur = 0 ∧ gain.n = 0 then cabResolve pos (if present s then 32 else 0) ⟨0, 32768, 4⟩ .rising s else s
    | _ => s
  | none => s

/-- CROSS_FADE_END at a place (R14, R15, R21). -/
def crossFadeStep (p : Place) (s : State) : State :=
  match p with
  | .live pos =>
    match instAt s pos with
    | some i => if crossFadeDone i then setInst pos (some (endCrossFade i)) s else s
    | none => s
  | .lane l =>
    match (laneOf s l.val).inst with
    | some i =>
      if crossFadeDone i then
        onTone (fun t => { t with lanes := modAt t.lanes l.val fun x => { x with inst := some (endCrossFade i) } }) s
      else s
    | none => s

/-- STORE_READ_START (R73): an idle store starts the waiting switch load, else the oldest waiting READ_PRESET. -/
def readStartStep (s : State) : State :=
  match s.store.op, s.store.waitSwitch, s.store.waitLinks with
  | none, some n, _ => onStore (fun c => { c with op := some (.presetRead (.switch false) n), waitSwitch := none }) s
  | none, none, q :: t => onStore (fun c => { c with op := some (.presetRead (.link q.link q.chunk) q.n), waitLinks := t }) s
  | _, _, _ => s

/-- CLOCK_RETURNED (R193): the clean count reached 512 in RETURNING. After the return the count stands at 0 (log 57). -/
def clockReturnedStep (s : State) : State :=
  if s.mon.state = .returning ∧ 512 ≤ s.mon.clean then
    let s1 : State := { s with mon := { s.mon with state := .present, clean := 0 } }
    raise .clock (releaseClockHolder (onTone (fun t => { t with framePhase := 0 }) s1))
  else s

/-- The due events of one position. -/
def positionStep (s : State) (pos : Nat) : State :=
  crossFadeStep (.live pos) (resolveFadeStep pos (weightZero pos (gateClosedStep pos s)))

/-- The due events of one lane. -/
def laneStep (s : State) (l : Fin 4) : State := crossFadeStep (.lane l) (cutFadeStep l.val s)

/-- One round of the due events in their fixed order (log 28). -/
def settleOnce (s : State) : State :=
  let s1 := beatStep (clockReturnedStep (restartStep s))
  let s2 := ([0, 1, 2, 3] : List (Fin 4)).foldl laneStep s1
  let s3 := (List.range s2.tone.chain.length).foldl positionStep s2
  let s4 := swapStep (lineJoinStep (chainRestStep (deferredMoveStep s3)))
  satGrantStep (readStartStep (promotionStep s4))

/-- Carry out what is due; three rounds reach the end of every chain of due events (log 1). -/
def settle (s : State) : State := settleOnce (settleOnce (settleOnce s))

/-- What the part has done by itself before the next command from outside takes effect (log 1). -/
def prelude (s : State) : State := pump (settle s)

/-- Does the part run: supply present, RESET_N not held (R189, log 23)? -/
def live (s : State) : Bool := s.startup.powered && !s.startup.resetHeld

/-- The outcome of a command from outside. -/
def outside (f : State → State) (s : State) : Host.Outcome State Fault Refusal :=
  .next (if live s then f (prelude s) else s)

/-- The outcome of a row that names a due event. -/
def inside (f : State → State) (s : State) : Host.Outcome State Fault Refusal :=
  .next (if live s then f s else s)

/-! ## Requests (R172) -/

/-- Has start-up reached RUNNING? -/
def running (s : State) : Bool := s.startup.phase == .running

/-- The tier a class needs (R177). -/
def classTier (s : State) (cls : Nat) : Nat := s.link.access.getD cls 0

/-- The checks of R172 from the fourth on, for a request that has become outstanding: tier, form, then the owner. An item
that the payload does not list is the owner's BAD_ARG, at the place the owner gives it where `ownItem`. -/
def checkedRequest (p : Pkt) (cls : Nat) (ownItem : Bool) (owner : State → State) (s : State) : State :=
  if (linkOf s p.link).seat.tier < classTier s cls then refuse p.link .denied s
  else if p.form = .badLength then refuse p.link .badArg s
  else if p.form = .badItem ∧ !ownItem then refuse p.link .badArg s
  else owner s

/-- A complete request packet is dispatched (R170, R172): BUSY, STARTING, DENIED, malformed, else its owner. A receiver that
waits after a break hears nothing (R171). `always` for IDENTIFY and GET_STATUS. -/
def dispatch (p : Pkt) (kind cls : Nat) (always ownItem : Bool) (owner : State → State) (s0 : State) : State :=
  if (linkOf s0 p.link).rx.st = .waitHigh then s0
  else
    let s := onRx p.link (fun _ => rxHunt) s0
    match (linkOf s p.link).outstanding with
    | some _ => busyReply p.link ⟨replyKind kind, [statusCode .busy]⟩ s
    | none =>
      let s1 := beginRequest p.link kind s
      if running s then checkedRequest p cls ownItem owner s1
      else if always then (if p.form = .exact then owner s1 else refuse p.link .badArg s1)
      else refuse p.link .starting s1

/-- A request row: the prelude, then the dispatch. -/
def request (p : Pkt) (kind cls : Nat) (owner : State → State) (s : State) : Host.Outcome State Fault Refusal :=
  outside (dispatch p kind cls false false owner) s

/-- A status request row: its reply carries what `content` gives of the state. -/
def statusRequest (p : Pkt) (kind : Nat) (content : State → List Byte) (s : State) : Host.Outcome State Fault Refusal :=
  request p kind 0 (fun x => answer p.link .ok (content x) x) s

/-- TAP and CONTROL (R181): taken at arrival without reply, or discarded. -/
def fireAndForget (p : Pkt) (owner : State → State) (s : State) : Host.Outcome State Fault Refusal :=
  outside (fun s0 =>
    if (linkOf s0 p.link).rx.st = .waitHigh then s0
    else
      let s1 := onRx p.link (fun _ => rxHunt) s0
      if !running s1 || decide ((linkOf s1 p.link).seat.tier < classTier s1 4) || p.form != .exact then s1 else owner s1) s

/-! ## Edits (R80) -/

/-- An edit row: STALE, then the item, then the edit's own `body`. -/
def edit (p : Pkt) (kind cls expected : Nat) (body : State → State) (s : State) : Host.Outcome State Fault Refusal :=
  outside (dispatch p kind cls false true fun x =>
    if presetOf expected ≠ x.scene.buffer.preset then refuse p.link .stale x
    else if p.form = .badItem then refuse p.link .badArg x
    else body x) s

end Sys2Proof.Machine
end

