-- ==== Sys2Proof/Machine/LinkRows.lean ====
section
/-! DEFINITION. The rows of the Link Controller (chapter 10): line events, its own requests, panic, seats and access, the
setup values it holds. -/

namespace Sys2Proof.Machine

/-! ## The receiver and the transmitter -/

/-- A gap over 2 ms in LENGTH, BODY or CHECK discards the packet in progress (R170). -/
def rxGap (r : Rx) : Rx :=
  match r.st with
  | .length => rxHunt
  | .body => rxHunt
  | .check => rxHunt
  | .hunt => r
  | .waitHigh => r

/-- LINK_GAP_TIMEOUT (R170): the bytes before the gap, the gap, the bytes after it from HUNT. -/
def execLinkGapTimeout (l : Fin 4) (before after : List Byte) (s : State) : Host.Outcome State Fault Refusal :=
  outside (onRx l fun r => rxBytes after (rxGap (rxBytes before r))) s

/-- FRAMING_ERROR (R170): the bytes before it, then the discard. -/
def execFramingError (l : Fin 4) (before : List Byte) (s : State) : Host.Outcome State Fault Refusal :=
  outside (onRx l fun r => rxDrop (rxBytes before r)) s

/-- CHECK_BYTE_FAILURE (R170): the receiver takes the bytes and discards the packet. -/
def execCheckByteFailure (l : Fin 4) (bytes : List Byte) (s : State) : Host.Outcome State Fault Refusal :=
  outside (onRx l (rxBytes bytes)) s

/-- INVALID_LENGTH_BYTE (R170): a start byte where the receiver has none yet, then the length byte. -/
def execInvalidLengthByte (l : Fin 4) (length : Byte) (s : State) : Host.Outcome State Fault Refusal :=
  outside (onRx l fun r => if r.st = .length then rxBytes [length] r else rxBytes [0x5A, length] r) s

/-- Does a kind byte name a request (12.2)? -/
def namesRequest (kind : Byte) : Bool := decide (1 ≤ kind.toNat) && decide (kind.toNat ≤ 0x38)

/-- A complete packet of a kind that names no request (R172, R195): BUSY, STARTING or BAD_ARG, with the kind byte. A kind
that names a request has its own row and is no event here. -/
def unknownKind (l : Fin 4) (kind : Byte) (s : State) : State :=
  if namesRequest kind || (linkOf s l).rx.st == .waitHigh then s
  else
    let s1 := onRx l (fun _ => rxHunt) s
    match (linkOf s1 l).outstanding with
    | some _ => busyReply l ⟨0x80, [statusCode .busy, kind]⟩ s1
    | none => answer l (if running s1 then .badArg else .starting) [kind] (beginRequest l 0 s1)

/-- UNKNOWN_KIND (R195). -/
def execUnknownKind (l : Fin 4) (kind : Nat) (s : State) : Host.Outcome State Fault Refusal :=
  outside (unknownKind l (byte kind)) s

/-- LINK_BREAK (R171). -/
def execLinkBreak (l : Fin 4) (s : State) : Host.Outcome State Fault Refusal := outside (breakLink l) s

/-- BREAK_LINE_HIGH (R171): the receiver that waited enters HUNT. -/
def execBreakLineHigh (l : Fin 4) (s : State) : Host.Outcome State Fault Refusal :=
  outside (onRx l fun r => if r.st = .waitHigh then rxHunt else r) s

/-- TRANSMIT_END (R174). -/
def execTransmitEnd (l : Fin 4) (s : State) : Host.Outcome State Fault Refusal := outside (txEnd l) s

/-! ## Status and subscription (R179) -/

/-- IDENTIFY (R179): answered in every start-up state. -/
def execIdentify (p : Pkt) (s : State) : Host.Outcome State Fault Refusal :=
  outside (dispatch p 0x01 0 true false fun x => answer p.link .ok (identifyContent p.link x) x) s

/-- GET_STATUS (R179): answered in every start-up state. -/
def execGetStatus (p : Pkt) (s : State) : Host.Outcome State Fault Refusal :=
  outside (dispatch p 0x02 0 true false fun x => answer p.link .ok (getStatusContent x) x) s

/-- LINK_STATUS (R179). -/
def execLinkStatus (p : Pkt) (s : State) : Host.Outcome State Fault Refusal := statusRequest p 0x03 linkStatusContent s

/-- A new subscription mask (R182). -/
def takeMask (mask : BitVec 16) (x : Link) : Link :=
  { x with seat := { x.seat with mask := mask }, flags := maskedFlags x.flags mask }

/-- SUBSCRIBE (R179). -/
def subscribe (l : Fin 4) (mask : Nat) (s : State) : State :=
  answer l .ok (be2 (maskOf mask).toNat) (onLinkAt l (takeMask (maskOf mask)) s)

/-- SUBSCRIBE (R179). -/
def execSubscribe (p : Pkt) (mask : Nat) (s : State) : Host.Outcome State Fault Refusal :=
  request p 0x04 0 (subscribe p.link mask) s

/-! ## Seats and access (R176, R177) -/

/-- The seat that SEAT_SET's fields name, where each lies in its range (R176). -/
def seatOf (r : RawSeat) : Option Seat :=
  match rateOf r.rate with
  | some rate =>
    if r.tier < 4 ∧ r.precedence < 4 ∧ r.quiet < 2 then some ⟨r.tier, r.precedence, rate, r.quiet == 1, maskOf r.mask⟩
    else none
  | none => none

/-- Would at least one seat hold tier SETUP with `seat` at link `k` (R176)? -/
def keepsSetup (k : Nat) (seat : Seat) (s : State) : Bool :=
  ((s.link.links.map (·.seat)).set k seat).any (·.tier == 3)

/-- SEAT_SET (R176). -/
def seatSet (l : Fin 4) (k : Nat) (raw : RawSeat) (s : State) : State :=
  match seatOf raw with
  | some seat =>
    if 4 ≤ k then refuse l .badArg s
    else if !keepsSetup k seat s then refuse l .lastSetup s
    else
      let own := k == l.val
      answerTagged (if own then .ownSeat else .plain) l .ok (byte k :: seatBytes seat)
        (onLinkAt (Fin.ofNat 4 k) (takeSeat own seat) s)
  | none => refuse l .badArg s

/-- SEAT_SET (R176). -/
def execSeatSet (p : Pkt) (k : Nat) (raw : RawSeat) (s : State) : Host.Outcome State Fault Refusal :=
  request p 0x36 19 (seatSet p.link k raw) s

/-- ACCESS_SET (R177). -/
def accessSet (l : Fin 4) (cls tier : Nat) (s : State) : State :=
  if 20 < cls ∨ 3 < tier ∨ cls = 0 ∨ cls = 19 ∨ cls = 20 then refuse l .badArg s
  else
    let s1 := onLink (fun c => { c with access := c.access.set cls tier }) s
    answer l .ok (s1.link.access.map byte) s1

/-- ACCESS_SET (R177). -/
def execAccessSet (p : Pkt) (cls tier : Nat) (s : State) : Host.Outcome State Fault Refusal :=
  request p 0x37 19 (accessSet p.link cls tier) s

/-! ## Panic (R184, R185) -/

/-- PANIC (R184): the flag and its link, the mute holder, the cut of the lanes, the show, the notice, OK. -/
def panic (l : Fin 4) (s : State) : State :=
  let s1 := onLink (fun c => { c with panic := true, panicLink := some l }) s
  let s2 := hand .cutAll (setPanicHolder s1)
  answer l .ok [] (raise .panic (onClk (fun c => disarmShow (holdShow c)) s2))

/-- PANIC (R184). -/
def execPanic (p : Pkt) (s : State) : Host.Outcome State Fault Refusal := request p 0x38 20 (panic p.link) s

/-- UNPANIC (R185): with panic active it clears the flag, records the link, releases the holder and raises the notice. -/
def unpanic (l : Fin 4) (s : State) : State :=
  let s1 := if s.link.panic then
      raise .panic (releasePanicHolder (onLink (fun c => { c with panic := false, panicLink := some l }) s))
    else s
  answer l .ok [flagByte s1.link.panic] s1

/-- UNPANIC (R185). -/
def execUnpanic (p : Pkt) (s : State) : Host.Outcome State Fault Refusal := request p 0x2D 14 (unpanic p.link) s

/-! ## Setup values and RESTART (R180) -/

/-- SETUP_SET master level (R180): clamped, held, handed as a target with 16 frames (R26). -/
def masterLevel (l : Fin 4) (level : Nat) (s : State) : State :=
  let v := min 32768 level
  answer l (okOr (decide (v ≠ level))) []
    (hand (.gainTarget .master v 16) (onLink (fun c => { c with masterLevel := v }) s))

/-- SETUP_SET master level (R180). -/
def execSetupSetMasterLevel (p : Pkt) (level : Nat) (s : State) : Host.Outcome State Fault Refusal :=
  request p 0x34 17 (masterLevel p.link level) s

/-- SETUP_SET start preset (R180): held for the next start-up. -/
def startPreset (l : Fin 4) (preset scene : Nat) (s : State) : State :=
  if preset < 128 ∧ scene < 4 then
    answer l .ok [] (onLink (fun c => { c with startPreset := preset, startScene := scene }) s)
  else refuse l .badArg s

/-- SETUP_SET start preset (R180). -/
def execSetupSetStartPreset (p : Pkt) (preset scene : Nat) (s : State) : Host.Outcome State Fault Refusal :=
  request p 0x34 17 (startPreset p.link preset scene) s

/-- RESTART (R180): the end of its reply enters start-up. -/
def execRestart (p : Pkt) (s : State) : Host.Outcome State Fault Refusal :=
  request p 0x35 18 (fun x => answerTagged .restart p.link .ok [] x) s

end Sys2Proof.Machine
end

