-- ==== Sys2Proof/Decode.lean ====
section
/-! DEFINITION. From bytes to commands. The table gives no row any bits, so `decodeTableWord` answers none; what the part
does decode are the packets of its links: the request payloads of 12.7 with the form check of R172, the receiver of R170
that yields them, and the encoder of a well-formed request. -/

namespace Sys2Proof

/-- The command a table word spells: no row of the table gives bits. -/
def decodeTableWord (_nbits _w : Nat) : Option Instr := none

open Sys2Proof.Machine

/-! ## Fields -/

/-- One byte at an offset of a payload; a payload of the wrong length reads 0 beyond its end and is malformed anyway. -/
def u8 (b : List Byte) (k : Nat) : Nat := (b.getD k 0).toNat
/-- Two bytes at an offset. -/
def u16 (b : List Byte) (k : Nat) : Nat := 256 * u8 b k + u8 b (k + 1)
/-- A signed field of two bytes. -/
def i16 (b : List Byte) (k : Nat) : Int := signed16 (u16 b k)
/-- A signed field of four bytes. -/
def i32 (b : List Byte) (k : Nat) : Int := (BitVec.ofNat 32 (65536 * u16 b k + u16 b (k + 2))).toInt
/-- A name field of `n` bytes. -/
def chars (b : List Byte) (k n : Nat) : List Nat := ((b.drop k).take n).map (·.toNat)
/-- A target. -/
def rawTarget (b : List Byte) (k : Nat) : RawTarget := ⟨u8 b k, u8 b (k + 1), u8 b (k + 2)⟩
/-- Two-byte fields, one after another. -/
def words16 : List Byte → List Nat
  | a :: b :: t => (256 * a.toNat + b.toNat) :: words16 t
  | _ => []
/-- A map entry of 22 bytes. -/
def rawEntry (b : List Byte) (k : Nat) : RawEntry := ⟨u8 b k, rawTarget b (k + 1), words16 ((b.drop (k + 4)).take 18)⟩

/-! ## Requests (12.2, 12.7) -/

/-- The envelope of a request whose layout has `n` bytes (R172 check 6). -/
def sized (l : Fin 4) (n : Nat) (b : List Byte) : Pkt := ⟨l, if b.length = n then .exact else .badLength⟩

/-- The envelope of a request whose item byte is none of those listed. -/
def unlisted (p : Pkt) : Pkt := if p.form = .exact then { p with form := .badItem } else p

/-- TUNER_SET (12.7). -/
def tunerSetOf (l : Fin 4) (b : List Byte) : Instr :=
  let p := sized l 6 b
  match u8 b 0 with
  | 0 => .tunerSetSource p (u8 b 1)
  | 1 => .tunerSetReference p (u16 b 1)
  | 2 => .tunerSetHysteresis p (u8 b 1)
  | 3 => .tunerSetReadingKind p (u8 b 1) (u8 b 2)
  | 4 => .tunerSetString p (u8 b 1) (u8 b 2) (u8 b 3) (i16 b 4)
  | _ => .tunerSetSource (unlisted p) 0

/-- SCENE_EDIT (12.7). -/
def sceneEditOf (l : Fin 4) (b : List Byte) : Instr :=
  let p := sized l 11 b
  let e := u8 b 0
  let k := u8 b 1
  match u8 b 2 with
  | 0 => .sceneEditSetOverride p e k (rawTarget b 3) (u16 b 6)
  | 1 => .sceneEditRemoveOverride p e k (rawTarget b 3)
  | 2 => .sceneEditSetLevel p e k (u16 b 3)
  | 3 => .sceneEditSetRamp p e k (u8 b 3)
  | 4 => .sceneEditSetName p e k (chars b 3 8)
  | 5 => .sceneEditAdd p e k
  | 6 => .sceneEditRemove p e k
  | _ => .sceneEditRemove (unlisted p) e k

/-- PRESET_EDIT (12.7). -/
def presetEditOf (l : Fin 4) (b : List Byte) : Instr :=
  let p := sized l 18 b
  let e := u8 b 0
  match u8 b 1 with
  | 0 => .presetEditName p e (chars b 2 16)
  | 1 => .presetEditFadeOut p e (u8 b 2)
  | 2 => .presetEditFadeIn p e (u8 b 2)
  | 3 => .presetEditTempo p e (u16 b 2)
  | _ => .presetEditTempo (unlisted p) e 0

/-- AMP_DATA (12.7): a run of 1 to 33 points, or a tone set. For a form byte that 12.7 does not list no length is given: any
payload that has the form byte is taken as of the right length, with an item that is not listed (log 19). -/
def ampDataOf (l : Fin 4) (b : List Byte) : Instr :=
  let e := u8 b 0
  let pos := u8 b 1
  match u8 b 2 with
  | 0 =>
    let n := (b.length - 4) / 2
    let p : Pkt := ⟨l, if b.length = 4 + 2 * n ∧ 1 ≤ n ∧ n ≤ 33 then .exact else .badLength⟩
    .ampDataShaperRun p e pos (u8 b 3) ((words16 (b.drop 4)).map signed16)
  | 1 => .ampDataToneSet (sized l 25 b) e pos (u8 b 3) (u8 b 4) (i32 b 5) (i32 b 9) (i32 b 13) (i32 b 17) (i32 b 21)
  | _ => .ampDataShaperRun ⟨l, if b.length < 3 then .badLength else .badItem⟩ e pos 0 []

/-- SAT_IMAGE (12.7). -/
def satImageOf (l : Fin 4) (b : List Byte) : Instr :=
  let p := sized l 5 b
  match u8 b 3 with
  | 0 => .satImageSet p (u8 b 0) (u8 b 1) (u8 b 2) (u8 b 4)
  | 1 => .satImageClear p (u8 b 0) (u8 b 1) (u8 b 2)
  | _ => .satImageClear (unlisted p) (u8 b 0) (u8 b 1) (u8 b 2)

/-- MAP_EDIT (12.7). -/
def mapEditOf (l : Fin 4) (b : List Byte) : Instr :=
  let p := sized l 25 b
  match u8 b 1 with
  | 0 => .mapEditAdd p (u8 b 0) (rawEntry b 3)
  | 1 => .mapEditReplace p (u8 b 0) (u8 b 2) (rawEntry b 3)
  | 2 => .mapEditRemove p (u8 b 0) (u8 b 2)
  | _ => .mapEditRemove (unlisted p) (u8 b 0) (u8 b 2)

/-- CHAIN_EDIT (12.7). -/
def chainEditOf (l : Fin 4) (b : List Byte) : Instr :=
  let p := sized l 7 b
  let e := u8 b 0
  match u8 b 1 with
  | 0 => .chainEditInsert p e (u8 b 2) (u8 b 4) (u8 b 5) (u8 b 6)
  | 1 => .chainEditRemove p e (u8 b 2)
  | 2 => .chainEditMove p e (u8 b 2) (u8 b 3)
  | 3 => .chainEditRetype p e (u8 b 2) (u8 b 4) (u8 b 5) (u8 b 6)
  | 4 => .chainEditSetClass p e (u8 b 2) (u8 b 5)
  | 5 => .chainEditSetPolicy p e (u8 b 2) (u8 b 6)
  | 6 => .chainEditRebuild p e
  | _ => .chainEditRebuild (unlisted p) e

/-- CLOCK_SETUP (12.7). -/
def clockSetupOf (l : Fin 4) (b : List Byte) : Instr :=
  let p := sized l 3 b
  match u8 b 0 with
  | 0 => .clockSetupDefaultTempo p (u16 b 1)
  | 1 => .clockSetupPulsesPerBeat p (u16 b 1)
  | 2 => .clockSetupBeatsPerBar p (u16 b 1)
  | _ => .clockSetupDefaultTempo (unlisted p) 0

/-- SAT_SETUP (12.7). -/
def satSetupOf (l : Fin 4) (b : List Byte) : Instr :=
  let p := sized l 3 b
  match u8 b 0 with
  | 0 => .satSetupHoldAuto p (u8 b 2)
  | 1 => .satSetupRefresh p (u8 b 2)
  | 2 => .satSetupHide p (u8 b 1) (u8 b 2)
  | _ => .satSetupHoldAuto (unlisted p) 0

/-- SETUP_SET (12.7). -/
def setupSetOf (l : Fin 4) (b : List Byte) : Instr :=
  let p := sized l 3 b
  match u8 b 0 with
  | 0 => .setupSetMasterLevel p (u16 b 1)
  | 1 => .setupSetStartPreset p (u8 b 1) (u8 b 2)
  | _ => .setupSetStartPreset (unlisted p) 0 0

/-- AREA_WRITE (12.7, R172): 1 to 120 words. -/
def areaWriteOf (l : Fin 4) (b : List Byte) : Instr :=
  let n := b.length / 2
  .areaWrite ⟨l, if b.length = 2 * n ∧ 1 ≤ n ∧ n ≤ 120 then .exact else .badLength⟩ ((words16 b).map signed16)

/-- The command of a received packet (12.2, 12.7): a kind that names no request is UNKNOWN_KIND. Fields that
an item or operation does not use are not read (log 53). -/
def requestOf (l : Fin 4) (kind : Byte) (b : List Byte) : Instr :=
  match kind.toNat with
  | 0x01 => .identify (sized l 0 b)
  | 0x02 => .getStatus (sized l 0 b)
  | 0x03 => .linkStatus (sized l 0 b)
  | 0x04 => .subscribe (sized l 2 b) (u16 b 0)
  | 0x05 => .areaStatus (sized l 0 b)
  | 0x06 => .mapStatus (sized l 0 b)
  | 0x07 => .bufferStatus (sized l 0 b)
  | 0x08 => .switchStatus (sized l 0 b)
  | 0x09 => .tunerStatus (sized l 0 b)
  | 0x0A => .showStatus (sized l 0 b)
  | 0x0B => .cueList (sized l 1 b) (u8 b 0)
  | 0x0C => .satStatus (sized l 1 b) (u8 b 0)
  | 0x0D => .readPreset (sized l 2 b) (u8 b 0) (u8 b 1)
  | 0x0E => .readBuffer (sized l 2 b) (u8 b 0) (u8 b 1)
  | 0x0F => .switch (sized l 3 b) (u8 b 0) (u8 b 1) (u8 b 2)
  | 0x10 => .tunerMode (sized l 1 b) (u8 b 0)
  | 0x11 => tunerSetOf l b
  | 0x12 => .tap (sized l 0 b)
  | 0x13 => .control (sized l 3 b) (u8 b 0) (u16 b 1)
  | 0x14 => .tempoSet (sized l 2 b) (u16 b 0)
  | 0x15 => .recall (sized l 2 b) (u8 b 0) (u8 b 1)
  | 0x16 => .dropStash (sized l 1 b) (u8 b 0)
  | 0x17 => .setParam (sized l 6 b) (u8 b 0) (u8 b 1) (u8 b 2) (u8 b 3) (u16 b 4)
  | 0x18 => sceneEditOf l b
  | 0x19 => presetEditOf l b
  | 0x1A => ampDataOf l b
  | 0x1B => satImageOf l b
  | 0x1C => mapEditOf l b
  | 0x1D => chainEditOf l b
  | 0x1E => .storePreset (sized l 2 b) (u8 b 0) (u8 b 1)
  | 0x1F => .erasePreset (sized l 1 b) (u8 b 0)
  | 0x20 => .showStart (sized l 0 b)
  | 0x21 => .showHold (sized l 0 b)
  | 0x22 => .showContinue (sized l 0 b)
  | 0x23 => .showStop (sized l 0 b)
  | 0x24 => .showLocate (sized l 4 b) (u16 b 0) (u8 b 2) (u8 b 3)
  | 0x25 => .cueInsert (sized l 9 b) (u16 b 0) (u8 b 2) (u8 b 3) (chars b 4 5)
  | 0x26 => .cueDelete (sized l 4 b) (u8 b 0) (u16 b 1) (u8 b 3)
  | 0x27 => .satWrite (sized l 3 b) (u8 b 0) (u8 b 1) (u8 b 2)
  | 0x28 => .satRead (sized l 2 b) (u8 b 0) (u8 b 1)
  | 0x29 => .satClear (sized l 1 b) (u8 b 0)
  | 0x2A => .tempoSource (sized l 1 b) (u8 b 0)
  | 0x2B => .tempoLock (sized l 1 b) (u8 b 0)
  | 0x2C => clockSetupOf l b
  | 0x2D => .unpanic (sized l 0 b)
  | 0x2E => satSetupOf l b
  | 0x2F => .areaJoin (sized l 2 b) (u16 b 0)
  | 0x30 => areaWriteOf l b
  | 0x31 => .areaUnjoin (sized l 0 b)
  | 0x32 => .imageSave (sized l 1 b) (u8 b 0)
  | 0x33 => .setupSave (sized l 0 b)
  | 0x34 => setupSetOf l b
  | 0x35 => .restart (sized l 0 b)
  | 0x36 => .seatSet (sized l 7 b) (u8 b 0) ⟨u8 b 1, u8 b 2, u8 b 3, u8 b 4, u16 b 5⟩
  | 0x37 => .accessSet (sized l 2 b) (u8 b 0) (u8 b 1)
  | 0x38 => .panic (sized l 0 b)
  | k => .unknownKind l k

/-! ## The receiver with its commands (R170) -/

/-- A complete packet, kind byte first, as the command it is. -/
def commandOf (l : Fin 4) (body : List Byte) : Option Instr :=
  match body with
  | k :: b => some (requestOf l k b)
  | [] => none

/-- Bytes of a link, one after another: the receiver after them and the commands completed on the way, in order. -/
def receive (l : Fin 4) : List Byte → Rx → Rx × List Instr
  | [], r => (r, [])
  | b :: t, r =>
    let x := rxByte b r
    let y := receive l t x.1
    (y.1, ((x.2.bind (commandOf l)).toList) ++ y.2)

/-! ## The encoder -/

/-- A payload padded with 00h to `n` bytes. -/
def padTo (n : Nat) (b : List Byte) : List Byte := b ++ List.replicate (n - b.length) 0

/-- The bytes of a target. -/
def targetField (t : RawTarget) : List Byte := [byte t.kind, byte t.a, byte t.b]

/-- The bytes of a map entry. -/
def entryField (e : RawEntry) : List Byte := byte e.source :: targetField e.target ++ e.points.flatMap be2

/-- Kind and payload of a request (12.2, 12.7); none for a command that is no packet. -/
def encodeRequest (i : Instr) : Option (Byte × List Byte) :=
  match i with
  | .identify _ => some (0x01, [])
  | .getStatus _ => some (0x02, [])
  | .linkStatus _ => some (0x03, [])
  | .subscribe _ m => some (0x04, be2 m)
  | .areaStatus _ => some (0x05, [])
  | .mapStatus _ => some (0x06, [])
  | .bufferStatus _ => some (0x07, [])
  | .switchStatus _ => some (0x08, [])
  | .tunerStatus _ => some (0x09, [])
  | .showStatus _ => some (0x0A, [])
  | .cueList _ k => some (0x0B, [byte k])
  | .satStatus _ i => some (0x0C, [byte i])
  | .readPreset _ n c => some (0x0D, [byte n, byte c])
  | .readBuffer _ n c => some (0x0E, [byte n, byte c])
  | .switch _ n k f => some (0x0F, [byte n, byte k, byte f])
  | .tunerMode _ m => some (0x10, [byte m])
  | .tunerSetSource _ v => some (0x11, padTo 6 [0, byte v])
  | .tunerSetReference _ v => some (0x11, padTo 6 (1 :: be2 v))
  | .tunerSetHysteresis _ v => some (0x11, padTo 6 [2, byte v])
  | .tunerSetReadingKind _ k n => some (0x11, padTo 6 [3, byte k, byte n])
  | .tunerSetString _ n k t o => some (0x11, [4, byte n, byte k, byte t] ++ be2i o)
  | .tap _ => some (0x12, [])
  | .control _ n v => some (0x13, byte n :: be2 v)
  | .tempoSet _ v => some (0x14, be2 v)
  | .recall _ n f => some (0x15, [byte n, byte f])
  | .dropStash _ n => some (0x16, [byte n])
  | .setParam _ e k n i v => some (0x17, [byte e, byte k, byte n, byte i] ++ be2 v)
  | .sceneEditSetOverride _ e k t v => some (0x18, padTo 11 ([byte e, byte k, 0] ++ targetField t ++ be2 v))
  | .sceneEditRemoveOverride _ e k t => some (0x18, padTo 11 ([byte e, byte k, 1] ++ targetField t))
  | .sceneEditSetLevel _ e k v => some (0x18, padTo 11 ([byte e, byte k, 2] ++ be2 v))
  | .sceneEditSetRamp _ e k v => some (0x18, padTo 11 [byte e, byte k, 3, byte v])
  | .sceneEditSetName _ e k n => some (0x18, [byte e, byte k, 4] ++ n.map byte)
  | .sceneEditAdd _ e k => some (0x18, padTo 11 [byte e, byte k, 5])
  | .sceneEditRemove _ e k => some (0x18, padTo 11 [byte e, byte k, 6])
  | .presetEditName _ e n => some (0x19, [byte e, 0] ++ n.map byte)
  | .presetEditFadeOut _ e v => some (0x19, padTo 18 [byte e, 1, byte v])
  | .presetEditFadeIn _ e v => some (0x19, padTo 18 [byte e, 2, byte v])
  | .presetEditTempo _ e v => some (0x19, padTo 18 ([byte e, 3] ++ be2 v))
  | .ampDataShaperRun _ e n k pts => some (0x1A, [byte e, byte n, 0, byte k] ++ pts.flatMap be2i)
  | .ampDataToneSet _ e n f k b0 b1 b2 a1 a2 =>
    some (0x1A, [byte e, byte n, 1, byte f, byte k] ++ be4i b0 ++ be4i b1 ++ be4i b2 ++ be4i a1 ++ be4i a2)
  | .satImageSet _ e i r v => some (0x1B, [byte e, byte i, byte r, 0, byte v])
  | .satImageClear _ e i r => some (0x1B, [byte e, byte i, byte r, 1, 0])
  | .mapEditAdd _ e x => some (0x1C, [byte e, 0, 0] ++ entryField x)
  | .mapEditReplace _ e k x => some (0x1C, [byte e, 1, byte k] ++ entryField x)
  | .mapEditRemove _ e k => some (0x1C, padTo 25 [byte e, 2, byte k])
  | .chainEditInsert _ e n t c q => some (0x1D, [byte e, 0, byte n, 0, byte t, byte c, byte q])
  | .chainEditRemove _ e n => some (0x1D, [byte e, 1, byte n, 0, 0, 0, 0])
  | .chainEditMove _ e a b => some (0x1D, [byte e, 2, byte a, byte b, 0, 0, 0])
  | .chainEditRetype _ e n t c q => some (0x1D, [byte e, 3, byte n, 0, byte t, byte c, byte q])
  | .chainEditSetClass _ e n c => some (0x1D, [byte e, 4, byte n, 0, 0, byte c, 0])
  | .chainEditSetPolicy _ e n q => some (0x1D, [byte e, 5, byte n, 0, 0, 0, byte q])
  | .chainEditRebuild _ e => some (0x1D, [byte e, 6, 0, 0, 0, 0, 0])
  | .storePreset _ n x => some (0x1E, [byte n, byte x])
  | .erasePreset _ n => some (0x1F, [byte n])
  | .showStart _ => some (0x20, [])
  | .showHold _ => some (0x21, [])
  | .showContinue _ => some (0x22, [])
  | .showStop _ => some (0x23, [])
  | .showLocate _ b k c => some (0x24, be2 b ++ [byte k, byte c])
  | .cueInsert _ b k a x => some (0x25, be2 b ++ [byte k, byte a] ++ x.map byte)
  | .cueDelete _ n b k => some (0x26, byte n :: be2 b ++ [byte k])
  | .satWrite _ i r v => some (0x27, [byte i, byte r, byte v])
  | .satRead _ i r => some (0x28, [byte i, byte r])
  | .satClear _ i => some (0x29, [byte i])
  | .tempoSource _ v => some (0x2A, [byte v])
  | .tempoLock _ v => some (0x2B, [byte v])
  | .clockSetupDefaultTempo _ v => some (0x2C, 0 :: be2 v)
  | .clockSetupPulsesPerBeat _ v => some (0x2C, 1 :: be2 v)
  | .clockSetupBeatsPerBar _ v => some (0x2C, 2 :: be2 v)
  | .unpanic _ => some (0x2D, [])
  | .satSetupHoldAuto _ v => some (0x2E, [0, 0, byte v])
  | .satSetupRefresh _ v => some (0x2E, [1, 0, byte v])
  | .satSetupHide _ i v => some (0x2E, [2, byte i, byte v])
  | .areaJoin _ n => some (0x2F, be2 n)
  | .areaWrite _ w => some (0x30, w.flatMap be2i)
  | .areaUnjoin _ => some (0x31, [])
  | .imageSave _ k => some (0x32, [byte k])
  | .setupSave _ => some (0x33, [])
  | .setupSetMasterLevel _ v => some (0x34, 0 :: be2 v)
  | .setupSetStartPreset _ n k => some (0x34, [1, byte n, byte k])
  | .restart _ => some (0x35, [])
  | .seatSet _ k x => some (0x36, [byte k, byte x.tier, byte x.precedence, byte x.rate, byte x.quiet] ++ be2 x.mask)
  | .accessSet _ c t => some (0x37, [byte c, byte t])
  | .panic _ => some (0x38, [])
  | .unknownKind _ k => some (byte k, [])
  | .powerOn => none
  | .resetAssert _ => none
  | .resetRelease => none
  | .restartEntry => none
  | .setupReadCompletion => none
  | .imageCopyCompletion => none
  | .startPresetReadCompletion => none
  | .frameBoundary _ => none
  | .gateClosed _ => none
  | .bypassWeightZero _ => none
  | .resolveFadeEnd _ => none
  | .crossFadeEnd _ => none
  | .tailTimerExpiry _ => none
  | .laneQuiet _ => none
  | .cutFadeEnd _ => none
  | .chainGainAtRest => none
  | .watchdogExpiry => none
  | .clockReturned => none
  | .fillCompletion _ => none
  | .lapseTimerExpiry _ => none
  | .lineJoin => none
  | .storeReadStart => none
  | .presetReadCompletion => none
  | .presetStoreCompletion => none
  | .presetEraseCompletion => none
  | .imageStoreCompletion => none
  | .setupStoreCompletion => none
  | .deferredLaneMove => none
  | .swap => none
  | .switchPromotion => none
  | .guardTimerExpiry => none
  | .noSignalTimerExpiry => none
  | .publicationTimerExpiry => none
  | .beatEvent => none
  | .tclkPulse => none
  | .pulseTimerExpiry => none
  | .satGrant => none
  | .writeAnswered => none
  | .statusWriteAnswered => none
  | .pollAnswered _ => none
  | .passThroughAnswered _ => none
  | .transactionFailed => none
  | .deferredHide _ => none
  | .pollTimerExpiry => none
  | .refreshTimerExpiry => none
  | .linkGapTimeout _ _ _ => none
  | .framingError _ _ => none
  | .checkByteFailure _ _ => none
  | .linkBreak _ => none
  | .breakLineHigh _ => none
  | .transmitEnd _ => none
  | .afsEdge _ => none
  | .powerLoss => none
  | .invalidLengthByte _ _ => none

/-- The envelope of a request; none for a command that is no request packet. -/
def pktOf (i : Instr) : Option Pkt :=
  match i with
  | .powerOn => none
  | .resetAssert _ => none
  | .resetRelease => none
  | .restartEntry => none
  | .setupReadCompletion => none
  | .imageCopyCompletion => none
  | .startPresetReadCompletion => none
  | .frameBoundary _ => none
  | .gateClosed _ => none
  | .bypassWeightZero _ => none
  | .resolveFadeEnd _ => none
  | .crossFadeEnd _ => none
  | .tailTimerExpiry _ => none
  | .laneQuiet _ => none
  | .cutFadeEnd _ => none
  | .chainGainAtRest => none
  | .watchdogExpiry => none
  | .clockReturned => none
  | .fillCompletion _ => none
  | .lapseTimerExpiry _ => none
  | .lineJoin => none
  | .storeReadStart => none
  | .presetReadCompletion => none
  | .presetStoreCompletion => none
  | .presetEraseCompletion => none
  | .imageStoreCompletion => none
  | .setupStoreCompletion => none
  | .deferredLaneMove => none
  | .swap => none
  | .switchPromotion => none
  | .guardTimerExpiry => none
  | .noSignalTimerExpiry => none
  | .publicationTimerExpiry => none
  | .beatEvent => none
  | .tclkPulse => none
  | .pulseTimerExpiry => none
  | .satGrant => none
  | .writeAnswered => none
  | .statusWriteAnswered => none
  | .pollAnswered _ => none
  | .passThroughAnswered _ => none
  | .transactionFailed => none
  | .deferredHide _ => none
  | .pollTimerExpiry => none
  | .refreshTimerExpiry => none
  | .linkGapTimeout _ _ _ => none
  | .framingError _ _ => none
  | .checkByteFailure _ _ => none
  | .unknownKind _ _ => none
  | .linkBreak _ => none
  | .breakLineHigh _ => none
  | .transmitEnd _ => none
  | .identify p => some p
  | .getStatus p => some p
  | .linkStatus p => some p
  | .subscribe p _ => some p
  | .areaStatus p => some p
  | .mapStatus p => some p
  | .bufferStatus p => some p
  | .switchStatus p => some p
  | .tunerStatus p => some p
  | .showStatus p => some p
  | .cueList p _ => some p
  | .satStatus p _ => some p
  | .readPreset p _ _ => some p
  | .readBuffer p _ _ => some p
  | .switch p _ _ _ => some p
  | .recall p _ _ => some p
  | .dropStash p _ => some p
  | .tunerMode p _ => some p
  | .tunerSetSource p _ => some p
  | .tunerSetReference p _ => some p
  | .tunerSetHysteresis p _ => some p
  | .tunerSetReadingKind p _ _ => some p
  | .tunerSetString p _ _ _ _ => some p
  | .tap p => some p
  | .control p _ _ => some p
  | .tempoSet p _ => some p
  | .setParam p _ _ _ _ _ => some p
  | .sceneEditSetOverride p _ _ _ _ => some p
  | .sceneEditRemoveOverride p _ _ _ => some p
  | .sceneEditSetLevel p _ _ _ => some p
  | .sceneEditSetRamp p _ _ _ => some p
  | .sceneEditSetName p _ _ _ => some p
  | .sceneEditAdd p _ _ => some p
  | .sceneEditRemove p _ _ => some p
  | .presetEditName p _ _ => some p
  | .presetEditFadeOut p _ _ => some p
  | .presetEditFadeIn p _ _ => some p
  | .presetEditTempo p _ _ => some p
  | .ampDataShaperRun p _ _ _ _ => some p
  | .ampDataToneSet p _ _ _ _ _ _ _ _ _ => some p
  | .satImageSet p _ _ _ _ => some p
  | .satImageClear p _ _ _ => some p
  | .mapEditAdd p _ _ => some p
  | .mapEditReplace p _ _ _ => some p
  | .mapEditRemove p _ _ => some p
  | .chainEditInsert p _ _ _ _ _ => some p
  | .chainEditRemove p _ _ => some p
  | .chainEditMove p _ _ _ => some p
  | .chainEditRetype p _ _ _ _ _ => some p
  | .chainEditSetClass p _ _ _ => some p
  | .chainEditSetPolicy p _ _ _ => some p
  | .chainEditRebuild p _ => some p
  | .storePreset p _ _ => some p
  | .erasePreset p _ => some p
  | .showStart p => some p
  | .showHold p => some p
  | .showContinue p => some p
  | .showStop p => some p
  | .showLocate p _ _ _ => some p
  | .cueInsert p _ _ _ _ => some p
  | .cueDelete p _ _ _ => some p
  | .satWrite p _ _ _ => some p
  | .satRead p _ _ => some p
  | .satClear p _ => some p
  | .tempoSource p _ => some p
  | .tempoLock p _ => some p
  | .clockSetupDefaultTempo p _ => some p
  | .clockSetupPulsesPerBeat p _ => some p
  | .clockSetupBeatsPerBar p _ => some p
  | .panic p => some p
  | .unpanic p => some p
  | .satSetupHoldAuto p _ => some p
  | .satSetupRefresh p _ => some p
  | .satSetupHide p _ _ => some p
  | .areaJoin p _ => some p
  | .areaWrite p _ => some p
  | .areaUnjoin p => some p
  | .imageSave p _ => some p
  | .setupSave p => some p
  | .setupSetMasterLevel p _ => some p
  | .setupSetStartPreset p _ _ => some p
  | .restart p => some p
  | .seatSet p _ _ => some p
  | .accessSet p _ _ => some p
  | .afsEdge _ => none
  | .powerLoss => none
  | .invalidLengthByte _ _ => none

/-- The bytes of a request on its link (12.1). -/
def wireOf (i : Instr) : Option (List Byte) := (encodeRequest i).map fun x => wireBytes ⟨x.1, x.2⟩

end Sys2Proof
end

