-- ==== Sys2Proof/Machine/AreaRows.lean ====
section
/-! DEFINITION. The rows of the Area Manager (chapter 3). -/

namespace Sys2Proof.Machine

/-- The fill of an area ends (R44): READY, and the line join is complete with its last area; the first load then hands its
rebuild (R191). -/
def fillEnd (a : Nat) (s : State) : State :=
  if isFilling s.area a then
    let s1 := onArea (fillArea a) s
    let s2 := onSw (fun w => { w with inflight := w.inflight.map fun f =>
      if f.join = .filling ∧ joinReady s1.area f.joined then { f with join := .complete } else f }) s1
    if s2.startup.phase = .firstLoad ∧ joinReady s2.area s2.startup.joined then finishFirstLoad s2 else s2
  else s

/-- FILL_COMPLETION (R44). -/
def execFillCompletion (area : Fin 32) (s : State) : Host.Outcome State Fault Refusal := outside (fillEnd area.val) s

/-- The lapse timer of a link's upload expires (R53). -/
def lapse (l : Fin 4) (s : State) : State :=
  match uploadArea s.area l with
  | some a =>
    match s.area.areas[a]? with
    | some (.loading _ _ _ false true) => raiseOn .area l { s with area := endUpload l .lapsed s.area }
    | _ => s
  | none => s

/-- LAPSE_TIMER_EXPIRY (R53). -/
def execLapseTimerExpiry (l : Fin 4) (s : State) : Host.Outcome State Fault Refusal := outside (lapse l) s

/-- LINE_JOIN (R43, R104): a line join that waits is asked again. -/
def execLineJoin (s : State) : Host.Outcome State Fault Refusal := inside lineJoinStep s

/-- AREA_STATUS (R55). -/
def execAreaStatus (p : Pkt) (s : State) : Host.Outcome State Fault Refusal := statusRequest p 0x05 areaStatusContent s

/-- AREA_JOIN (R49). -/
def areaJoin (l : Fin 4) (taps : Nat) (s : State) : State :=
  if taps ≠ 256 ∧ taps ≠ 512 ∧ taps ≠ 1024 then refuse l .badArg s
  else if (uploadArea s.area l).isSome then refuse l .full s
  else if s.sw.reservation then refuse l .noArea s
  else
    match firstIdx isFree s.area.areas with
    | some a =>
      answer l .ok (byte a :: be2 (2 * taps)) (onArea (fun m => { m with
        areas := m.areas.set a (.loading l taps (2 * taps) false true)
        uploads := modAt m.uploads l.val fun u => { u with area := some a } }) s)
    | none => refuse l .noArea s

/-- AREA_JOIN (R49). -/
def execAreaJoin (p : Pkt) (taps : Nat) (s : State) : Host.Outcome State Fault Refusal :=
  request p 0x2F 16 (areaJoin p.link taps) s

/-- AREA_WRITE (R50): the accepted words are stored as word × 65536 from the area's next index. -/
def areaWrite (l : Fin 4) (words : List Int) (s : State) : State :=
  if words = [] ∨ 120 < words.length then refuse l .badArg s
  else
    match uploadArea s.area l with
    | some a =>
      match s.area.areas[a]? with
      | some (.loading k taps remaining false _) =>
        let n := min words.length remaining
        let w := (words.take n).map fun x => BitVec.ofInt 32 (x * 65536)
        let st := okOr (decide (n < words.length))
        answer l st (byte n :: be2 (remaining - n)) (onArea (fun m => { m with
          dram := dramWriteAll m.dram (areaAddr a (taps * 2 - remaining)) w
          areas := m.areas.set a (.loading k taps (remaining - n) false true) }) s)
      | _ => refuse l .badArg s
    | none => refuse l .badArg s

/-- AREA_WRITE (R50). -/
def execAreaWrite (p : Pkt) (words : List Int) (s : State) : Host.Outcome State Fault Refusal :=
  request p 0x30 16 (areaWrite p.link words) s

/-- AREA_UNJOIN (R51). -/
def areaUnjoin (l : Fin 4) (s : State) : State :=
  match uploadArea s.area l with
  | some a =>
    match s.area.areas[a]? with
    | some (.loading _ _ _ false _) => answer l .ok [byte a] { s with area := endUpload l .unjoined s.area }
    | _ => refuse l .badArg s
  | none => refuse l .badArg s

/-- AREA_UNJOIN (R51). -/
def execAreaUnjoin (p : Pkt) (s : State) : Host.Outcome State Fault Refusal := request p 0x31 16 (areaUnjoin p.link) s

/-- IMAGE_SAVE (R52): the checks in order, then the image store with the area's words. -/
def imageSave (l : Fin 4) (slot : Nat) (s : State) : State :=
  if 16 ≤ slot then refuse l .badArg s
  else
    match uploadArea s.area l with
    | some a =>
      match s.area.areas[a]? with
      | some (.loading k taps remaining false _) =>
        if remaining ≠ 0 then refuse l .badArg s
        else if storeBusy s then refuse l .storeBusy s
        else
          onStore (fun c => { c with op := some (.imageStore (some l) slot a taps (dramBlock s.area.dram (areaAddr a 0) (2 * taps))) })
            (onArea (fun m => { m with areas := m.areas.set a (.loading k taps 0 true false) }) s)
      | _ => refuse l .badArg s
    | none => refuse l .badArg s

/-- IMAGE_SAVE (R52). -/
def execImageSave (p : Pkt) (slot : Nat) (s : State) : Host.Outcome State Fault Refusal :=
  request p 0x32 16 (imageSave p.link slot) s

end Sys2Proof.Machine
end

