-- ==== Sys2Proof/Machine/EditRows.lean ====
section
/-! DEFINITION. The rows of the Scene Controller: status, CONTROL, and the edits of the buffer other than chain edits
(chapters 4 and 5). -/

namespace Sys2Proof.Machine

/-! ## Status and CONTROL -/

/-- MAP_STATUS (R68). -/
def execMapStatus (p : Pkt) (s : State) : Host.Outcome State Fault Refusal := statusRequest p 0x06 mapStatusContent s

/-- BUFFER_STATUS (R85). -/
def execBufferStatus (p : Pkt) (s : State) : Host.Outcome State Fault Refusal :=
  statusRequest p 0x07 bufferStatusContent s

/-- CONTROL at the Scene Controller (R57): a new held value evaluates the entries on its source. -/
def control (source value : Nat) (s : State) : State :=
  let v := min 1023 value
  if 15 < source ∨ s.scene.controls.getD source 0 = v then s
  else driveSource source (onScene (fun c => { c with controls := c.controls.set source v }) s)

/-- CONTROL (R57, R181). -/
def execControl (p : Pkt) (source value : Nat) (s : State) : Host.Outcome State Fault Refusal :=
  fireAndForget p (control source value) s

/-! ## Shared parts of the edits (R80) -/

/-- The body of an edit reads the buffer's record; a buffer without record fields has no chain and no scene, so whatever
the edit names lies outside (BAD_ARG). -/
def withRecord (l : Fin 4) (f : Record → State → State) (s : State) : State :=
  match s.scene.buffer.record with
  | some r => f r s
  | none => refuse l .badArg s

/-- Is the position of a target DETACHED (R80)? -/
def targetDetached (s : State) (t : Target) : Bool := (targetPos t).any (detachedAt s)

/-- Set the override of a scene for a target: a new value, or a new entry at the end (R82). -/
def setOverride (t : Target) (v : Int) (c : Scene) : Scene :=
  { c with overrides :=
      if c.overrides.any (·.target == t) then c.overrides.map fun o => if o.target = t then { o with value := v } else o
      else c.overrides ++ [⟨t, v⟩] }

/-- Store a base value of a slot (R81). -/
def setBase (t : Target) (v : Int) (s : State) : State :=
  match t with
  | .param p i => onSlotAt p (fun x => { x with params := x.params.set i v }) s
  | .bypass p => onSlotAt p (fun x => { x with bypass := v == 1 }) s
  | .level => s
  | .sat _ _ => s

/-! ## SET_PARAM (R81) -/

/-- The target and the value of a SET_PARAM, with whether the value was clamped; none is BAD_ARG. -/
def setParamArgs (r : Record) (kind pos index value : Nat) : Option (Target × Int × Bool) :=
  if kind = 0 then
    (targetRange r.chain (.param pos index)).map fun range =>
      let raw := fieldValue range value
      let v := clampInt range.1 range.2 raw
      (.param pos index, v, decide (v ≠ raw))
  else if kind = 1 ∧ pos < r.chain.length ∧ value ≤ 1 then some (.bypass pos, (value : Int), false)
  else none

/-- Is a target parameter 0 of a CAB (R10, R81)? -/
def isCabImage (r : Record) (t : Target) : Bool :=
  match t with
  | .param p 0 => (r.chain[p]?).any (·.stype == .cab)
  | _ => false

/-- A value stored by a taken SET_PARAM and handed on (R81). -/
def storeParam (r : Record) (t : Target) (v : Int) (s : State) : State :=
  let k := s.scene.buffer.scene
  let s1 := takenEdit (if isOverridden s t then onSceneAt k (setOverride t v) s else setBase t v s)
  if isCabImage r t && !isDriven s t then handAlways t s1 else handChanged s t s1

/-- The body of SET_PARAM (R81). -/
def setParam (l : Fin 4) (kind pos index value : Nat) (r : Record) (s : State) : State :=
  match setParamArgs r kind pos index value with
  | some (t, v, clamped) =>
    if targetDetached s t then refuse l .detached s else answer l (okOr clamped) [] (storeParam r t v s)
  | none => refuse l .badArg s

/-- SET_PARAM (R81). -/
def execSetParam (p : Pkt) (expected kind pos index value : Nat) (s : State) : Host.Outcome State Fault Refusal :=
  edit p 0x17 8 expected (withRecord p.link (setParam p.link kind pos index value)) s

/-! ## SCENE_EDIT (R82) -/

/-- A SCENE_EDIT of an existing scene. -/
def sceneEdit (p : Pkt) (expected scene : Nat) (body : Record → State → State) (s : State) :
    Host.Outcome State Fault Refusal :=
  edit p 0x18 8 expected (withRecord p.link fun r x =>
    if r.scenes.length ≤ scene then refuse p.link .badArg x else body r x) s

/-- A taken change of one scene: the fields, the edit, and for the current scene the target it affects (R82). -/
def takeScene (scene : Nat) (f : Scene → Scene) (t : Option Target) (s : State) : State :=
  let s1 := takenEdit (onSceneAt scene f s)
  match t with
  | some t => if scene = s.scene.buffer.scene then handChanged s t s1 else s1
  | none => s1

/-- The target of an override (R69, R82): a parameter, a bypass or a satellite register, with its range. -/
def overrideTarget (r : Record) (raw : RawTarget) : Option (Target × Int × Int) :=
  match targetOf raw with
  | some .level => none
  | some t => (targetRange r.chain t).map fun g => (t, g)
  | none => none

/-- The body of SET_OVERRIDE (R82). -/
def sceneSetOverride (l : Fin 4) (scene : Nat) (raw : RawTarget) (value : Nat) (r : Record) (s : State) : State :=
  match overrideTarget r raw with
  | some (t, range) =>
    let w := fieldValue range value
    let v := clampInt range.1 range.2 w
    let c := sceneOf r scene
    if targetDetached s t then refuse l .detached s
    else if c.overrides.any (·.target == t) = false ∧ 32 ≤ c.overrides.length then refuse l .full s
    else answer l (okOr (decide (v ≠ w))) [] (takeScene scene (setOverride t v) (some t) s)
  | none => refuse l .badArg s

/-- SCENE_EDIT SET_OVERRIDE (R82). -/
def execSceneEditSetOverride (p : Pkt) (expected scene : Nat) (raw : RawTarget) (value : Nat) (s : State) :
    Host.Outcome State Fault Refusal :=
  sceneEdit p expected scene (sceneSetOverride p.link scene raw value) s

/-- The body of REMOVE_OVERRIDE (R82). -/
def sceneRemoveOverride (l : Fin 4) (scene : Nat) (raw : RawTarget) (r : Record) (s : State) : State :=
  match targetOf raw with
  | some t =>
    if (overrideOf (sceneOf r scene) t).isNone then refuse l .badArg s
    else if targetDetached s t then refuse l .detached s
    else answer l .ok [] (takeScene scene
      (fun c => { c with overrides := c.overrides.filter fun o => o.target != t }) (some t) s)
  | none => refuse l .badArg s

/-- SCENE_EDIT REMOVE_OVERRIDE (R82). -/
def execSceneEditRemoveOverride (p : Pkt) (expected scene : Nat) (raw : RawTarget) (s : State) :
    Host.Outcome State Fault Refusal :=
  sceneEdit p expected scene (sceneRemoveOverride p.link scene raw) s

/-- The body of SET_LEVEL (R82). -/
def sceneSetLevel (l : Fin 4) (scene level : Nat) (s : State) : State :=
  let v := min 32768 level
  answer l (okOr (decide (v ≠ level))) [] (takeScene scene (fun c => { c with level := v }) (some .level) s)

/-- SCENE_EDIT SET_LEVEL (R82). -/
def execSceneEditSetLevel (p : Pkt) (expected scene level : Nat) (s : State) : Host.Outcome State Fault Refusal :=
  sceneEdit p expected scene (fun _ => sceneSetLevel p.link scene level) s

/-- The body of SET_RAMP (R82). -/
def sceneSetRamp (l : Fin 4) (scene length : Nat) (s : State) : State :=
  let v := clampNat 1 128 length
  answer l (okOr (decide (v ≠ length))) [] (takeScene scene (fun c => { c with ramp := v }) none s)

/-- SCENE_EDIT SET_RAMP (R82). -/
def execSceneEditSetRamp (p : Pkt) (expected scene length : Nat) (s : State) : Host.Outcome State Fault Refusal :=
  sceneEdit p expected scene (fun _ => sceneSetRamp p.link scene length) s

/-- The body of SET_NAME (R82). -/
def sceneSetName (l : Fin 4) (scene : Nat) (name : List Nat) (s : State) : State :=
  if nameLegal 8 name then answer l .ok [] (takeScene scene (fun c => { c with name := nameOf name }) none s)
  else refuse l .badArg s

/-- SCENE_EDIT SET_NAME (R82). -/
def execSceneEditSetName (p : Pkt) (expected scene : Nat) (name : List Nat) (s : State) :
    Host.Outcome State Fault Refusal :=
  sceneEdit p expected scene (fun _ => sceneSetName p.link scene name) s

/-- The body of ADD (R82): a full preset, then a scene to copy that does not exist. -/
def sceneAdd (l : Fin 4) (scene : Nat) (r : Record) (s : State) : State :=
  if 4 ≤ r.scenes.length then refuse l .full s
  else if r.scenes.length ≤ scene then refuse l .badArg s
  else answer l .ok [] (takenEdit (onRecord (fun x => { x with scenes := x.scenes ++ [sceneOf r scene] }) s))

/-- SCENE_EDIT ADD (R82). -/
def execSceneEditAdd (p : Pkt) (expected scene : Nat) (s : State) : Host.Outcome State Fault Refusal :=
  edit p 0x18 8 expected (withRecord p.link (sceneAdd p.link scene)) s

/-- The body of REMOVE (R82): the current index follows its scene. -/
def sceneRemove (l : Fin 4) (scene : Nat) (r : Record) (s : State) : State :=
  let cur := s.scene.buffer.scene
  if r.scenes.length ≤ 1 ∨ scene = cur then refuse l .badArg s
  else answer l .ok [] (takenEdit (onBuffer (fun b => { b with
    scene := if scene < cur then cur - 1 else cur
    record := b.record.map fun x => { x with scenes := x.scenes.eraseIdx scene } }) s))

/-- SCENE_EDIT REMOVE (R82). -/
def execSceneEditRemove (p : Pkt) (expected scene : Nat) (s : State) : Host.Outcome State Fault Refusal :=
  sceneEdit p expected scene (sceneRemove p.link scene) s

/-! ## PRESET_EDIT (R83) -/

/-- A taken change of a preset field. -/
def takeField (l : Fin 4) (clamped : Bool) (f : Record → Record) (s : State) : State :=
  answer l (okOr clamped) [] (takenEdit (onRecord f s))

/-- The body of the name field (R83). -/
def presetName (l : Fin 4) (name : List Nat) (s : State) : State :=
  if nameLegal 16 name then takeField l false (fun r => { r with name := nameOf name }) s else refuse l .badArg s

/-- PRESET_EDIT name (R83). -/
def execPresetEditName (p : Pkt) (expected : Nat) (name : List Nat) (s : State) : Host.Outcome State Fault Refusal :=
  edit p 0x19 8 expected (presetName p.link name) s

/-- The body of the fade-out field (R83). -/
def presetFadeOut (l : Fin 4) (length : Nat) (s : State) : State :=
  let v := clampNat 1 64 length
  takeField l (decide (v ≠ length)) (fun r => { r with fadeOut := v }) s

/-- PRESET_EDIT fade-out (R83). -/
def execPresetEditFadeOut (p : Pkt) (expected length : Nat) (s : State) : Host.Outcome State Fault Refusal :=
  edit p 0x19 8 expected (presetFadeOut p.link length) s

/-- The body of the fade-in field (R83). -/
def presetFadeIn (l : Fin 4) (length : Nat) (s : State) : State :=
  let v := clampNat 1 64 length
  takeField l (decide (v ≠ length)) (fun r => { r with fadeIn := v }) s

/-- PRESET_EDIT fade-in (R83). -/
def execPresetEditFadeIn (p : Pkt) (expected length : Nat) (s : State) : Host.Outcome State Fault Refusal :=
  edit p 0x19 8 expected (presetFadeIn p.link length) s

/-- The body of the tempo field (R83): 0 is absent. -/
def presetTempoField (l : Fin 4) (tempo : Nat) (s : State) : State :=
  let v := clampNat 300 3000 tempo
  if tempo = 0 then takeField l false (fun r => { r with tempo := none }) s
  else takeField l (decide (v ≠ tempo)) (fun r => { r with tempo := some v }) s

/-- PRESET_EDIT tempo (R83). -/
def execPresetEditTempo (p : Pkt) (expected tempo : Nat) (s : State) : Host.Outcome State Fault Refusal :=
  edit p 0x19 8 expected (presetTempoField p.link tempo) s

/-! ## AMP_DATA (R83) -/

/-- Does a position of a record hold an AMP? -/
def isAmp (r : Record) (pos : Nat) : Bool := (r.chain[pos]?).any (·.stype == .amp)

/-- A number as the two's complement value of a field of `w` bits (12). -/
def wrapInt (w : Nat) (x : Int) : Int := (BitVec.ofInt w x).toInt

/-- A taken change of slot data: nothing live changes (R29, R83). -/
def takeSlotData (l : Fin 4) (pos : Nat) (f : SlotRec → SlotRec) (s : State) : State :=
  if detachedAt s pos then refuse l .detached s else answer l .ok [] (takenEdit (onSlotAt pos f s))

/-- A run of points written into a table. -/
def setRun (start : Nat) (pts table : List Int) : List Int := table.take start ++ pts ++ table.drop (start + pts.length)

/-- The body of a shaper run (R83). -/
def shaperRun (l : Fin 4) (pos start : Nat) (points : List Int) (r : Record) (s : State) : State :=
  if isAmp r pos ∧ 1 ≤ points.length ∧ start + points.length ≤ 33 then
    takeSlotData l pos (fun x => { x with table := setRun start (points.map (wrapInt 16)) x.table }) s
  else refuse l .badArg s

/-- AMP_DATA shaper run (R83). -/
def execAmpDataShaperRun (p : Pkt) (expected pos start : Nat) (points : List Int) (s : State) :
    Host.Outcome State Fault Refusal :=
  edit p 0x1A 8 expected (withRecord p.link (shaperRun p.link pos start points)) s

/-- The body of a tone set (R83): set `knobSet` of filter `filter`, filter-major. A filter or knob set that is not there is
refused BAD_ARG (log 30). -/
def toneSet (l : Fin 4) (pos filter knobSet : Nat) (b : Biquad) (r : Record) (s : State) : State :=
  if isAmp r pos ∧ filter < 3 ∧ knobSet < 5 then
    takeSlotData l pos (fun x => { x with sets := x.sets.set (5 * filter + knobSet) b }) s
  else refuse l .badArg s

/-- AMP_DATA tone set (R83). -/
def execAmpDataToneSet (p : Pkt) (expected pos filter knobSet : Nat) (b0 b1 b2 a1 a2 : Int) (s : State) :
    Host.Outcome State Fault Refusal :=
  edit p 0x1A 8 expected (withRecord p.link (toneSet p.link pos filter knobSet
    ⟨wrapInt 32 b0, wrapInt 32 b1, wrapInt 32 b2, wrapInt 32 a1, wrapInt 32 a2⟩)) s

/-! ## SAT_IMAGE (R84) -/

/-- The body of SET (R84). -/
def imageSet (l : Fin 4) (sat reg value : Nat) (s : State) : State :=
  let v := min 255 value
  if sat < 8 ∧ reg < 16 then
    answer l (okOr (decide (v ≠ value))) [] (handChanged s (.sat sat reg)
      (takenEdit (onRecord (fun r => { r with images := setImage sat reg v r.images }) s)))
  else refuse l .badArg s

/-- SAT_IMAGE SET (R84). -/
def execSatImageSet (p : Pkt) (expected sat reg value : Nat) (s : State) : Host.Outcome State Fault Refusal :=
  edit p 0x1B 8 expected (imageSet p.link sat reg value) s

/-- The body of CLEAR (R84). -/
def imageClear (l : Fin 4) (sat reg : Nat) (r : Record) (s : State) : State :=
  if sat < 8 ∧ reg < 16 ∧ (imageValue r sat reg).isSome then
    answer l .ok [] (handChanged s (.sat sat reg)
      (takenEdit (onRecord (fun r => { r with images := clearImage sat reg r.images }) s)))
  else refuse l .badArg s

/-- SAT_IMAGE CLEAR (R84). -/
def execSatImageClear (p : Pkt) (expected sat reg : Nat) (s : State) : Host.Outcome State Fault Refusal :=
  edit p 0x1B 8 expected (withRecord p.link (imageClear p.link sat reg)) s

/-! ## MAP_EDIT (R67) -/

/-- The entry that the fields name, its points clamped to the target's range, with whether one was clamped; none is
BAD_ARG (R67). -/
def entryOf (r : Record) (e : RawEntry) : Option (MapEntry × Bool) :=
  match targetOf e.target with
  | some t =>
    match targetRange r.chain t with
    | some range =>
      if e.source ≤ 15 ∧ e.points.length = 9 then
        let raw := e.points.map (fieldValue range)
        let pts := raw.map (clampInt range.1 range.2)
        some (⟨e.source, t, pts⟩, decide (pts ≠ raw))
      else none
    | none => none
  | none => none

/-- The later checks of a new entry (R67), with the entries it must not meet: DETACHED, OCCUPIED. -/
def entryRefusal (s : State) (others : List MapEntry) (t : Target) : Option Status :=
  if targetDetached s t then some .detached else if others.any (·.target == t) then some .occupied else none

/-- The entries and their driven records after a change of the map. -/
def setMap (map : List MapEntry) (driven : List Int) (s : State) : State :=
  takenEdit (onScene (fun c => { c with driven := driven }) (onRecord (fun r => { r with map := map }) s))

/-- A taken ADD (R67): the entry drives its target at once. -/
def addEntry (r : Record) (e : MapEntry) (s : State) : State :=
  handAlways e.target (setMap (r.map ++ [e]) (s.scene.driven ++ [evalEntry s.scene.controls r.chain e]) s)

/-- The body of ADD (R67). -/
def mapAdd (l : Fin 4) (raw : RawEntry) (r : Record) (s : State) : State :=
  if 16 ≤ r.map.length then refuse l .full s
  else
    match entryOf r raw with
    | some (e, clamped) =>
      match entryRefusal s r.map e.target with
      | some st => refuse l st s
      | none => answer l (okOr clamped) [] (addEntry r e s)
    | none => refuse l .badArg s

/-- MAP_EDIT ADD (R67). -/
def execMapEditAdd (p : Pkt) (expected : Nat) (entry : RawEntry) (s : State) : Host.Outcome State Fault Refusal :=
  edit p 0x1C 8 expected (withRecord p.link (mapAdd p.link entry)) s

/-- A taken REPLACE (R67): with the same target R61 decides, otherwise the old target is released and the new one
driven. -/
def replaceEntry (k : Nat) (old : Target) (r : Record) (e : MapEntry) (s : State) : State :=
  if old = e.target then driveEntry k (setMap (r.map.set k e) s.scene.driven s)
  else
    let v := evalEntry s.scene.controls r.chain e
    handAlways e.target (handChanged s old (setMap (r.map.set k e) (s.scene.driven.set k v) s))

/-- The body of REPLACE (R67). -/
def mapReplace (l : Fin 4) (number : Nat) (raw : RawEntry) (r : Record) (s : State) : State :=
  match r.map[number]?, entryOf r raw with
  | some old, some (e, clamped) =>
    match entryRefusal s (r.map.eraseIdx number) e.target with
    | some st => refuse l st s
    | none => answer l (okOr clamped) [] (replaceEntry number old.target r e s)
  | _, _ => refuse l .badArg s

/-- MAP_EDIT REPLACE (R67). -/
def execMapEditReplace (p : Pkt) (expected number : Nat) (entry : RawEntry) (s : State) :
    Host.Outcome State Fault Refusal :=
  edit p 0x1C 8 expected (withRecord p.link (mapReplace p.link number entry)) s

/-- The body of REMOVE (R67): the record is discarded, the target resolved again. -/
def mapRemove (l : Fin 4) (number : Nat) (r : Record) (s : State) : State :=
  match r.map[number]? with
  | some e =>
    answer l .ok [] (handChanged s e.target (setMap (r.map.eraseIdx number) (s.scene.driven.eraseIdx number) s))
  | none => refuse l .badArg s

/-- MAP_EDIT REMOVE (R67). -/
def execMapEditRemove (p : Pkt) (expected number : Nat) (s : State) : Host.Outcome State Fault Refusal :=
  edit p 0x1C 8 expected (withRecord p.link (mapRemove p.link number)) s

end Sys2Proof.Machine
end

