-- ==== Sys2Proof/Machine/ChainRows.lean ====
section
/-! DEFINITION. The rows of CHAIN_EDIT (R86 to R88) with the chain admission test (R19). -/

namespace Sys2Proof.Machine

/-! ## Admission (R19) -/

/-- Areas in IMAGE or LOADING state. -/
def heldImages (m : AreaMan) : Nat :=
  (m.areas.filter fun a => match a with | .image .. => true | .loading .. => true | _ => false).length

/-- The refusal of the chain admission test, none where the chain passes (R19). -/
def admissionRefusal (m : AreaMan) (chain : List SlotRec) : Option Status :=
  if chain.length < 1 ∨ 12 < chain.length then some .badArg
  else if chain.any (fun x => x.policy == .keep && !holdsLine x.stype) then some .badArg
  else if 1 < (chain.filter (·.stype == .loop)).length then some .badArg
  else if Config.budget < chainCost chain then some .overBudget
  else if 32 - heldImages m < chainNeed chain then some .noArea
  else none

/-! ## What an edit makes of the buffer (R86, R87) -/

/-- The result of a chain edit: the record, the driven records, the position map, whether a value was clamped, and the
targets whose values the clamping may have changed. -/
structure ChainPlan where
  record  : Record
  driven  : List Int
  posMap  : List (Option Nat)
  clamped : Bool
  touched : List Target
  deriving DecidableEq, Repr

/-- Move a target with its position; none deletes it. -/
def moveTarget (f : Nat → Option Nat) (t : Target) : Option Target :=
  match t with
  | .param p i => (f p).map fun q => .param q i
  | .bypass p => (f p).map .bypass
  | .level => some t
  | .sat _ _ => some t

/-- Carry overrides and map entries along (R87), with the driven records of the entries that stay. -/
def carry (f : Target → Option Target) (chain : List SlotRec) (posMap : List (Option Nat)) (r : Record)
    (driven : List Int) : ChainPlan :=
  let kept := (r.map.zip driven).filterMap fun x => (f x.1.target).map fun t => ({ x.1 with target := t }, x.2)
  ⟨{ r with
      chain := chain
      scenes := r.scenes.map fun c => { c with
        overrides := c.overrides.filterMap fun o => (f o.target).map fun t => { o with target := t } }
      map := kept.map (·.1) }, kept.map (·.2), posMap, false, []⟩

/-- The identity position map of a chain. -/
def samePositions (n : Nat) : List (Option Nat) := (List.range n).map some

/-- The slot that INSERT and RETYPE name (R70, R86); none where a code fits nothing. -/
def newSlot (stype lclass policy : Nat) : Option SlotRec :=
  match slotTypeOf stype, tailPolicyOf policy with
  | some t, some p => (lengthClassOf t lclass).map fun c => defaultSlot t c p
  | _, _ => none

/-- INSERT (R86, R87). -/
def planInsert (pos stype lclass policy : Nat) (r : Record) (driven : List Int) : Option ChainPlan :=
  match newSlot stype lclass policy with
  | some x =>
    if pos ≤ r.chain.length then
      some (carry (moveTarget fun q => some (if pos ≤ q then q + 1 else q)) (insertAt r.chain pos x)
        (insertAt (samePositions r.chain.length) pos none) r driven)
    else none
  | none => none

/-- REMOVE (R86, R87). -/
def planRemove (pos : Nat) (r : Record) (driven : List Int) : Option ChainPlan :=
  if pos < r.chain.length then
    some (carry (moveTarget fun q => if q = pos then none else some (if pos < q then q - 1 else q)) (r.chain.eraseIdx pos)
      ((samePositions r.chain.length).eraseIdx pos) r driven)
  else none

/-- Where MOVE puts the slot of a position (R87). -/
def movedTo (a b q : Nat) : Nat :=
  if q = a then b else if a < q ∧ q ≤ b then q - 1 else if b ≤ q ∧ q < a then q + 1 else q

/-- Move an element of a list. -/
def moveElem {α : Type} (a b : Nat) (l : List α) : List α :=
  match l[a]? with
  | some x => insertAt (l.eraseIdx a) b x
  | none => l

/-- MOVE (R86, R87). -/
def planMove (a b : Nat) (r : Record) (driven : List Int) : Option ChainPlan :=
  if a < r.chain.length ∧ b < r.chain.length then
    some (carry (moveTarget fun q => some (movedTo a b q)) (moveElem a b r.chain)
      (moveElem a b (samePositions r.chain.length)) r driven)
  else none

/-- RETYPE (R86, R87): parameter targets at the position are deleted, bypass flag and bypass targets stay. -/
def planRetype (pos stype lclass policy : Nat) (r : Record) (driven : List Int) : Option ChainPlan :=
  match newSlot stype lclass policy, r.chain[pos]? with
  | some x, some old =>
    let keep := fun (t : Target) => match t with | .param p _ => if p = pos then none else some t | _ => some t
    some (carry keep (r.chain.set pos { x with bypass := old.bypass })
      ((samePositions r.chain.length).set pos none) r driven)
  | _, _ => none

/-- A value within the range of a parameter of a slot. -/
def inClass (x : SlotRec) (i : Nat) (v : Int) : Int :=
  match (paramSpecs x.stype x.lclass)[i]? with
  | some q => clampInt q.lo q.hi v
  | none => v

/-- An override of a reclassed position, clamped. -/
def clampOverride (pos : Nat) (x : SlotRec) (o : Override) : Override :=
  match o.target with
  | .param p i => if p = pos then { o with value := inClass x i o.value } else o
  | _ => o

/-- SET_CLASS (R86): only on a DELAY or CAB; base and override values are clamped to the new ranges. -/
def planSetClass (pos lclass : Nat) (r : Record) (driven : List Int) : Option ChainPlan :=
  match r.chain[pos]? with
  | some old =>
    if old.stype = .delay ∨ old.stype = .cab then
      match lengthClassOf old.stype lclass with
      | some c =>
        let x : SlotRec := { old with lclass := c }
        let params : List Int := (x.params.zip (List.range x.params.length)).map fun v => inClass x v.2 v.1
        let scenes : List Scene := r.scenes.map fun k => { k with overrides := k.overrides.map (clampOverride pos x) }
        some ⟨{ r with chain := r.chain.set pos { x with params := params }, scenes := scenes }, driven,
          samePositions r.chain.length, decide (params ≠ x.params) || decide (scenes ≠ r.scenes),
          (List.range x.params.length).map (.param pos)⟩
      | none => none
    else none
  | none => none

/-- SET_POLICY (R86). -/
def planSetPolicy (pos policy : Nat) (r : Record) (driven : List Int) : Option ChainPlan :=
  match tailPolicyOf policy with
  | some p =>
    if pos < r.chain.length then
      some (carry some (modAt r.chain pos fun x => { x with policy := p }) (samePositions r.chain.length) r driven)
    else none
  | none => none

/-- REBUILD (R86): no change. -/
def planRebuild (r : Record) (driven : List Int) : Option ChainPlan :=
  some (carry some r.chain (samePositions r.chain.length) r driven)

/-! ## Taking a chain edit (R86, R88) -/

/-- A taken chain edit: the buffer, the clamped values that changed, then the REBUILD with the link as its origin. -/
def takeChain (l : Fin 4) (c : ChainPlan) (s : State) : State :=
  let s1 := takenEdit (onScene (fun x => { x with driven := c.driven, posMap := some c.posMap })
    (onRecord (fun _ => c.record) s))
  let s2 := c.touched.foldl (fun x t => handChanged s t x) s1
  let r := arbiter ⟨.rebuild, false, false, false, .link l, (linkOf s l).seat.precedence, 0⟩ s2
  answer l (okOr c.clamped) [] r.2

/-- The checks of R86 from the second on. -/
def chainBody (p : Pkt) (plan : Record → List Int → Option ChainPlan) (s : State) : State :=
  if s.sw.inflight.isSome then refuse p.link .busy s
  else if guardBlocks s (linkOf s p.link).seat.precedence then refuse p.link .guarded s
  else if p.form = .badItem then refuse p.link .badArg s
  else withRecord p.link (fun r x =>
    match plan r x.scene.driven with
    | some c =>
      match admissionRefusal x.area c.record.chain with
      | some st => refuse p.link st x
      | none => takeChain p.link c x
    | none => refuse p.link .badArg x) s

/-- A CHAIN_EDIT row (R86): STALE, then the other checks. -/
def chainEdit (p : Pkt) (expected : Nat) (plan : Record → List Int → Option ChainPlan) (s : State) :
    Host.Outcome State Fault Refusal :=
  outside (dispatch p 0x1D 9 false true fun x =>
    if presetOf expected ≠ x.scene.buffer.preset then refuse p.link .stale x else chainBody p plan x) s

/-- CHAIN_EDIT INSERT (R86). -/
def execChainEditInsert (p : Pkt) (expected pos stype lclass policy : Nat) (s : State) :
    Host.Outcome State Fault Refusal :=
  chainEdit p expected (planInsert pos stype lclass policy) s

/-- CHAIN_EDIT REMOVE (R86). -/
def execChainEditRemove (p : Pkt) (expected pos : Nat) (s : State) : Host.Outcome State Fault Refusal :=
  chainEdit p expected (planRemove pos) s

/-- CHAIN_EDIT MOVE (R86). -/
def execChainEditMove (p : Pkt) (expected src dst : Nat) (s : State) : Host.Outcome State Fault Refusal :=
  chainEdit p expected (planMove src dst) s

/-- CHAIN_EDIT RETYPE (R86). -/
def execChainEditRetype (p : Pkt) (expected pos stype lclass policy : Nat) (s : State) :
    Host.Outcome State Fault Refusal :=
  chainEdit p expected (planRetype pos stype lclass policy) s

/-- CHAIN_EDIT SET_CLASS (R86). -/
def execChainEditSetClass (p : Pkt) (expected pos lclass : Nat) (s : State) : Host.Outcome State Fault Refusal :=
  chainEdit p expected (planSetClass pos lclass) s

/-- CHAIN_EDIT SET_POLICY (R86). -/
def execChainEditSetPolicy (p : Pkt) (expected pos policy : Nat) (s : State) : Host.Outcome State Fault Refusal :=
  chainEdit p expected (planSetPolicy pos policy) s

/-- CHAIN_EDIT REBUILD (R86, R88). -/
def execChainEditRebuild (p : Pkt) (expected : Nat) (s : State) : Host.Outcome State Fault Refusal :=
  chainEdit p expected planRebuild s

end Sys2Proof.Machine
end

