-- ==== Sys2Proof/Machine/SatRows.lean ====
section
/-! DEFINITION. The rows of the Satellite Controller (chapter 9). An answer or a failure that fits no transaction in flight
is no event and changes nothing. -/

namespace Sys2Proof.Machine

/-! ## The arbiter and deferred hides -/

/-- SAT_GRANT (R166). -/
def execSatGrant (s : State) : Host.Outcome State Fault Refusal := inside satGrantStep s

/-- DEFERRED_HIDE of one satellite (R161). -/
def execDeferredHide (sat : Fin 8) (s : State) : Host.Outcome State Fault Refusal :=
  inside (deferredHideStep (fun i => i == sat.val)) s

/-! ## Ends of transactions -/

/-- A register write of the pending sets is answered (R156). -/
def writeAnswered (s : State) : State :=
  match s.sat.inFlight with
  | some t =>
    match t.link with
    | none => if t.read = false ∧ t.reg < 16 then satWriteAnswer t.sat t.reg t.data (endTrans s) else s
    | some _ => s
  | none => s

/-- WRITE_ANSWERED (R156). -/
def execWriteAnswered (s : State) : Host.Outcome State Fault Refusal := outside writeAnswered s

/-- The status write of a restore is answered (R157). -/
def statusWriteAnswered (s : State) : State :=
  match s.sat.inFlight with
  | some t => if t.read = false ∧ t.reg = 16 then satStatusWriteAnswer t.sat (endTrans s) else s
  | none => s

/-- STATUS_WRITE_ANSWERED (R157). -/
def execStatusWriteAnswered (s : State) : Host.Outcome State Fault Refusal := outside statusWriteAnswered s

/-- A poll is answered (R158). -/
def pollAnswered (status : Byte) (s : State) : State :=
  match s.sat.inFlight with
  | some t => if t.cls = .poll then satPollAnswer t.sat status (endTrans s) else s
  | none => s

/-- POLL_ANSWERED (R158). -/
def execPollAnswered (status : Byte) (s : State) : Host.Outcome State Fault Refusal := outside (pollAnswered status) s

/-- What the answer of a pass-through does to the satellite (R165): a write as R156 gives, a read of the status register
as a poll answer (R158), any other read as an answer (R153). -/
def passOutcome (t : Trans) (data : Byte) (s : State) : State :=
  if t.read then (if t.reg = 16 then satPollAnswer t.sat data s else satAnswered t.sat s)
  else satWriteAnswer t.sat t.reg t.data s

/-- A pass-through is answered (R165): the reply carries the value written or read. -/
def passAnswered (data : Byte) (s : State) : State :=
  match s.sat.inFlight with
  | some t =>
    match t.link with
    | some l => answer l .ok [if t.read then data else byte t.data] (passOutcome t data (endTrans s))
    | none => s
  | none => s

/-- PASS_THROUGH_ANSWERED (R165). -/
def execPassThroughAnswered (data : Byte) (s : State) : Host.Outcome State Fault Refusal := outside (passAnswered data) s

/-- A transaction fails (R153, R165): the failure counts; a pass-through gets its reply. -/
def transFailed (s : State) : State :=
  match s.sat.inFlight with
  | some t =>
    let s1 := satFailed t.sat (endTrans s)
    match t.link with
    | some l => passAbsent l s1
    | none => s1
  | none => s

/-- TRANSACTION_FAILED (R153). -/
def execTransactionFailed (s : State) : Host.Outcome State Fault Refusal := outside transFailed s

/-! ## Timers -/

/-- The poll timer expires (R158): a status read waits for each satellite that is not hidden. -/
def pollExpiry (s : State) : State :=
  if s.sat.pollTimer && !s.sat.holdAuto then
    onSat (fun c => { c with sats := c.sats.map fun x => { x with pollWaits := x.pollWaits || !x.hidden } }) s
  else s

/-- POLL_TIMER_EXPIRY (R158). -/
def execPollTimerExpiry (s : State) : Host.Outcome State Fault Refusal := outside pollExpiry s

/-- A refreshed satellite (R159): every register ROUTINE, BEHIND. -/
def refreshSat (i : Nat) (s : State) : State :=
  if (satOf s i).state = .inStep ∧ (satOf s i).hidden = false then
    satSetState i .behind (onSatAt i (fun x => { x with marks := x.marks.map (enterMark .routine) }) s)
  else s

/-- The refresh timer expires (R159). Under hold-auto nothing is entered, as R159 says; the refresh entries that R160 lists
beside the pushes are taken as those entered before it was set (log 64). -/
def refreshExpiry (s : State) : State :=
  if s.sat.refTimer && s.sat.refresh && !s.sat.holdAuto then (List.range 8).foldl (fun x i => refreshSat i x) s else s

/-- REFRESH_TIMER_EXPIRY (R159). -/
def execRefreshTimerExpiry (s : State) : Host.Outcome State Fault Refusal := outside refreshExpiry s

/-! ## Requests -/

/-- SAT_STATUS (R169): FFh names no satellite. -/
def satStatus (l : Fin 4) (sat : Nat) (s : State) : State :=
  if sat = 255 then answer l .ok (satStatusContent none s) s
  else if sat < 8 then answer l .ok (satStatusContent (some sat) s) s
  else refuse l .badArg s

/-- SAT_STATUS (R169). -/
def execSatStatus (p : Pkt) (sat : Nat) (s : State) : Host.Outcome State Fault Refusal :=
  request p 0x0C 0 (satStatus p.link sat) s

/-- A pass-through request joins the queue, or is answered at once for a hidden or ABSENT satellite (R164). -/
def queuePass (q : PassReq) (s : State) : State :=
  if (satOf s q.sat).hidden ∨ (satOf s q.sat).state = .absent then passAbsent q.link s
  else onSat (fun c => { c with queue := c.queue ++ [q] }) s

/-- SAT_WRITE's arrival (R164): the image value, the desired value where neither an entry nor an override is in force, the
ROUTINE mark. -/
def satWriteArrival (sat reg value : Nat) (s : State) : State :=
  let s1 := writeImage sat reg value s
  if isDriven s1 (.sat sat reg) || isOverridden s1 (.sat sat reg) then satEnter .routine sat reg s1
  else satPush .routine sat reg value s1

/-- SAT_WRITE (R164). On an idle line the grant comes after both the ROUTINE entry and the request have arrived (log 58). -/
def satWrite (l : Fin 4) (sat reg value : Nat) (s : State) : State :=
  if sat < 8 ∧ reg < 16 then queuePass ⟨l, sat, reg, true⟩ (satWriteArrival sat reg value s) else refuse l .badArg s

/-- SAT_WRITE (R164). -/
def execSatWrite (p : Pkt) (sat reg value : Nat) (s : State) : Host.Outcome State Fault Refusal :=
  request p 0x27 12 (satWrite p.link sat reg value) s

/-- SAT_READ (R164). -/
def satRead (l : Fin 4) (sat reg : Nat) (s : State) : State :=
  if sat < 8 ∧ reg ≤ 16 then queuePass ⟨l, sat, reg, false⟩ s else refuse l .badArg s

/-- SAT_READ (R164). -/
def execSatRead (p : Pkt) (sat reg : Nat) (s : State) : Host.Outcome State Fault Refusal :=
  request p 0x28 12 (satRead p.link sat reg) s

/-- SAT_CLEAR (R163): the latch is cleared, the reply carries the last status. -/
def satClear (l : Fin 4) (sat : Nat) (s : State) : State :=
  if sat < 8 then
    let s1 := if (satOf s sat).latch.isSome then raise .satellite (onSatAt sat (fun x => { x with latch := none }) s) else s
    answer l .ok [(satOf s sat).last.getD 0xFF] s1
  else refuse l .badArg s

/-- SAT_CLEAR (R163). -/
def execSatClear (p : Pkt) (sat : Nat) (s : State) : Host.Outcome State Fault Refusal :=
  request p 0x29 12 (satClear p.link sat) s

/-- SAT_SETUP hold-auto (R160, R162). -/
def satHoldAuto (l : Fin 4) (value : Nat) (s : State) : State :=
  if 1 < value then refuse l .badArg s
  else
    let on := value == 1
    answer l .ok [] (if s.sat.holdAuto = on then s else raise .satellite (onSat (fun c => { c with holdAuto := on }) s))

/-- SAT_SETUP hold-auto (R160). -/
def execSatSetupHoldAuto (p : Pkt) (value : Nat) (s : State) : Host.Outcome State Fault Refusal :=
  request p 0x2E 15 (satHoldAuto p.link value) s

/-- SAT_SETUP REFRESH (R162): on loads the refresh timer, off stops it. -/
def satRefresh (l : Fin 4) (value : Nat) (s : State) : State :=
  if 1 < value then refuse l .badArg s
  else
    let on := value == 1
    let s1 := onSat (fun c => { c with refresh := on, refTimer := on }) s
    answer l .ok [] (if s.sat.refresh = on then s1 else raise .satellite s1)

/-- SAT_SETUP REFRESH (R162). -/
def execSatSetupRefresh (p : Pkt) (value : Nat) (s : State) : Host.Outcome State Fault Refusal :=
  request p 0x2E 15 (satRefresh p.link value) s

/-- SAT_SETUP hide (R161, R162): a value equal to the present one changes nothing; a hide of a satellite with a
transaction in flight waits, and its reply with it. -/
def satHiding (l : Fin 4) (sat value : Nat) (s : State) : State :=
  if 8 ≤ sat ∨ 1 < value then refuse l .badArg s
  else
    let on := value == 1
    if (satOf s sat).hidden = on then answer l .ok [] s
    else if on = false then answer l .ok [] (satUnhide sat s)
    else if satBusy s sat then onSat (fun c => { c with hideWaits := c.hideWaits ++ [(l, sat)] }) s
    else answer l .ok [] (satHide sat s)

/-- SAT_SETUP hide (R161). -/
def execSatSetupHide (p : Pkt) (sat value : Nat) (s : State) : Host.Outcome State Fault Refusal :=
  request p 0x2E 15 (satHiding p.link sat value) s

end Sys2Proof.Machine
end

