-- ==== Sys2Proof/Machine/ShowRows.lean ====
section
/-! DEFINITION. The rows of the Show Clock (chapter 8). -/

namespace Sys2Proof.Machine

/-- A beat event still to come within the frame that runs: the sample periods up to it pass, then the event (R139, log 17). -/
def beatRow (s : State) : State :=
  let n := samplesToBeat s.clk
  if present s ∧ s.clk.source ≠ .external ∧ s.tone.framePhase + n ≤ 32 then
    beatStep (passSamples n (onTone (fun t => { t with framePhase := t.framePhase + n }) s))
  else s

/-- BEAT_EVENT (R139): the countdown's event where it is due; otherwise time passes up to it, so what was due before it is done
and idle transmitters have begun what was ready (R174). -/
def execBeatEvent (s : State) : Host.Outcome State Fault Refusal :=
  if beatDue s then inside beatStep s else outside beatRow s

/-- The interval of a pulse enters the history (R136). -/
def pulseInterval (c : Show) : Show :=
  match c.pulseLast with
  | some last =>
    let h := c.pulses ++ [(c.pos - last).toNat]
    { c with pulses := h.drop (h.length - c.ppb), pulseLast := some c.pos }
  | none => { c with pulseLast := some c.pos }

/-- The tempo measured with a full history (R136). -/
def pulseTempo (s : State) : State :=
  let c := s.clk
  if c.pulses.length = c.ppb ∧ 0 < sumNat c.pulses then
    setTempo (roundHalfUp 7372800000 (sumNat c.pulses * 256)).toNat s
  else s

/-- What a pulse counts (R140, R144): the first pulse of an ARMED show starts it, the Nth is a beat event. -/
def pulseCounts (s : State) : State :=
  if s.clk.transport = .armed then
    raise .beat (fireHere (onClk (fun c => { c with
      transport := .running, bar := 1, beat := 1, pulseCount := 0, sinceBeat := 0, beatCount := 0 }) s))
  else if s.clk.ppb ≤ s.clk.pulseCount + 1 then beatDone (onClk (fun c => { c with pulseCount := 0 }) s)
  else onClk (fun c => { c with pulseCount := c.pulseCount + 1 }) s

/-- A pulse (R136): outside EXTERNAL ignored; during a clock loss it reloads the timer alone; a second pulse of one sample
counts for nothing. -/
def pulse (s : State) : State :=
  if s.clk.source = .external then
    let s1 := onClk (fun c => { c with pulseTimer := true }) s
    if !present s ∨ s.clk.pulseLast = some s.clk.pos then s1
    else pulseCounts (pulseTempo (onClk pulseInterval s1))
  else s

/-- TCLK_PULSE (R136). -/
def execTclkPulse (s : State) : Host.Outcome State Fault Refusal := outside pulse s

/-- The pulse timer expires (R137). -/
def pulseTimeout (s : State) : State :=
  if s.clk.pulseTimer ∧ s.clk.source = .external then
    raise .clock (onClk (fun c => disarmShow (holdShow (leaveExternal .internal c))) s)
  else s

/-- PULSE_TIMER_EXPIRY (R137). -/
def execPulseTimerExpiry (s : State) : Host.Outcome State Fault Refusal := outside pulseTimeout s

/-- SHOW_STATUS (R151). -/
def execShowStatus (p : Pkt) (s : State) : Host.Outcome State Fault Refusal := statusRequest p 0x0A showStatusContent s

/-- CUE_LIST (R151). -/
def cueList (l : Fin 4) (start : Nat) (s : State) : State :=
  if s.clk.cues ≠ [] ∧ s.clk.cues.length ≤ start then refuse l .badArg s else answer l .ok (cueListContent start s) s

/-- CUE_LIST (R151). -/
def execCueList (p : Pkt) (start : Nat) (s : State) : Host.Outcome State Fault Refusal :=
  request p 0x0B 0 (cueList p.link start) s

/-- An accepted tap interval (R135). -/
def acceptTap (n : Nat) (s : State) : State :=
  let h := s.clk.taps ++ [n]
  let taps := h.drop (h.length - 4)
  let a := sumNat taps / taps.length
  setTempo (roundHalfUp 28800000 a).toNat (onClk (fun c => { c with taps := taps, tapLast := some c.pos }) s)

/-- A tap reaches the Show Clock (R135). -/
def takeTap (s : State) : State :=
  if s.clk.source ≠ .tap then s
  else if !present s then onClk endTaps s
  else
    match s.clk.tapLast with
    | none => onClk (fun c => { c with tapLast := some c.pos }) s
    | some last =>
      let n := (s.clk.pos - last).toNat
      if n < 9600 then s
      else if 120000 < n then onClk (fun c => { c with taps := [], tapLast := some c.pos }) s
      else acceptTap n s

/-- TAP (R135). -/
def execTap (p : Pkt) (s : State) : Host.Outcome State Fault Refusal := fireAndForget p takeTap s

/-- TEMPO_SET (R133): answered with the tempo and source in force; under EXTERNAL OK with t unchanged. -/
def tempoSet (l : Fin 4) (v : Nat) (s : State) : State :=
  let st := okOr (s.clk.source != .external && decide (clampNat 300 3000 v ≠ v))
  let s1 := commandTempo v s
  answer l st (be2 s1.clk.tempo ++ [byte (tempoSourceCode s1.clk.source)]) s1

/-- TEMPO_SET (R133). -/
def execTempoSet (p : Pkt) (v : Nat) (s : State) : Host.Outcome State Fault Refusal :=
  request p 0x14 5 (tempoSet p.link v) s

/-- A change of source (R134). -/
def changeSource (src : TempoSource) (c : Show) : Show :=
  match c.source, src with
  | .external, .external => c
  | _, .external => enterExternal c
  | .external, .tap => endTaps (disarmShow (leaveExternal .tap c))
  | .external, .internal => disarmShow (leaveExternal .internal c)
  | _, _ => endTaps { c with source := src }

/-- TEMPO_SOURCE (R134): a change makes a CLOCK notice pending. -/
def tempoSourceRequest (l : Fin 4) (v : Nat) (s : State) : State :=
  match tempoSourceOf v with
  | some src =>
    let s1 := if src = s.clk.source then s else raise .clock (onClk (changeSource src) s)
    answer l .ok [byte (tempoSourceCode src)] s1
  | none => refuse l .badArg s

/-- TEMPO_SOURCE (R134). -/
def execTempoSource (p : Pkt) (v : Nat) (s : State) : Host.Outcome State Fault Refusal :=
  request p 0x2A 13 (tempoSourceRequest p.link v) s

/-- TEMPO_LOCK (R134). -/
def tempoLock (l : Fin 4) (v : Nat) (s : State) : State :=
  if 1 < v then refuse l .badArg s
  else
    let b := v == 1
    answer l .ok [flagByte b] (if b = s.clk.lock then s else raise .clock (onClk (fun c => { c with lock := b }) s))

/-- TEMPO_LOCK (R134). -/
def execTempoLock (p : Pkt) (v : Nat) (s : State) : Host.Outcome State Fault Refusal :=
  request p 0x2B 13 (tempoLock p.link v) s

/-- The default tempo item (R138). -/
def setDefaultTempo (l : Fin 4) (v : Nat) (s : State) : State :=
  let t := clampNat 300 3000 v
  answer l (okOr (decide (t ≠ v))) [] (onClk (fun c => { c with defTempo := t }) s)

/-- CLOCK_SETUP default tempo (R138). -/
def execClockSetupDefaultTempo (p : Pkt) (v : Nat) (s : State) : Host.Outcome State Fault Refusal :=
  request p 0x2C 13 (setDefaultTempo p.link v) s

/-- The pulses per beat item (R138): the pulse history is cleared. -/
def setPulsesPerBeat (l : Fin 4) (v : Nat) (s : State) : State :=
  let n := clampNat 1 48 v
  answer l (okOr (decide (n ≠ v))) [] (onClk (fun c => clearPulses { c with ppb := n }) s)

/-- CLOCK_SETUP pulses per beat (R138). -/
def execClockSetupPulsesPerBeat (p : Pkt) (v : Nat) (s : State) : Host.Outcome State Fault Refusal :=
  request p 0x2C 13 (setPulsesPerBeat p.link v) s

/-- The beats per bar item (R138): BAD_ARG unless STOPPED, or for a value outside 1 to 16, which R138 does not clamp (log 44);
OCCUPIED where a cue lies above; otherwise set. -/
def setBeatsPerBar (l : Fin 4) (v : Nat) (s : State) : State :=
  if s.clk.transport ≠ .stopped ∨ v < 1 ∨ 16 < v then refuse l .badArg s
  else if s.clk.cues.any (fun q => decide (v < q.beat)) then refuse l .occupied s
  else answer l .ok [] (onClk (fun c => { c with bpb := v }) s)

/-- CLOCK_SETUP beats per bar (R138). -/
def execClockSetupBeatsPerBar (p : Pkt) (v : Nat) (s : State) : Host.Outcome State Fault Refusal :=
  request p 0x2C 13 (setBeatsPerBar p.link v) s

/-! ## Transport (R144, R145) -/

/-- The reply of the transport requests: state, position, countdown. -/
def transportReply (l : Fin 4) (s : State) : State := answer l .ok (transportBytes s.clk) s

/-- SHOW_START (R144). -/
def showStart (s : State) : State :=
  if s.clk.transport = .stopped then
    if s.clk.source = .external then onClk (fun c => { c with transport := .armed }) s
    else fireHere (onClk (fun c => rephase { c with transport := .running, bar := 1, beat := 1 }) s)
  else s

/-- SHOW_START (R144). -/
def execShowStart (p : Pkt) (s : State) : Host.Outcome State Fault Refusal :=
  request p 0x20 11 (fun x => transportReply p.link (showStart x)) s

/-- SHOW_HOLD (R144). -/
def execShowHold (p : Pkt) (s : State) : Host.Outcome State Fault Refusal :=
  request p 0x21 11 (fun x => transportReply p.link (onClk holdShow x)) s

/-- SHOW_CONTINUE (R144). -/
def showContinue (s : State) : State :=
  if s.clk.transport = .held then fireHere (onClk (fun c => { c with transport := .running }) s) else s

/-- SHOW_CONTINUE (R144). -/
def execShowContinue (p : Pkt) (s : State) : Host.Outcome State Fault Refusal :=
  request p 0x22 11 (fun x => transportReply p.link (showContinue x)) s

/-- SHOW_STOP (R144). -/
def execShowStop (p : Pkt) (s : State) : Host.Outcome State Fault Refusal :=
  request p 0x23 11 (fun x => transportReply p.link (onClk stopShow x)) s

/-- Position, fired marks and state of a locate (R145). -/
def locateClock (b k : Nat) (c : Show) : Show :=
  let c1 := { c with bar := b, beat := k, cues := c.cues.map fun q => { q with fired := posBefore q.bar q.beat b k } }
  match c.transport with
  | .running => if c.source = .external then c1 else rephase c1
  | .held => c1
  | _ => { c1 with transport := .held }

/-- SHOW_LOCATE (R145): position, marks, state, chase, firing. -/
def showLocate (b k : Nat) (chase : Bool) (s : State) : State :=
  let s1 := onClk (locateClock b k) s
  let s2 := match chaseCue b k s1.clk.cues with
    | some q => if chase then fireCue q s1 else s1
    | none => s1
  if s2.clk.transport = .running then fireHere s2 else s2

/-- SHOW_LOCATE (R145). -/
def locateRequest (l : Fin 4) (b k chase : Nat) (s : State) : State :=
  if b < 1 ∨ 9999 < b ∨ k < 1 ∨ s.clk.bpb < k ∨ 1 < chase then refuse l .badArg s
  else transportReply l (showLocate b k (chase == 1) s)

/-- SHOW_LOCATE (R145). -/
def execShowLocate (p : Pkt) (b k chase : Nat) (s : State) : Host.Outcome State Fault Refusal :=
  request p 0x24 11 (locateRequest p.link b k chase) s

/-! ## The cue list (R147) -/

/-- A cue's action from its kind and five argument bytes, with the CLAMPED indication; none where it is refused. -/
def actionOf (kind : Nat) (a : List Nat) : Option (CueAction × Bool) :=
  let b := fun k => a.getD k 0
  match kind with
  | 0 =>
    let g := 256 * b 3 + b 4
    if b 0 < 128 ∧ b 1 < 4 ∧ b 2 < 4 then some (.switch (b 0) (b 1) (b 2) (min 2000 g), decide (2000 < g)) else none
  | 1 => let t := 256 * b 0 + b 1; some (.tempo (clampNat 300 3000 t), decide (clampNat 300 3000 t ≠ t))
  | 2 => if b 0 < 2 then some (.tuner (b 0 == 1), false) else none
  | 3 => if b 0 < 8 ∧ b 1 < 16 then some (.satellite (b 0) (b 1) (min 255 (b 2)), decide (255 < b 2)) else none
  | 4 => some (.stop, false)
  | _ => none

/-- Is a position within the range of cues (R147)? -/
def cuePosOk (c : Show) (b k : Nat) : Bool := decide (1 ≤ b) && decide (b ≤ 9999) && decide (1 ≤ k) && decide (k ≤ c.bpb)

/-- Is a new cue marked fired (R147)? -/
def insertedFired (c : Show) (b k : Nat) : Bool :=
  (c.transport == .running || c.transport == .held) && !posBefore c.bar c.beat b k

/-- CUE_INSERT (R147). -/
def cueInsert (l : Fin 4) (b k kind : Nat) (args : List Nat) (s : State) : State :=
  let c := s.clk
  match actionOf kind args with
  | some (a, clamped) =>
    if !cuePosOk c b k then refuse l .badArg s
    else if 64 ≤ c.cues.length then refuse l .full s
    else if 4 ≤ (c.cues.filter fun q => q.bar == b && q.beat == k).length then refuse l .crowded s
    else
      let q : Cue := ⟨b, k, a, insertedFired c b k, .none, c.nextTag⟩
      let n := (c.cues.filter fun x => !posBefore b k x.bar x.beat).length
      answer l (okOr clamped) [byte n] (onClk (fun c => { c with cues := insertCue q c.cues, nextTag := c.nextTag + 1 }) s)
  | none => refuse l .badArg s

/-- CUE_INSERT (R147). -/
def execCueInsert (p : Pkt) (b k kind : Nat) (args : List Nat) (s : State) : Host.Outcome State Fault Refusal :=
  request p 0x25 11 (cueInsert p.link b k kind args) s

/-- CUE_DELETE (R147). -/
def cueDelete (l : Fin 4) (n b k : Nat) (s : State) : State :=
  match s.clk.cues[n]? with
  | some q =>
    if q.bar = b ∧ q.beat = k then answer l .ok [] (onClk (fun c => { c with cues := c.cues.eraseIdx n }) s)
    else refuse l .badArg s
  | none => refuse l .badArg s

/-- CUE_DELETE (R147). -/
def execCueDelete (p : Pkt) (n b k : Nat) (s : State) : Host.Outcome State Fault Refusal :=
  request p 0x26 11 (cueDelete p.link n b k) s

end Sys2Proof.Machine
end

