-- ==== Sys2Proof/Machine/StartRows.lean ====
section
/-! DEFINITION. The rows of the supply, RESET_N and start-up (R78, R189 to R191). -/

namespace Sys2Proof.Machine

/-- POWER_ON (R189): start-up is entered, and BOOTING reads the stored setup, unless RESET_N is low: then the part is held at
the entry values until the pin's release. A write in flight is cut short (log 24). -/
def execPowerOn (s : State) : Host.Outcome State Fault Refusal :=
  let held := s.startup.resetHeld
  .next (startupEntry (interruptWrite s.store) (if held then none else some (.startRead .setup)) true held s)

/-- RESET_ASSERT (R78, R189): a low of 10 µs or more enters start-up and holds the part at the entry values. The level of the
pin is the pin's own: without supply it is only seen when supply comes (log 23). -/
def execResetAssert (lowUs : Nat) (s : State) : Host.Outcome State Fault Refusal :=
  .next (if lowUs < 10 then s
    else if s.startup.powered then startupEntry (interruptWrite s.store) none true true s
    else onStartup (fun u => { u with resetHeld := true }) s)

/-- RESET_RELEASE (R189): the pin is high again; with supply BOOTING begins. -/
def execResetRelease (s : State) : Host.Outcome State Fault Refusal :=
  .next (if s.startup.resetHeld then
    onStartup (fun u => { u with resetHeld := false })
      (if s.startup.powered then onStore (fun c => { c with op := some (.startRead .setup) }) s else s)
  else s)

/-- POWER_LOSS (R78): a write in flight is cut short; what is volatile is lost, and the level of RESET_N stays. -/
def execPowerLoss (s : State) : Host.Outcome State Fault Refusal :=
  .next (startupEntry (interruptWrite s.store) none false s.startup.resetHeld s)

/-- RESTART_ENTRY (R180, R189). -/
def execRestartEntry (s : State) : Host.Outcome State Fault Refusal := inside restartStep s

/-- SETUP_READ_COMPLETION (R190). -/
def execSetupReadCompletion (s : State) : Host.Outcome State Fault Refusal :=
  outside (fun x => if x.store.op = some (.startRead .setup) then bootRead x else x) s

/-- IMAGE_COPY_COMPLETION (R56). -/
def execImageCopyCompletion (s : State) : Host.Outcome State Fault Refusal :=
  outside (fun x =>
    match x.store.op with
    | some (.startRead (.image k)) => imageCopied k x
    | _ => x) s

/-- START_PRESET_READ_COMPLETION (R114, R191). -/
def execStartPresetReadCompletion (s : State) : Host.Outcome State Fault Refusal :=
  outside (fun x =>
    match x.store.op with
    | some (.startRead (.preset n)) => startPresetRead n x
    | _ => x) s

end Sys2Proof.Machine
end

