-- ==== Sys2Proof/Machine/StoreRows.lean ====
section
/-! DEFINITION. The rows of the Preset Store (5.2): store and erase requests, reads, completions, the stored setup. -/

namespace Sys2Proof.Machine

/-- STORE_READ_START (R73). -/
def execStoreReadStart (s : State) : Host.Outcome State Fault Refusal := inside readStartStep s

/-- The store has no operation; BOOTING's read follows a write that a RESTART overtook (R78, R189). -/
def storeIdle (link : Option (Fin 4)) (s : State) : State :=
  onStore (fun c => { c with op := if link.isNone && s.startup.phase == .booting then some (.startRead .setup) else none }) s

/-- What every write completion does (R78): the store is idle, the last-write record, the STORE notice. -/
def writeDone (link : Option (Fin 4)) (k : WriteKind) (n : Option Nat) (s : State) : State :=
  raise .store (onStore (fun c => { c with last := some (k, n) }) (storeIdle link s))

/-- The comparison at the completion of a preset store (R75): the live buffer, else a stash entry. -/
def storeMatch (n : Nat) (seq : Word32) (s : State) : State :=
  if s.scene.buffer.seq = seq then
    let s1 := onBuffer (fun b => { b with dirty := false, preset := some n }) s
    if s.scene.buffer.preset = some n then s1 else raise .scene s1
  else stashLeave (fun e => e.seq == seq) s

/-- The completion of a preset store (R75, R78). -/
def presetStored (link : Option (Fin 4)) (n : Nat) (snap : Record) (seq : Word32) (s : State) : State :=
  let w := checkWord (recordBytes snap)
  let s1 := onStore (fun c => { c with library := c.library.set n ⟨true, some snap, w⟩ }) s
  let s2 := if link.isSome then storeMatch n seq s1 else s1
  writeDone link .presetStore (some n) (answerOpt link .ok (byte n :: word4 w) s2)

/-- PRESET_STORE_COMPLETION (R75). -/
def execPresetStoreCompletion (s : State) : Host.Outcome State Fault Refusal :=
  outside (fun x =>
    match x.store.op with
    | some (.presetStore link n snap seq) => presetStored link n snap seq x
    | _ => x) s

/-- The completion of an erase (R76, R78). -/
def presetErased (link : Option (Fin 4)) (n : Nat) (s : State) : State :=
  let s1 := onStore (fun c => { c with library := c.library.set n LibPlace.blank }) s
  let s2 := if link.isSome ∧ s.scene.buffer.preset = some n then onBuffer (fun b => { b with dirty := true }) s1 else s1
  writeDone link .presetErase (some n) (answerOpt link .ok [] s2)

/-- PRESET_ERASE_COMPLETION (R76). -/
def execPresetEraseCompletion (s : State) : Host.Outcome State Fault Refusal :=
  outside (fun x =>
    match x.store.op with
    | some (.presetErase link n) => presetErased link n x
    | _ => x) s

/-- The area and table steps of an image store's completion (R52, R187). -/
def imageTaken (l : Fin 4) (slot a taps : Nat) (m : AreaMan) : AreaMan :=
  let m1 : AreaMan := { m with areas := m.areas.set a (.image (some slot) taps 0) }
  let m2 := match m.table.getD slot none with
    | some (old, _) => orphanImage old m1
    | none => m1
  { m2 with
    table := m2.table.set slot (some (a, taps)), uploads := m2.uploads.set l.val ⟨none, .saved⟩
    mask := m2.mask.set slot true }

/-- Is a link's outstanding request orphaned by a break (R171)? -/
def isOrphaned (s : State) (l : Fin 4) : Bool := (linkOf s l).outstanding.any (·.orphaned)

/-- The completion of an image store (R52, R54, R78). After a break its outcome shows in an AREA notice (log
46). The reply names no previous area as FFh (log 59). -/
def imageStored (link : Option (Fin 4)) (slot a taps : Nat) (words : List Word32) (s : State) : State :=
  let s1 := onStore (fun c => { c with images := c.images.set slot (.good taps words) }) s
  let prev := (s.area.table.getD slot none).map (·.1)
  let s2 := match link with
    | some l =>
      let s3 := onArea (imageTaken l slot a taps) s1
      answer l .ok [byte slot, byte a, optByte prev] (if isOrphaned s l then raiseOn .area l s3 else s3)
    | none => s1
  writeDone link .imageStore (some slot) s2

/-- IMAGE_STORE_COMPLETION (R52). -/
def execImageStoreCompletion (s : State) : Host.Outcome State Fault Refusal :=
  outside (fun x =>
    match x.store.op with
    | some (.imageStore link slot a taps words) => imageStored link slot a taps words x
    | _ => x) s

/-- The completion of a setup store (R188, R78). -/
def setupStored (link : Option (Fin 4)) (snap : Setup) (s : State) : State :=
  let s1 := onStore (fun c => { c with setup := .good snap }) s
  let s2 := if link.isSome then onStartup (fun u => { u with factory := false }) s1 else s1
  writeDone link .setupStore none (answerOpt link .ok [] s2)

/-- SETUP_STORE_COMPLETION (R188). -/
def execSetupStoreCompletion (s : State) : Host.Outcome State Fault Refusal :=
  outside (fun x =>
    match x.store.op with
    | some (.setupStore link snap) => setupStored link snap x
    | _ => x) s

/-- The reply to a READ_PRESET at its read's completion (R77). -/
def readAnswer (l : Fin 4) (n chunk : Nat) (s : State) : State :=
  match readPlace (placeOf s n) with
  | none => refuse l .empty s
  | some none => refuse l .badRecord s
  | some (some r) =>
    let bytes := recordBytes r
    match chunkOf bytes chunk with
    | some c => answer l .ok (byte n :: be2 bytes.length ++ word4 (placeOf s n).check ++ byte chunk :: c) s
    | none => answer l .badArg (be2 bytes.length) s

/-- A switch load's read ends (R99): EMPTY or BAD_RECORD fails the switch, a VALID record ends LOADING. -/
def loadRead (n : Nat) (s : State) : State :=
  match s.sw.inflight with
  | some f =>
    match readPlace (placeOf s n) with
    | none => failSwitch f.req .empty s
    | some none => failSwitch f.req .badRecord s
    | some (some r) =>
      let scene := match f.req.target with
        | .preset _ k => min k (r.scenes.length - 1)
        | _ => 0
      endLoading { f with loaded := some ⟨r, some n, scene, none⟩ } s
  | none => s

/-- PRESET_READ_COMPLETION (R77, R99). -/
def execPresetReadCompletion (s : State) : Host.Outcome State Fault Refusal :=
  outside (fun x =>
    let idle := onStore (fun c => { c with op := none }) x
    match x.store.op with
    | some (.presetRead (.switch dropped) n) => if dropped then idle else loadRead n idle
    | some (.presetRead (.link l chunk) n) => readAnswer l n chunk idle
    | _ => x) s

/-- READ_PRESET (R77): at once from an idle store, else it waits in arrival order (R73). -/
def readPreset (l : Fin 4) (n chunk : Nat) (s : State) : State :=
  if 128 ≤ n then refuse l .badArg s
  else if storeBusy s then onStore (fun c => { c with waitLinks := c.waitLinks ++ [⟨l, n, chunk⟩] }) s
  else onStore (fun c => { c with op := some (.presetRead (.link l chunk) n) }) s

/-- READ_PRESET (R77). -/
def execReadPreset (p : Pkt) (n chunk : Nat) (s : State) : Host.Outcome State Fault Refusal :=
  request p 0x0D 1 (readPreset p.link n chunk) s

/-- The source of a store or read: record fields, sequence number, preset number (R74, R85). -/
def bufferSource (src : Nat) (s : State) : Option (Record × Word32 × Option Nat) :=
  if src = 255 then s.scene.buffer.record.map fun r => (r, s.scene.buffer.seq, s.scene.buffer.preset)
  else (s.scene.stash[src]?).map fun e => (e.record, e.seq, e.preset)

/-- READ_BUFFER (R85). -/
def readBuffer (l : Fin 4) (src chunk : Nat) (s : State) : State :=
  match bufferSource src s with
  | some (r, seq, preset) =>
    let bytes := recordBytes r
    match chunkOf bytes chunk with
    | some c => answer l .ok (word4 seq ++ optByte preset :: be2 bytes.length ++ byte chunk :: c) s
    | none => refuse l .badArg s
  | none => refuse l .badArg s

/-- READ_BUFFER (R85). -/
def execReadBuffer (p : Pkt) (src chunk : Nat) (s : State) : Host.Outcome State Fault Refusal :=
  request p 0x0E 1 (readBuffer p.link src chunk) s

/-- STORE_PRESET (R74): the checks in order; a taken store holds the source's record and sequence number. -/
def storePreset (l : Fin 4) (n src : Nat) (s : State) : State :=
  if 128 ≤ n then refuse l .badArg s
  else
    match bufferSource src s with
    | some (r, seq, _) =>
      if storeBusy s then refuse l .storeBusy s
      else onStore (fun c => { c with op := some (.presetStore (some l) n r seq) }) s
    | none => refuse l .badArg s

/-- STORE_PRESET (R74). -/
def execStorePreset (p : Pkt) (n src : Nat) (s : State) : Host.Outcome State Fault Refusal :=
  request p 0x1E 10 (storePreset p.link n src) s

/-- ERASE_PRESET (R76). -/
def erasePreset (l : Fin 4) (n : Nat) (s : State) : State :=
  if 128 ≤ n then refuse l .badArg s
  else if storeBusy s then refuse l .storeBusy s
  else onStore (fun c => { c with op := some (.presetErase (some l) n) }) s

/-- ERASE_PRESET (R76). -/
def execErasePreset (p : Pkt) (n : Nat) (s : State) : Host.Outcome State Fault Refusal :=
  request p 0x1F 10 (erasePreset p.link n) s

/-- SETUP_SAVE (R188). -/
def setupSave (l : Fin 4) (s : State) : State :=
  if storeBusy s then refuse l .storeBusy s
  else onStore (fun c => { c with op := some (.setupStore (some l) (heldSetup s)) }) s

/-- SETUP_SAVE (R188). -/
def execSetupSave (p : Pkt) (s : State) : Host.Outcome State Fault Refusal := request p 0x33 17 (setupSave p.link) s

end Sys2Proof.Machine
end

