-- ==== Sys2Proof/Machine/SwitchRows.lean ====
section
/-! DEFINITION. The rows of the Switch Engine and the stash (chapter 6, 5.5). -/

namespace Sys2Proof.Machine

/-- DEFERRED_LANE_MOVE (R104). -/
def execDeferredLaneMove (s : State) : Host.Outcome State Fault Refusal := inside deferredMoveStep s

/-- SWAP (R106). -/
def execSwap (s : State) : Host.Outcome State Fault Refusal := inside swapStep s

/-- SWITCH_PROMOTION (R98). -/
def execSwitchPromotion (s : State) : Host.Outcome State Fault Refusal := inside promotionStep s

/-- GUARD_TIMER_EXPIRY (R95): the window closes. -/
def execGuardTimerExpiry (s : State) : Host.Outcome State Fault Refusal :=
  outside (onSw fun w => { w with guard := none }) s

/-- SWITCH_STATUS (R116). The guard's remaining time is a free value (log 6). -/
def execSwitchStatus (p : Pkt) (s : State) : Host.Outcome State Fault Refusal :=
  request p 0x08 0 (fun x => { answer p.link .ok (switchStatusContent p.link x) x with freeCount := x.freeCount + 1 }) s

/-- The status of what the arbiter did with a link's request (R92). -/
def arbiterStatus : SwOutcome → Status
  | .guarded => .guarded
  | .outranked => .outranked
  | _ => .ok

/-- A link's request that passed its checks goes to the guard check and the arbiter; its reply reports the take (R92). -/
def linkSwitch (l : Fin 4) (t : SwTarget) (flags : Nat) (s : State) : State :=
  let reload := match t with | .preset .. => flags.testBit 2 | _ => false
  let q : SwRequest := ⟨t, flags.testBit 0, flags.testBit 1, reload, .link l, (linkOf s l).seat.precedence, 0⟩
  let r := arbiter q s
  answer l (arbiterStatus r.1) [] r.2

/-- SWITCH (R92): BAD_ARG, then DENIED for DISCARD below CREW (log 50), then the arbiter. -/
def switchRequest (l : Fin 4) (preset scene flags : Nat) (s : State) : State :=
  if !switchArgsOk s preset scene (flags.testBit 2) then refuse l .badArg s
  else if flags.testBit 0 ∧ (linkOf s l).seat.tier < 2 then refuse l .denied s
  else linkSwitch l (.preset preset scene) flags s

/-- SWITCH (R92). -/
def execSwitch (p : Pkt) (preset scene flags : Nat) (s : State) : Host.Outcome State Fault Refusal :=
  request p 0x0F 2 (switchRequest p.link preset scene flags) s

/-- RECALL (R90, R92): BAD_ARG, then DENIED for DISCARD below CREW (log 50); the entry is copied into the request. -/
def recallRequest (l : Fin 4) (index flags : Nat) (s : State) : State :=
  match s.scene.stash[index]? with
  | some e =>
    if flags.testBit 0 ∧ (linkOf s l).seat.tier < 2 then refuse l .denied s else linkSwitch l (.stash e) flags s
  | none => refuse l .badArg s

/-- RECALL (R90). -/
def execRecall (p : Pkt) (index flags : Nat) (s : State) : Host.Outcome State Fault Refusal :=
  request p 0x15 6 (recallRequest p.link index flags) s

/-- DROP_STASH (R91). -/
def dropStash (l : Fin 4) (index : Nat) (s : State) : State :=
  if index < s.scene.stash.length then
    answer l .ok [] (raise .stash (onScene (fun c => { c with stash := c.stash.eraseIdx index }) s))
  else refuse l .badArg s

/-- DROP_STASH (R91). -/
def execDropStash (p : Pkt) (index : Nat) (s : State) : Host.Outcome State Fault Refusal :=
  request p 0x16 7 (dropStash p.link index) s

end Sys2Proof.Machine
end

