-- ==== Sys2Proof/Machine/ToneRows.lean ====
section
/-! DEFINITION. The rows of the Tone Engine and the Clock Monitor: FRAME_BOUNDARY, the ends of fades, the lanes' natural
ends, the loss and the return of the audio clock. -/

namespace Sys2Proof.Machine

/-- `k` sample periods up to the boundary (log 17), with the beat event that falls inside them (R139): what is due after it
is done, and an idle transmitter begins what it raised, before the rest of the frame (R174). -/
def passToBoundary (k : Nat) (s : State) : State :=
  let n := samplesToBeat s.clk
  if s.clk.source ≠ .external ∧ n ≤ k then passSamples (k - n) (prelude (beatStep (passSamples n s)))
  else passSamples k s

/-- Take up the changes that wait (R1 step 1, R2). -/
def takeUp (s : State) : State :=
  applyChanges false s.tone.changes (onTone (fun t => { t with changes := [] }) s)

/-- The frame boundary (R1): the samples of the frame have passed, the Tuner and the Show Clock act on it, natural ends
of lanes, take-up, the ramp step, the chain, the lanes, the output stage. -/
def boundary (c : Captured) (s : State) : State :=
  let s1 := handLens (onTuner (tunerFrame c) (passToBoundary (32 - s.tone.framePhase) s))
  let s2 := takeUp (onTone (fun t => { t with lanes := t.lanes.map laneNatural }) s1)
  let s3 := onTone (fun t => stepRamps (retimeAll t)) s2
  onTone (fun t => { t with framePhase := 0 }) (runFrame c s3)

/-- Does a frame carry 32 samples for each captured channel (R1)? -/
def fullFrame (c : Captured) : Bool :=
  c.inA.length == 32 && c.inB.length == 32 && c.retL.length == 32 && c.retR.length == 32

/-- FRAME_BOUNDARY (R1): while the clock is reported present. -/
def execFrameBoundary (c : Captured) (s : State) : Host.Outcome State Fault Refusal :=
  if fullFrame c then outside (fun x => if present x then boundary c x else x) s else .fault .shortFrame

/-- GATE_CLOSED (R8). -/
def execGateClosed (pos : Nat) (s : State) : Host.Outcome State Fault Refusal := inside (gateClosedStep pos) s

/-- BYPASS_WEIGHT_ZERO (R7, R10). -/
def execBypassWeightZero (pos : Nat) (s : State) : Host.Outcome State Fault Refusal := inside (weightZero pos) s

/-- RESOLVE_FADE_END (R10). -/
def execResolveFadeEnd (pos : Nat) (s : State) : Host.Outcome State Fault Refusal := inside (resolveFadeStep pos) s

/-- CROSS_FADE_END (R14, R15). -/
def execCrossFadeEnd (p : Place) (s : State) : Host.Outcome State Fault Refusal := inside (crossFadeStep p) s

/-- The tail timer of a lane expires at the coming boundary (R22): the cut fade starts. -/
def tailTimerEnd (l : Lane) : Lane := if l.timer ≤ 32 then startCut l else l

/-- TAIL_TIMER_EXPIRY (R22): a timer that the coming boundary takes to 0 or less; the fade's first step is that boundary's
(log 17). -/
def execTailTimerExpiry (l : Fin 4) (s : State) : Host.Outcome State Fault Refusal :=
  outside (onTone fun t => { t with lanes := modAt t.lanes l.val tailTimerEnd }) s

/-- The quiet counter of a DELAY's lane reached 2048 (R22). -/
def quietEnd (l : Lane) : Lane :=
  if (l.inst.map fun i => i.stype == .delay).getD false ∧ 2048 ≤ l.quiet then startCut l else l

/-- LANE_QUIET (R22). -/
def execLaneQuiet (l : Fin 4) (s : State) : Host.Outcome State Fault Refusal :=
  outside (onTone fun t => { t with lanes := modAt t.lanes l.val quietEnd }) s

/-- CUT_FADE_END (R23). -/
def execCutFadeEnd (l : Fin 4) (s : State) : Host.Outcome State Fault Refusal := inside (cutFadeStep l.val) s

/-- CHAIN_GAIN_AT_REST (R104). -/
def execChainGainAtRest (s : State) : Host.Outcome State Fault Refusal := inside chainRestStep s

/-! ## The Clock Monitor (R192, R193) -/

/-- Land every level-class parameter of the live chain at its target (R112, log 13). -/
def landLevels (s : State) : State :=
  onTone (fun t => { t with chain := t.chain.map fun p =>
    { p with inst := p.inst.map fun i => { i with params := i.params.map fun r => .rest r.target } } }) s

/-- The Show Clock at the loss (R135, R136, R142). -/
def showClockLoss (s : State) : State := onClk (fun c => holdShow (clearPulses (endTaps c))) s

/-- The loss declaration (R192): changes that waited are taken up (log 13), the clock holder is set, the lanes are cut, the
Switch Engine, the Tuner and the Show Clock act, a CLOCK notice is pending. -/
def clockLoss (s : State) : State :=
  let ramping := engine s = some .ramping
  let s1 : State := { s with mon := ⟨.lost, 0, false⟩ }
  let s2 := applyChanges true s.tone.changes (onTone (fun t => { t with
    changes := [], framePhase := 0, mainOut := silence, sendOut := silence }) s1)
  let s3 := switchClockLoss (hand .cutAll (setClockHolder s2))
  let s4 := if ramping then landLevels s3 else s3
  raise .clock (showClockLoss (clearTuner s4))

/-- WATCHDOG_EXPIRY (R192): declares the loss in PRESENT, returns RETURNING to LOST. -/
def execWatchdogExpiry (s : State) : Host.Outcome State Fault Refusal :=
  outside (fun x =>
    if x.mon.watchdog then
      match x.mon.state with
      | .present => clockLoss x
      | .returning => { x with mon := ⟨.lost, 0, false⟩ }
      | .lost => { x with mon := ⟨.lost, 0, false⟩ }
    else x) s

/-- CLOCK_RETURNED (R193). -/
def execClockReturned (s : State) : Host.Outcome State Fault Refusal := inside clockReturnedStep s

/-- An AFS edge (R192): in PRESENT a sample period passes (log 17); in LOST the state becomes RETURNING; in RETURNING a clean
interval counts, another returns the count to 0. -/
def afsEdge (intervalNs : Nat) (s : State) : State :=
  match s.mon.state with
  | .present =>
    let s1 : State := { s with mon := { s.mon with watchdog := true } }
    if s.tone.framePhase < 32 then passSamples 1 (onTone (fun t => { t with framePhase := t.framePhase + 1 }) s1) else s1
  | .lost => { s with mon := ⟨.returning, 0, true⟩ }
  | .returning =>
    let clean := if 16000 ≤ intervalNs ∧ intervalNs ≤ 26000 then min 512 (s.mon.clean + 1) else 0
    { s with mon := ⟨.returning, clean, true⟩ }

/-- AFS_EDGE (R192). -/
def execAfsEdge (intervalNs : Nat) (s : State) : Host.Outcome State Fault Refusal := outside (afsEdge intervalNs) s

end Sys2Proof.Machine
end

