-- ==== Sys2Proof/Machine/TunerRows.lean ====
section
/-! DEFINITION. The rows of the Tuner (chapter 7). -/

namespace Sys2Proof.Machine

/-- The no-signal timer expires (R126): the estimator is cleared, filters and armed flag are kept. -/
def noSignal (s : State) : State :=
  if s.tuner.noSignal then
    let s1 := onTuner clearEstimator s
    if s.tuner.state = .silent then s1 else raise .tuner s1
  else s

/-- NO_SIGNAL_TIMER_EXPIRY (R126). -/
def execNoSignalTimerExpiry (s : State) : Host.Outcome State Fault Refusal := outside noSignal s

/-- PUBLICATION_TIMER_EXPIRY (R129): the timer reloads; a state other than SILENT makes a TUNER notice pending. -/
def execPublicationTimerExpiry (s : State) : Host.Outcome State Fault Refusal :=
  outside (fun x => if x.tuner.publish ∧ x.tuner.state ≠ .silent then raise .tuner x else x) s

/-- TUNER_STATUS (R130). -/
def execTunerStatus (p : Pkt) (s : State) : Host.Outcome State Fault Refusal :=
  statusRequest p 0x09 tunerStatusContent s

/-- TUNER_MODE (R118): answered with the mode in force after it. -/
def tunerModeRequest (l : Fin 4) (mode : Nat) (s : State) : State :=
  match tunerModeOf mode with
  | some m => answer l .ok [byte (tunerModeCode m)] (setTunerMode m s)
  | none => refuse l .badArg s

/-- TUNER_MODE (R118). -/
def execTunerMode (p : Pkt) (mode : Nat) (s : State) : Host.Outcome State Fault Refusal :=
  request p 0x10 3 (tunerModeRequest p.link mode) s

/-- The source item (R119): a different source clears the detector and the estimator. -/
def tunerSource (l : Fin 4) (source : Nat) (s : State) : State :=
  if 1 < source then refuse l .badArg s
  else
    let b := source == 1
    answer l .ok [] (if b = s.tuner.sourceB then s else onTuner (fun t => { t with sourceB := b }) (clearTuner s))

/-- TUNER_SET source (R119). -/
def execTunerSetSource (p : Pkt) (source : Nat) (s : State) : Host.Outcome State Fault Refusal :=
  request p 0x11 3 (tunerSource p.link source) s

/-- The reference item (R119): clamped; the reading is formed again. -/
def tunerReference (l : Fin 4) (v : Nat) (s : State) : State :=
  let r := clampNat 4300 4500 v
  answer l (okOr (decide (r ≠ v))) [] (onTuner (fun t => renewReading { t with reference := r }) s)

/-- TUNER_SET reference (R119). -/
def execTunerSetReference (p : Pkt) (v : Nat) (s : State) : Host.Outcome State Fault Refusal :=
  request p 0x11 3 (tunerReference p.link v) s

/-- The hysteresis item (R119): clamped; the armed flag is kept. -/
def tunerHysteresis (l : Fin 4) (v : Nat) (s : State) : State :=
  let k := clampNat 6 12 v
  answer l (okOr (decide (k ≠ v))) [] (onTuner (fun t => { t with exponent := k }) s)

/-- TUNER_SET hysteresis exponent (R119). -/
def execTunerSetHysteresis (p : Pkt) (v : Nat) (s : State) : Host.Outcome State Fault Refusal :=
  request p 0x11 3 (tunerHysteresis p.link v) s

/-- The reading kind item (R119): the reading is formed again. Beside CHROMATIC the string set byte is not read (log 53). -/
def tunerReadingKind (l : Fin 4) (kind set : Nat) (s : State) : State :=
  if 1 < kind ∨ (kind = 1 ∧ 3 < set) then refuse l .badArg s
  else answer l .ok [] (onTuner (fun t => renewReading { t with stringSet := if kind = 1 then some set else none }) s)

/-- TUNER_SET reading kind (R119). -/
def execTunerSetReadingKind (p : Pkt) (kind set : Nat) (s : State) : Host.Outcome State Fault Refusal :=
  request p 0x11 3 (tunerReadingKind p.link kind set) s

/-- The string sets after a change; the reading is formed again where the set in use changed. -/
def takeStrings (set : Nat) (l : List TString) (t : Tuner) : Tuner :=
  let t1 := { t with strings := t.strings.set set l }
  if t.stringSet = some set then renewReading t1 else t1

/-- The string item (R119): replace, append or REMOVE (note FFh). Beside REMOVE the offset is not read (log 53); a set above 3
is refused BAD_ARG (log 30). -/
def tunerString (l : Fin 4) (set index note : Nat) (offset : Int) (s : State) : State :=
  let cur := s.tuner.strings.getD set []
  if 3 < set ∨ 7 < index then refuse l .badArg s
  else if note = 255 then
    if index < cur.length then answer l .ok [] (onTuner (takeStrings set (cur.eraseIdx index)) s) else refuse l .badArg s
  else
    let x : TString := clampString ⟨note, offset⟩
    let st := okOr (decide (x ≠ ⟨note, offset⟩))
    if index < cur.length then answer l st [] (onTuner (takeStrings set (cur.set index x)) s)
    else if index = cur.length ∧ cur.length < 8 then answer l st [] (onTuner (takeStrings set (cur ++ [x])) s)
    else refuse l .badArg s

/-- TUNER_SET string (R119). -/
def execTunerSetString (p : Pkt) (set index note : Nat) (offset : Int) (s : State) : Host.Outcome State Fault Refusal :=
  request p 0x11 3 (tunerString p.link set index note offset) s

end Sys2Proof.Machine
end

