-- ==== Sys2Proof/Machine/Dispatch.lean ====
section
/-! DEFINITION. The dispatch: one arm for each command of the table, in the table's order. -/

namespace Sys2Proof.Machine

/-- The effect of a command on everything but the queue. -/
def exec (i : Instr) (s : State) : Host.Outcome State Fault Refusal :=
  match i with
  | .powerOn => Sys2Proof.Machine.execPowerOn s
  | .resetAssert lowUs => Sys2Proof.Machine.execResetAssert lowUs s
  | .resetRelease => Sys2Proof.Machine.execResetRelease s
  | .restartEntry => Sys2Proof.Machine.execRestartEntry s
  | .setupReadCompletion => Sys2Proof.Machine.execSetupReadCompletion s
  | .imageCopyCompletion => Sys2Proof.Machine.execImageCopyCompletion s
  | .startPresetReadCompletion => Sys2Proof.Machine.execStartPresetReadCompletion s
  | .frameBoundary c => Sys2Proof.Machine.execFrameBoundary c s
  | .gateClosed pos => Sys2Proof.Machine.execGateClosed pos s
  | .bypassWeightZero pos => Sys2Proof.Machine.execBypassWeightZero pos s
  | .resolveFadeEnd pos => Sys2Proof.Machine.execResolveFadeEnd pos s
  | .crossFadeEnd place => Sys2Proof.Machine.execCrossFadeEnd place s
  | .tailTimerExpiry l => Sys2Proof.Machine.execTailTimerExpiry l s
  | .laneQuiet l => Sys2Proof.Machine.execLaneQuiet l s
  | .cutFadeEnd l => Sys2Proof.Machine.execCutFadeEnd l s
  | .chainGainAtRest => Sys2Proof.Machine.execChainGainAtRest s
  | .watchdogExpiry => Sys2Proof.Machine.execWatchdogExpiry s
  | .clockReturned => Sys2Proof.Machine.execClockReturned s
  | .fillCompletion area => Sys2Proof.Machine.execFillCompletion area s
  | .lapseTimerExpiry link => Sys2Proof.Machine.execLapseTimerExpiry link s
  | .lineJoin => Sys2Proof.Machine.execLineJoin s
  | .storeReadStart => Sys2Proof.Machine.execStoreReadStart s
  | .presetReadCompletion => Sys2Proof.Machine.execPresetReadCompletion s
  | .presetStoreCompletion => Sys2Proof.Machine.execPresetStoreCompletion s
  | .presetEraseCompletion => Sys2Proof.Machine.execPresetEraseCompletion s
  | .imageStoreCompletion => Sys2Proof.Machine.execImageStoreCompletion s
  | .setupStoreCompletion => Sys2Proof.Machine.execSetupStoreCompletion s
  | .deferredLaneMove => Sys2Proof.Machine.execDeferredLaneMove s
  | .swap => Sys2Proof.Machine.execSwap s
  | .switchPromotion => Sys2Proof.Machine.execSwitchPromotion s
  | .guardTimerExpiry => Sys2Proof.Machine.execGuardTimerExpiry s
  | .noSignalTimerExpiry => Sys2Proof.Machine.execNoSignalTimerExpiry s
  | .publicationTimerExpiry => Sys2Proof.Machine.execPublicationTimerExpiry s
  | .beatEvent => Sys2Proof.Machine.execBeatEvent s
  | .tclkPulse => Sys2Proof.Machine.execTclkPulse s
  | .pulseTimerExpiry => Sys2Proof.Machine.execPulseTimerExpiry s
  | .satGrant => Sys2Proof.Machine.execSatGrant s
  | .writeAnswered => Sys2Proof.Machine.execWriteAnswered s
  | .statusWriteAnswered => Sys2Proof.Machine.execStatusWriteAnswered s
  | .pollAnswered status => Sys2Proof.Machine.execPollAnswered status s
  | .passThroughAnswered data => Sys2Proof.Machine.execPassThroughAnswered data s
  | .transactionFailed => Sys2Proof.Machine.execTransactionFailed s
  | .deferredHide sat => Sys2Proof.Machine.execDeferredHide sat s
  | .pollTimerExpiry => Sys2Proof.Machine.execPollTimerExpiry s
  | .refreshTimerExpiry => Sys2Proof.Machine.execRefreshTimerExpiry s
  | .linkGapTimeout link before after => Sys2Proof.Machine.execLinkGapTimeout link before after s
  | .framingError link before => Sys2Proof.Machine.execFramingError link before s
  | .checkByteFailure link bytes => Sys2Proof.Machine.execCheckByteFailure link bytes s
  | .unknownKind link kind => Sys2Proof.Machine.execUnknownKind link kind s
  | .linkBreak link => Sys2Proof.Machine.execLinkBreak link s
  | .breakLineHigh link => Sys2Proof.Machine.execBreakLineHigh link s
  | .transmitEnd link => Sys2Proof.Machine.execTransmitEnd link s
  | .identify p => Sys2Proof.Machine.execIdentify p s
  | .getStatus p => Sys2Proof.Machine.execGetStatus p s
  | .linkStatus p => Sys2Proof.Machine.execLinkStatus p s
  | .subscribe p mask => Sys2Proof.Machine.execSubscribe p mask s
  | .areaStatus p => Sys2Proof.Machine.execAreaStatus p s
  | .mapStatus p => Sys2Proof.Machine.execMapStatus p s
  | .bufferStatus p => Sys2Proof.Machine.execBufferStatus p s
  | .switchStatus p => Sys2Proof.Machine.execSwitchStatus p s
  | .tunerStatus p => Sys2Proof.Machine.execTunerStatus p s
  | .showStatus p => Sys2Proof.Machine.execShowStatus p s
  | .cueList p start => Sys2Proof.Machine.execCueList p start s
  | .satStatus p sat => Sys2Proof.Machine.execSatStatus p sat s
  | .readPreset p preset chunk => Sys2Proof.Machine.execReadPreset p preset chunk s
  | .readBuffer p source chunk => Sys2Proof.Machine.execReadBuffer p source chunk s
  | .switch p preset scene flags => Sys2Proof.Machine.execSwitch p preset scene flags s
  | .recall p index flags => Sys2Proof.Machine.execRecall p index flags s
  | .dropStash p index => Sys2Proof.Machine.execDropStash p index s
  | .tunerMode p mode => Sys2Proof.Machine.execTunerMode p mode s
  | .tunerSetSource p source => Sys2Proof.Machine.execTunerSetSource p source s
  | .tunerSetReference p tenthsHz => Sys2Proof.Machine.execTunerSetReference p tenthsHz s
  | .tunerSetHysteresis p exponent => Sys2Proof.Machine.execTunerSetHysteresis p exponent s
  | .tunerSetReadingKind p kind set => Sys2Proof.Machine.execTunerSetReadingKind p kind set s
  | .tunerSetString p set index note offset => Sys2Proof.Machine.execTunerSetString p set index note offset s
  | .tap p => Sys2Proof.Machine.execTap p s
  | .control p source value => Sys2Proof.Machine.execControl p source value s
  | .tempoSet p value => Sys2Proof.Machine.execTempoSet p value s
  | .setParam p expected kind pos index value => Sys2Proof.Machine.execSetParam p expected kind pos index value s
  | .sceneEditSetOverride p expected scene target value => Sys2Proof.Machine.execSceneEditSetOverride p expected scene target value s
  | .sceneEditRemoveOverride p expected scene target => Sys2Proof.Machine.execSceneEditRemoveOverride p expected scene target s
  | .sceneEditSetLevel p expected scene level => Sys2Proof.Machine.execSceneEditSetLevel p expected scene level s
  | .sceneEditSetRamp p expected scene length => Sys2Proof.Machine.execSceneEditSetRamp p expected scene length s
  | .sceneEditSetName p expected scene name => Sys2Proof.Machine.execSceneEditSetName p expected scene name s
  | .sceneEditAdd p expected scene => Sys2Proof.Machine.execSceneEditAdd p expected scene s
  | .sceneEditRemove p expected scene => Sys2Proof.Machine.execSceneEditRemove p expected scene s
  | .presetEditName p expected name => Sys2Proof.Machine.execPresetEditName p expected name s
  | .presetEditFadeOut p expected length => Sys2Proof.Machine.execPresetEditFadeOut p expected length s
  | .presetEditFadeIn p expected length => Sys2Proof.Machine.execPresetEditFadeIn p expected length s
  | .presetEditTempo p expected tempo => Sys2Proof.Machine.execPresetEditTempo p expected tempo s
  | .ampDataShaperRun p expected pos start points => Sys2Proof.Machine.execAmpDataShaperRun p expected pos start points s
  | .ampDataToneSet p expected pos filter knobSet b0 b1 b2 a1 a2 => Sys2Proof.Machine.execAmpDataToneSet p expected pos filter knobSet b0 b1 b2 a1 a2 s
  | .satImageSet p expected sat reg value => Sys2Proof.Machine.execSatImageSet p expected sat reg value s
  | .satImageClear p expected sat reg => Sys2Proof.Machine.execSatImageClear p expected sat reg s
  | .mapEditAdd p expected entry => Sys2Proof.Machine.execMapEditAdd p expected entry s
  | .mapEditReplace p expected number entry => Sys2Proof.Machine.execMapEditReplace p expected number entry s
  | .mapEditRemove p expected number => Sys2Proof.Machine.execMapEditRemove p expected number s
  | .chainEditInsert p expected pos stype lclass policy => Sys2Proof.Machine.execChainEditInsert p expected pos stype lclass policy s
  | .chainEditRemove p expected pos => Sys2Proof.Machine.execChainEditRemove p expected pos s
  | .chainEditMove p expected src dst => Sys2Proof.Machine.execChainEditMove p expected src dst s
  | .chainEditRetype p expected pos stype lclass policy => Sys2Proof.Machine.execChainEditRetype p expected pos stype lclass policy s
  | .chainEditSetClass p expected pos lclass => Sys2Proof.Machine.execChainEditSetClass p expected pos lclass s
  | .chainEditSetPolicy p expected pos policy => Sys2Proof.Machine.execChainEditSetPolicy p expected pos policy s
  | .chainEditRebuild p expected => Sys2Proof.Machine.execChainEditRebuild p expected s
  | .storePreset p preset source => Sys2Proof.Machine.execStorePreset p preset source s
  | .erasePreset p preset => Sys2Proof.Machine.execErasePreset p preset s
  | .showStart p => Sys2Proof.Machine.execShowStart p s
  | .showHold p => Sys2Proof.Machine.execShowHold p s
  | .showContinue p => Sys2Proof.Machine.execShowContinue p s
  | .showStop p => Sys2Proof.Machine.execShowStop p s
  | .showLocate p bar beat chase => Sys2Proof.Machine.execShowLocate p bar beat chase s
  | .cueInsert p bar beat action args => Sys2Proof.Machine.execCueInsert p bar beat action args s
  | .cueDelete p number bar beat => Sys2Proof.Machine.execCueDelete p number bar beat s
  | .satWrite p sat reg value => Sys2Proof.Machine.execSatWrite p sat reg value s
  | .satRead p sat reg => Sys2Proof.Machine.execSatRead p sat reg s
  | .satClear p sat => Sys2Proof.Machine.execSatClear p sat s
  | .tempoSource p source => Sys2Proof.Machine.execTempoSource p source s
  | .tempoLock p lock => Sys2Proof.Machine.execTempoLock p lock s
  | .clockSetupDefaultTempo p value => Sys2Proof.Machine.execClockSetupDefaultTempo p value s
  | .clockSetupPulsesPerBeat p value => Sys2Proof.Machine.execClockSetupPulsesPerBeat p value s
  | .clockSetupBeatsPerBar p value => Sys2Proof.Machine.execClockSetupBeatsPerBar p value s
  | .panic p => Sys2Proof.Machine.execPanic p s
  | .unpanic p => Sys2Proof.Machine.execUnpanic p s
  | .satSetupHoldAuto p value => Sys2Proof.Machine.execSatSetupHoldAuto p value s
  | .satSetupRefresh p value => Sys2Proof.Machine.execSatSetupRefresh p value s
  | .satSetupHide p sat value => Sys2Proof.Machine.execSatSetupHide p sat value s
  | .areaJoin p taps => Sys2Proof.Machine.execAreaJoin p taps s
  | .areaWrite p words => Sys2Proof.Machine.execAreaWrite p words s
  | .areaUnjoin p => Sys2Proof.Machine.execAreaUnjoin p s
  | .imageSave p slot => Sys2Proof.Machine.execImageSave p slot s
  | .setupSave p => Sys2Proof.Machine.execSetupSave p s
  | .setupSetMasterLevel p level => Sys2Proof.Machine.execSetupSetMasterLevel p level s
  | .setupSetStartPreset p preset scene => Sys2Proof.Machine.execSetupSetStartPreset p preset scene s
  | .restart p => Sys2Proof.Machine.execRestart p s
  | .seatSet p link seat => Sys2Proof.Machine.execSeatSet p link seat s
  | .accessSet p cls tier => Sys2Proof.Machine.execAccessSet p cls tier s
  | .afsEdge intervalNs => Sys2Proof.Machine.execAfsEdge intervalNs s
  | .powerLoss => Sys2Proof.Machine.execPowerLoss s
  | .invalidLengthByte link length => Sys2Proof.Machine.execInvalidLengthByte link length s

end Sys2Proof.Machine
end

