-- ==== Sys2Proof/Safety.lean ====
section
/-! DEFINITION. What counts as a safe run, in the terms the claims use: runs, steps that do not stop, and the invariants
that a sound state of the part has. -/

namespace Sys2Proof.Machine

/-- `t` is a state that some run of steps, each with commands queued in between, reaches from `s`: a step, or a command
joining the end of the queue. -/
inductive Reaches (s : State) : State → Prop
  | start : Reaches s s
  | step {t u : State} : Reaches s t → step t = .next u → Reaches s u
  | send {t : State} (c : Instr) : Reaches s t → Reaches s { t with pending := t.pending ++ [c] }

/-- A step that answers a next state. -/
def Moves (s : State) : Prop := ∃ t, step s = .next t

/-- The DRAM words are in their canonical form. -/
def dramOk (s : State) : Bool := dramWf s.area.dram

/-- A seat table: four seats, one of them at tier SETUP (R175). -/
def seatsOk (l : List Seat) : Bool := l.length == 4 && l.any (·.tier == 3)

/-- The seats a stored setup record holds. -/
def storedSeatsOk : StoredSetup → Bool
  | .good v => seatsOk v.seats
  | _ => true

/-- The seats that a setup store in flight holds. -/
def storeOpOk : Option StoreOp → Bool
  | some (.setupStore _ v) => seatsOk v.seats
  | _ => true

/-- Some seat holds tier SETUP, now and in every setup that can become the seat table (R175, R176). -/
def seatInv (s : State) : Bool :=
  seatsOk (s.link.links.map (·.seat)) && storedSeatsOk s.store.setup && storeOpOk s.store.op

/-- A satellite is IN_STEP only with an empty pending set (R156). -/
def satOk (x : Sat) : Bool := x.state != .inStep || noMarks x

/-- Every satellite meets R156's law. -/
def satInv (s : State) : Bool := s.sat.sats.all satOk

/-- The stash holds at most four entries, and no two of one preset number (R89). -/
def stashInv (s : State) : Bool :=
  decide (s.scene.stash.length ≤ 4) && decide (s.scene.stash.map (·.preset)).Nodup

/-- Each held control value lies in 0 to 1023 (R57). -/
def controlInv (s : State) : Bool := s.scene.controls.length == 16 && s.scene.controls.all fun v => decide (v ≤ 1023)

/-- The rate due at the end of the packet in transmission is the seat's, unless the reply to the link's own SEAT_SET waits
(R176). -/
def rateDue (x : Link) : Prop := ownReplyWaits x = true ∨ x.nextRate = x.seat.rate

/-! ## Requests, as the claims speak of them -/

/-- The access class of a request kind (R178). -/
def requestClass (kind : Nat) : Nat :=
  if kind ≤ 0x0C then 0 else if kind ≤ 0x0E then 1 else if kind ≤ 0x0F then 2 else if kind ≤ 0x11 then 3
  else if kind ≤ 0x13 then 4 else if kind ≤ 0x14 then 5 else if kind ≤ 0x15 then 6 else if kind ≤ 0x16 then 7
  else if kind ≤ 0x1C then 8 else if kind ≤ 0x1D then 9 else if kind ≤ 0x1F then 10 else if kind ≤ 0x26 then 11
  else if kind ≤ 0x29 then 12 else if kind ≤ 0x2C then 13 else if kind ≤ 0x2D then 14 else if kind ≤ 0x2E then 15
  else if kind ≤ 0x32 then 16 else if kind ≤ 0x34 then 17 else if kind ≤ 0x35 then 18 else if kind ≤ 0x37 then 19
  else 20

/-- An exact request of access class `cls` that passes every check of R172 on its way to its owner: the part runs, the
link's receiver does not wait after a break, no request of the link is outstanding, start-up has reached RUNNING, and the
tier suffices; all of it after what is due has been done (`prelude`). -/
structure Ready (p : Pkt) (cls : Nat) (s : State) : Prop where
  live  : live s = true
  form  : p.form = .exact
  four  : (prelude s).link.links.length = 4
  hears : (linkOf (prelude s) p.link).rx.st ≠ .waitHigh
  free  : (linkOf (prelude s) p.link).outstanding = none
  runs  : running (prelude s) = true
  tier  : classTier (prelude s) cls ≤ (linkOf (prelude s) p.link).seat.tier

/-- The state that the owner of a request of `kind` acts on: what was due is done, the link's receiver is in HUNT, its
request outstanding (R170, R172). -/
def heard (p : Pkt) (kind : Nat) (s : State) : State :=
  onLinkAt p.link (fun r => { r with rx := rxHunt, outstanding := some ⟨kind, false⟩ }) (prelude s)

/-- A link's reply place is filled with the reply to its request of `kind` (R173, R195); all else as in `x`. -/
def filled (p : Pkt) (kind : Nat) (st : Status) (content : List Byte) (x : State) : State :=
  onLinkAt p.link (fun r =>
    { r with places := r.places ++ [⟨.plain, ⟨replyKind kind, statusCode st :: content⟩⟩] }) x

/-- A TAP or CONTROL that R181 does not discard: exact, of class "control surface", heard by a link whose tier suffices,
after start-up. -/
structure Taken (p : Pkt) (s : State) : Prop where
  live  : live s = true
  form  : p.form = .exact
  hears : (linkOf (prelude s) p.link).rx.st ≠ .waitHigh
  runs  : running (prelude s) = true
  tier  : classTier (prelude s) 4 ≤ (linkOf (prelude s) p.link).seat.tier

/-- The state a TAP or CONTROL acts on: what was due is done, the link's receiver is in HUNT; no request begins. -/
def passed (p : Pkt) (s : State) : State := onLinkAt p.link (fun r => { r with rx := rxHunt }) (prelude s)

/-- An edit that passes R172's checks and names the buffer's preset number (R80), with the buffer's record. -/
structure EditReady (p : Pkt) (cls expected : Nat) (r : Record) (s : State) : Prop extends Ready p cls s where
  same   : presetOf expected = (prelude s).scene.buffer.preset
  record : (prelude s).scene.buffer.record = some r

/-- What every taken edit leaves in the buffer besides its own change (R79, R80): the next sequence number and the dirty
mark. -/
def edited (r : Record) (x : State) : State :=
  { x with scene := { x.scene with
      counter := x.scene.counter + 1
      buffer  := { x.scene.buffer with record := some r, seq := x.scene.counter + 1, dirty := true } } }

/-- What handing a change to the Tone Engine does (R2, R3): it waits for the next boundary; while the audio clock is lost it
is taken up at once. -/
def handedOver (c : Change) (x : State) : State :=
  if x.mon.state = .present then { x with tone := { x.tone with changes := x.tone.changes ++ [c] } } else applyChange true c x

/-- A push to the Satellite Controller (R155, R156): the desired value, and the mark of its class, where URGENT replaces any and
ROUTINE keeps URGENT; an IN_STEP satellite becomes BEHIND. -/
def pushed (cls : Mark) (i r v : Nat) (z : State) : State :=
  let at_ := fun (f : Sat → Sat) (x : State) => { x with sat := { x.sat with sats := modAt x.sat.sats i f } }
  let x := at_ (fun a => { a with
    desired := a.desired.set r v
    marks := modAt a.marks r fun m => if cls = .urgent ∨ m = .urgent then .urgent else .routine }) z
  if (satOf z i).state = .inStep then raise .satellite (at_ (fun a => { a with state := .behind }) x) else x

/-- What handing an effective value to its owner does (R63 to R65, R88, R108, R155, R156): a parameter or bypass at the live
position that holds the instance; the chain level to the Switch Engine, and to the gain but in FADING_OUT; a satellite
register as desired value with a ROUTINE mark, which makes an IN_STEP satellite BEHIND. -/
def handed (t : Target) (v : Int) (z : State) : State :=
  let change := handedOver
  match t with
  | .param p i => (match liveOf z p with | some q => change (.param q i v) z | none => z)
  | .bypass p => (match liveOf z p with | some q => change (.bypass q (v == 1)) z | none => z)
  | .level =>
    let x : State := { z with sw := { z.sw with level := v } }
    (match engine z with
    | none => change (.gainTarget .chain v 8) x
    | some .loading => change (.gainTarget .chain v 8) x
    | some .fadingOut => x
    | some .fadingIn => change (.gainTarget .chain v (gainRemaining z)) x
    | some .ramping => change (.gainTarget .chain v (gainRemaining z)) x)
  | .sat i r => pushed .routine i r v.toNat z

/-- The effective value of a target that no map entry drives (R62). -/
def undriven (r : Record) (scene : Nat) (t : Target) : Option Int :=
  match overrideOf (sceneOf r scene) t with
  | some v => some (overrideValue t v)
  | none => baseValue r scene t

/-- Hand a value on where there is one and it differs from the one in force before (R62). -/
def handedNew (t : Target) (before after : Option Int) (z : State) : State :=
  match after with
  | some v => if before = some v then z else handed t v z
  | none => z

/-- What the start of a SCENE switch hands of one target (R66, R109): nothing of a driven one; a satellite register as URGENT
where its new effective value differs from its desired value; any other value where it changed. -/
def sceneHanded (r : Record) (old new : Nat) (z : State) (t : Target) : State :=
  if r.map.any (·.target == t) then z else
  match t with
  | .sat i g =>
    (match undriven r new t with
    | some v => if (satOf z i).desired.getD g 0 = v.toNat then z else pushed .urgent i g v.toNat z
    | none => z)
  | _ => handedNew t (undriven r old t) (undriven r new t) z

/-- A switch with EXIT_TUNER takes the Tuner to OFF (R109, R118): detector and estimator cleared, publication stopped; out of
MUTE the tuner holder is released, with the rise over 16 frames where it was the last. -/
def tunerLeft (exits : Bool) (z : State) : State :=
  let h := z.tone.holders
  let u : State := { z with tuner := { z.tuner with
    mode := .off, det := {}, ring := [], outliers := 0, prevStamp := none, reading := none, noSignal := false, state := .silent
    publish := false } }
  let x : State := { u with tone := { u.tone with holders := { h with tuner := false } } }
  if exits = false ∨ z.tuner.mode = .off then z
  else raise .tuner
    (if z.tuner.mode ≠ .mute ∨ h.tuner = false then u
     else if h.panic || h.startup || h.clock then x else handedOver (.muteRise 16) x)

/-- A SCENE switch to scene `k` of the record begins (R109): the buffer's scene index; the overrides of the new scene in their
order, then those of the old one that revert; the effective chain level with the new scene's ramp length, a driven level being
kept; the Tuner's exit; the SCENE notice. -/
def sceneStarts (q : SwRequest) (k : Nat) (r : Record) (z : State) : State :=
  let old := z.scene.buffer.scene
  let overridden := fun (j : Nat) => (sceneOf r j).overrides.map (·.target)
  let targets := overridden k ++ (overridden old).filter fun t => decide (t ∉ overridden k)
  let began : State := { z with
    sw := { z.sw with inflight := some ⟨q, .scene, .ramping, none, [], [], [], .complete, [], false⟩ }
    scene := { z.scene with buffer := { z.scene.buffer with scene := k } }
    tone := { z.tone with chainRested := false } }
  let w := targets.foldl (sceneHanded r old k) began
  let level := (match r.map.findIdx? (·.target == .level) with
    | some n => z.scene.driven.getD n 0
    | none => (undriven r k .level).getD 0)
  raise .scene (tunerLeft q.exitTuner
    (handedOver (.gainTarget .chain level (sceneOf r k).ramp) { w with sw := { w.sw with level := level } }))

/-- A switch enters FADING_OUT with the chain it will build (R101 to R103, R112): the reservation is in force; with the audio
clock present the chain gain's fade, the moves of the admitted candidates with an EMPTY lane and the evictions are handed in
this order, while the others wait for a lane; with the clock lost the chain gain is at rest at 0, nothing moves and no lane is
evicted. The line join is made where the FREE areas suffice, else it waits. -/
def fadesOut (f : Inflight) (chain : List SlotRec) (len : Nat) (x : State) : State :=
  let cost := chainCost chain
  let need := chainNeed chain
  let here : Bool := x.mon.state == .present
  let cands := if here then tailCandidates x else []
  let e := if here then evictions x cost need cands else []
  let adm := admitted x cost need e cands
  let pairs := adm.zip (emptyLanes x)
  let j := joinLines 0 chain x.area
  let fits : Bool := decide (need ≤ freeAreas x.area)
  { x with
    area := if fits then j.2 else x.area
    sw := { x.sw with
      reservation := true, laneReports := []
      inflight := some { f with
        phase := .fadingOut, evicting := e, assigned := pairs.map (·.2), deferred := adm.drop pairs.length, dropped := false
        joined := if fits then j.1 else []
        join := if fits then (if j.1 = [] then .complete else .filling) else .waiting } }
    tone :=
      if here then { x.tone with
        chainRested := false
        changes := x.tone.changes ++ .gainTarget .chain 0 len ::
          (pairs.map (fun p => .move p.1 (Fin.ofNat 4 p.2) len) ++ e.map fun l => .evict (Fin.ofNat 4 l)) }
      else { x.tone with chainRested := true, chainGain := .rest 0 } }

/-! ## A switch's origin, its beginning and its end -/

/-- The outcome of a request is told to its origin (R97, R149). A link's outcome record becomes the request's target with the
outcome (of a stash copy the entry's preset and scene, of a REBUILD the buffer's: log 22), with a SWITCH_OUTCOME notice on that link
where `notify`. A cue that is still in the list gets the outcome in its field, with a CUE notice; for a deleted cue it is dropped. -/
def told (q : SwRequest) (o : SwOutcome) (notify : Bool) (x : State) : State :=
  match q.origin with
  | .link l =>
    let named : Option Nat × Nat := (match q.target with
      | .preset n k => (some n, k)
      | .stash e => (e.preset, e.scene)
      | .rebuild => (x.scene.buffer.preset, x.scene.buffer.scene))
    let y : State := { x with sw := { x.sw with outcomes := x.sw.outcomes.set l.val ⟨named.1, some named.2, o⟩ } }
    if notify then raiseOn .switchOutcome l y else y
  | .cue t =>
    if ∃ c ∈ x.clk.cues, c.tag = t then
      raise .cue { x with clk := { x.clk with cues := x.clk.cues.map fun c => if c.tag = t then { c with outcome := o } else c } }
    else x

/-- The guard after a completion (R95): a cue's switch with a guard above 0 opens or renews the window with its precedence; a
cue's switch with guard 0 and a link's switch leave it. -/
def guardAfter (q : SwRequest) (g : Option (Nat × Nat)) : Option (Nat × Nat) :=
  match q.origin with
  | .cue _ => if q.guard = 0 then g else some (q.precedence, q.guard)
  | .link _ => g

/-- A switch fails (R98 to R100, R115): it is removed, its origin is told, SCENE is pending; nothing live changes, and no guard
window opens. -/
def switchFailed (q : SwRequest) (o : SwOutcome) (x : State) : State :=
  raise .scene (told q o true { x with
    tone := { x.tone with chainRested := false }, sw := { x.sw with inflight := none, laneReports := [] } })

/-- The load of a replaced switch is abandoned (R99): a read that waits is withdrawn, one that runs will be discarded. -/
def loadAbandoned (x : State) : State :=
  { x with store := { x.store with
    waitSwitch := none
    op := (match x.store.op with
      | some (.presetRead (.switch _) n) => some (.presetRead (.switch true) n)
      | o => o) } }

/-- A request of a link or a cue becomes in-flight (R93, R95, R97, R99, R100, R103, R109). A stash copy enters FADING_OUT at once
where the sum of R100 meets its LINE need, else it fails NO_AREA. Another preset, or a RELOAD, loads: its read starts at an idle
store and waits at a busy one. The buffer's preset with another scene is a SCENE switch, to the last scene where there are fewer;
with its own scene it changes nothing but the Tuner where it exits it, and is DONE at once. (A REBUILD does not come this way:
R96.) -/
def begins (q : SwRequest) (x : State) : State :=
  match q.target with
  | .stash e =>
    if chainNeed e.record.chain ≤ admissionSum x then
      fadesOut ⟨q, .preset, .loading, some ⟨e.record, e.preset, e.scene, some e.seq⟩, [], [], [], .waiting, [], false⟩
        e.record.chain e.record.fadeOut x
    else switchFailed q .noArea x
  | .preset n k =>
    if q.reload = true ∨ x.scene.buffer.preset ≠ some n then
      { x with
        sw := { x.sw with inflight := some ⟨q, .preset, .loading, none, [], [], [], .waiting, [], false⟩ }
        store :=
          if storeBusy x then { x.store with waitSwitch := some n }
          else { x.store with op := some (.presetRead (.switch false) n) } }
    else if x.scene.buffer.scene = k then
      (let y := tunerLeft q.exitTuner x
       told q .done false { y with sw := { y.sw with guard := guardAfter q y.sw.guard } })
    else (match x.scene.buffer.record with
      | some r => sceneStarts q (min k (r.scenes.length - 1)) r x
      | none => x)
  | .rebuild => x

/-- What the arbiter does with a request that met no open guard above it (R95 to R97), `x` the state at the request: `gives` is
asked the status of the reply and the state left. -/
structure Arbitrated (q : SwRequest) (x : State) (gives : Status → State → Prop) : Prop where
  guarded : ∀ g ms, x.sw.guard = some (g, ms) → q.precedence < g → gives .guarded x
  idle : (∀ g ms, x.sw.guard = some (g, ms) → g ≤ q.precedence) → x.sw.inflight = none →
    gives .ok (begins q (told q .taken false x))
  replaces : ∀ f, (∀ g ms, x.sw.guard = some (g, ms) → g ≤ q.precedence) → x.sw.inflight = some f → f.phase = .loading →
    f.req.precedence ≤ q.precedence →
    gives .ok (begins q (told q .taken false
      (loadAbandoned (told f.req .superseded true { x with sw := { x.sw with inflight := none } }))))
  waits : ∀ f, (∀ g ms, x.sw.guard = some (g, ms) → g ≤ q.precedence) → x.sw.inflight = some f →
    (f.phase ≠ .loading ∨ q.precedence < f.req.precedence) →
    let pends := fun (y : State) => gives .ok { y with sw := { y.sw with pending := some q } }
    (x.sw.pending = none → pends (told q .taken false x)) ∧
    (∀ w, x.sw.pending = some w → w.precedence ≤ q.precedence → pends (told q .taken false (told w .superseded true x))) ∧
    (∀ w, x.sw.pending = some w → q.precedence < w.precedence → gives .outranked x)

/-! ## What a swap and the first load hand of the new buffer -/

/-- A register that is handed of the buffer in `z` (R106): it has the effective value `v` there, and where `only` holds this differs
from its desired value in `s`. -/
def HandsRegister (only : Prop) (s z : State) (i r : Nat) (v : Int) : Prop :=
  i < 8 ∧ r < 16 ∧ effective z (.sat i r) = some v ∧ (only → (satOf s i).desired.getD r 0 ≠ v.toNat)

/-- From `s` to `z` every register that is handed takes its value as desired value and the mark URGENT, an IN_STEP satellite so
entered becomes BEHIND, and nothing else of the satellites changes (R106, R155, R156). -/
def ImagesPushed (only : Prop) (s z : State) : Prop :=
  z.sat = { s.sat with sats := z.sat.sats } ∧ z.sat.sats.length = s.sat.sats.length ∧
  ∀ i x, s.sat.sats[i]? = some x → ∃ u, z.sat.sats[i]? = some u ∧
    u = { x with desired := u.desired, marks := u.marks, state := u.state } ∧
    u.desired.length = x.desired.length ∧ u.marks.length = x.marks.length ∧
    (x.state = .inStep → (∃ r v, HandsRegister only s z i r v) → u.state = .behind) ∧
    (x.state ≠ .inStep ∨ (∀ r v, ¬ HandsRegister only s z i r v) → u.state = x.state) ∧
    (∀ r v, HandsRegister only s z i r v → (r < x.desired.length → u.desired[r]? = some v.toNat) ∧
      (r < x.marks.length → u.marks[r]? = some .urgent)) ∧
    (∀ r, (∀ v, ¬ HandsRegister only s z i r v) → u.desired[r]? = x.desired[r]? ∧ u.marks[r]? = x.marks[r]?)

/-- From `s` to `z` the notices of `flags` become pending on every link whose mask marks them, with SATELLITE where an IN_STEP
satellite fell behind; nothing else of the links changes (R115, R156, R182). -/
def FlagsRaised (only : Prop) (flags : BitVec 16) (s z : State) : Prop :=
  ∃ fell : Bool,
    (fell = true ↔ ∃ i x r v, s.sat.sats[i]? = some x ∧ x.state = .inStep ∧ HandsRegister only s z i r v) ∧
    (let all := flags ||| (if fell then noticeBit .satellite else 0)
     z.link = { s.link with links := s.link.links.map fun l => { l with flags := l.flags ||| (l.seat.mask &&& all) } })

/-- What the first load of `l` leaves in `z` of the state `s` before it (R28, R61, R79, R106, R114, R133, R155, R191), `joined` being
the areas of its line join. The present clock has the changes wait; without it they are taken up at once. The tempo is ignored under
lock and EXTERNAL and ends the tap series. The start-up holder is released; only the last holder lets the factor rise. -/
structure FirstLoaded (l : Loaded) (joined : List (Nat × List Nat)) (s z : State) : Prop where
  frame : z = { s with
    startup := { s.startup with phase := .running, load := none, joined := [] }
    scene := z.scene, sw := z.sw, tone := z.tone, area := z.area, clk := z.clk, sat := z.sat, link := z.link }
  scene : z.scene = { s.scene with
    counter := s.scene.counter + 1
    buffer := ⟨l.preset, min l.scene (l.record.scenes.length - 1), some l.record, s.scene.counter + 1, l.stashSeq.isSome⟩
    driven := l.record.map.map (evalEntry s.scene.controls l.record.chain) }
  level : z.sw = { s.sw with level := effectiveLevel z }
  sat : ImagesPushed False s z
  link : FlagsRaised False (noticeBit .scene) s z
  here : present s = true →
    let ignored := s.clk.lock = true ∨ s.clk.source = .external
    let endTap := s.clk.source = .tap
    z.area = s.area ∧
    z.tone = { s.tone with
      holders := { s.tone.holders with startup := false }
      changes := s.tone.changes ++ ([.rebuild (effectiveInsts joined z), .gainSet .chain (effectiveLevel z)] ++
        if s.tone.holders = ⟨false, false, true, false⟩ then [.muteRise 16] else []) } ∧
    (l.record.tempo = none ∨ ignored → z.clk = s.clk) ∧
    (∀ t, l.record.tempo = some t → ¬ ignored → z.clk = { s.clk with
      tempo := clampNat 300 3000 t, tapLast := if endTap then none else s.clk.tapLast
      taps := if endTap then [] else s.clk.taps })
  lost : present s = false →
    let ignored := s.clk.lock = true ∨ s.clk.source = .external
    let built := applyChange true (.rebuild (effectiveInsts joined z)) s
    let w : State := (match l.record.tempo with
      | some t => if ignored then built else commandTempo t built
      | none => built)
    z.area = w.area ∧ z.clk = w.clk ∧ z.tone = { w.tone with
      holders := { s.tone.holders with startup := false }, chainGain := .rest (effectiveLevel z), chainRested := true
      mute := if s.tone.holders = (⟨false, false, true, false⟩ : Holders) then .rest 32768 else w.tone.mute }

/-- A record with another chain, its overrides and map entries carried along by `f`, or deleted (R87). -/
def renumbered (f : Target → Option Target) (chain : List SlotRec) (r : Record) : Record :=
  { r with
    chain := chain
    scenes := r.scenes.map fun c => { c with
      overrides := c.overrides.filterMap fun o => (f o.target).map fun t => { o with target := t } }
    map := r.map.filterMap fun e => (f e.target).map fun t => { e with target := t } }

end Sys2Proof.Machine
end

