-- ==== Sys2Proof/WellFormed.lean ====
section
/-! DEFINITION. When a command's operands are ones the hardware can present: fields that fit their bytes in a packet
(12.7), 32 samples of 24 bits for each captured channel (R1, R4), positions of a chain (R5), bytes that fit the event. It
says nothing about whether the owner takes the command. -/

namespace Sys2Proof

/-- A field of one byte. -/
def byteOk (n : Nat) : Bool := decide (n < 256)
/-- A field of two bytes. -/
def wordOk (n : Nat) : Bool := decide (n < 65536)
/-- A signed field of two bytes. -/
def signed16Ok (x : Int) : Bool := decide (-32768 ≤ x) && decide (x ≤ 32767)
/-- A signed field of four bytes. -/
def signed32Ok (x : Int) : Bool := decide (-2147483648 ≤ x) && decide (x ≤ 2147483647)
/-- A port sample (R4). -/
def sample24 (x : Int) : Bool := decide (-8388608 ≤ x) && decide (x ≤ 8388607)
/-- The three bytes of a target. -/
def targetOk (t : RawTarget) : Bool := byteOk t.kind && byteOk t.a && byteOk t.b
/-- The 22 bytes of a map entry. -/
def entryOk (e : RawEntry) : Bool := byteOk e.source && targetOk e.target && (e.points.length == 9) && e.points.all wordOk
/-- The six bytes of a seat. -/
def seatOk (x : RawSeat) : Bool :=
  byteOk x.tier && byteOk x.precedence && byteOk x.rate && byteOk x.quiet && wordOk x.mask

/-- Is a command well formed? -/
def Instr.wf (i : Instr) : Bool :=
  match i with
  | .powerOn => true
  | .resetAssert _ => true
  | .resetRelease => true
  | .restartEntry => true
  | .setupReadCompletion => true
  | .imageCopyCompletion => true
  | .startPresetReadCompletion => true
  | .frameBoundary c => c.inA.length == 32 && c.inB.length == 32 && c.retL.length == 32 && c.retR.length == 32 && (c.inA ++ c.inB ++ c.retL ++ c.retR).all sample24
  | .gateClosed pos => decide (pos < 12)
  | .bypassWeightZero pos => decide (pos < 12)
  | .resolveFadeEnd pos => decide (pos < 12)
  | .crossFadeEnd place => match place with | .live pos => decide (pos < 12) | .lane _ => true
  | .tailTimerExpiry _ => true
  | .laneQuiet _ => true
  | .cutFadeEnd _ => true
  | .chainGainAtRest => true
  | .watchdogExpiry => true
  | .clockReturned => true
  | .fillCompletion _ => true
  | .lapseTimerExpiry _ => true
  | .lineJoin => true
  | .storeReadStart => true
  | .presetReadCompletion => true
  | .presetStoreCompletion => true
  | .presetEraseCompletion => true
  | .imageStoreCompletion => true
  | .setupStoreCompletion => true
  | .deferredLaneMove => true
  | .swap => true
  | .switchPromotion => true
  | .guardTimerExpiry => true
  | .noSignalTimerExpiry => true
  | .publicationTimerExpiry => true
  | .beatEvent => true
  | .tclkPulse => true
  | .pulseTimerExpiry => true
  | .satGrant => true
  | .writeAnswered => true
  | .statusWriteAnswered => true
  | .pollAnswered _ => true
  | .passThroughAnswered _ => true
  | .transactionFailed => true
  | .deferredHide _ => true
  | .pollTimerExpiry => true
  | .refreshTimerExpiry => true
  | .linkGapTimeout _ _ _ => true
  | .framingError _ _ => true
  | .checkByteFailure _ _ => true
  | .unknownKind _ kind => byteOk kind && !(decide (1 ≤ kind) && decide (kind ≤ 0x38))
  | .linkBreak _ => true
  | .breakLineHigh _ => true
  | .transmitEnd _ => true
  | .identify _ => true
  | .getStatus _ => true
  | .linkStatus _ => true
  | .subscribe _ mask => wordOk mask
  | .areaStatus _ => true
  | .mapStatus _ => true
  | .bufferStatus _ => true
  | .switchStatus _ => true
  | .tunerStatus _ => true
  | .showStatus _ => true
  | .cueList _ start => byteOk start
  | .satStatus _ sat => byteOk sat
  | .readPreset _ preset chunk => byteOk preset && byteOk chunk
  | .readBuffer _ source chunk => byteOk source && byteOk chunk
  | .switch _ preset scene flags => byteOk preset && byteOk scene && byteOk flags
  | .recall _ index flags => byteOk index && byteOk flags
  | .dropStash _ index => byteOk index
  | .tunerMode _ mode => byteOk mode
  | .tunerSetSource _ source => byteOk source
  | .tunerSetReference _ tenthsHz => wordOk tenthsHz
  | .tunerSetHysteresis _ exponent => byteOk exponent
  | .tunerSetReadingKind _ kind set => byteOk kind && byteOk set
  | .tunerSetString _ set index note offset => byteOk set && byteOk index && byteOk note && signed16Ok offset
  | .tap _ => true
  | .control _ source value => byteOk source && wordOk value
  | .tempoSet _ value => wordOk value
  | .setParam _ expected kind pos index value => byteOk expected && byteOk kind && byteOk pos && byteOk index && wordOk value
  | .sceneEditSetOverride _ expected scene target value => byteOk expected && byteOk scene && targetOk target && wordOk value
  | .sceneEditRemoveOverride _ expected scene target => byteOk expected && byteOk scene && targetOk target
  | .sceneEditSetLevel _ expected scene level => byteOk expected && byteOk scene && wordOk level
  | .sceneEditSetRamp _ expected scene length => byteOk expected && byteOk scene && byteOk length
  | .sceneEditSetName _ expected scene name => byteOk expected && byteOk scene && (name.length == 8) && name.all byteOk
  | .sceneEditAdd _ expected scene => byteOk expected && byteOk scene
  | .sceneEditRemove _ expected scene => byteOk expected && byteOk scene
  | .presetEditName _ expected name => byteOk expected && (name.length == 16) && name.all byteOk
  | .presetEditFadeOut _ expected length => byteOk expected && byteOk length
  | .presetEditFadeIn _ expected length => byteOk expected && byteOk length
  | .presetEditTempo _ expected tempo => byteOk expected && wordOk tempo
  | .ampDataShaperRun _ expected pos start points => byteOk expected && byteOk pos && byteOk start && decide (1 ≤ points.length) && decide (points.length ≤ 33) && points.all signed16Ok
  | .ampDataToneSet _ expected pos filter knobSet b0 b1 b2 a1 a2 => byteOk expected && byteOk pos && byteOk filter && byteOk knobSet && [b0, b1, b2, a1, a2].all signed32Ok
  | .satImageSet _ expected sat reg value => byteOk expected && byteOk sat && byteOk reg && byteOk value
  | .satImageClear _ expected sat reg => byteOk expected && byteOk sat && byteOk reg
  | .mapEditAdd _ expected entry => byteOk expected && entryOk entry
  | .mapEditReplace _ expected number entry => byteOk expected && byteOk number && entryOk entry
  | .mapEditRemove _ expected number => byteOk expected && byteOk number
  | .chainEditInsert _ expected pos stype lclass policy => byteOk expected && byteOk pos && byteOk stype && byteOk lclass && byteOk policy
  | .chainEditRemove _ expected pos => byteOk expected && byteOk pos
  | .chainEditMove _ expected src dst => byteOk expected && byteOk src && byteOk dst
  | .chainEditRetype _ expected pos stype lclass policy => byteOk expected && byteOk pos && byteOk stype && byteOk lclass && byteOk policy
  | .chainEditSetClass _ expected pos lclass => byteOk expected && byteOk pos && byteOk lclass
  | .chainEditSetPolicy _ expected pos policy => byteOk expected && byteOk pos && byteOk policy
  | .chainEditRebuild _ expected => byteOk expected
  | .storePreset _ preset source => byteOk preset && byteOk source
  | .erasePreset _ preset => byteOk preset
  | .showStart _ => true
  | .showHold _ => true
  | .showContinue _ => true
  | .showStop _ => true
  | .showLocate _ bar beat chase => wordOk bar && byteOk beat && byteOk chase
  | .cueInsert _ bar beat action args => wordOk bar && byteOk beat && byteOk action && (args.length == 5) && args.all byteOk
  | .cueDelete _ number bar beat => byteOk number && wordOk bar && byteOk beat
  | .satWrite _ sat reg value => byteOk sat && byteOk reg && byteOk value
  | .satRead _ sat reg => byteOk sat && byteOk reg
  | .satClear _ sat => byteOk sat
  | .tempoSource _ source => byteOk source
  | .tempoLock _ lock => byteOk lock
  | .clockSetupDefaultTempo _ value => wordOk value
  | .clockSetupPulsesPerBeat _ value => wordOk value
  | .clockSetupBeatsPerBar _ value => wordOk value
  | .panic _ => true
  | .unpanic _ => true
  | .satSetupHoldAuto _ value => byteOk value
  | .satSetupRefresh _ value => byteOk value
  | .satSetupHide _ sat value => byteOk sat && byteOk value
  | .areaJoin _ taps => wordOk taps
  | .areaWrite _ words => decide (1 ≤ words.length) && decide (words.length ≤ 120) && words.all signed16Ok
  | .areaUnjoin _ => true
  | .imageSave _ slot => byteOk slot
  | .setupSave _ => true
  | .setupSetMasterLevel _ level => wordOk level
  | .setupSetStartPreset _ preset scene => byteOk preset && byteOk scene
  | .restart _ => true
  | .seatSet _ link seat => byteOk link && seatOk seat
  | .accessSet _ cls tier => byteOk cls && byteOk tier
  | .afsEdge _ => true
  | .powerLoss => true
  | .invalidLengthByte _ length => length == 0 || decide (251 ≤ length.toNat)

end Sys2Proof
end

