-- ==== Sys2Proof/Certificates/Slice0/Obligations.lean ====
section
/-! DEFINITION. The statements for the provers. In the statements of requests, `heard p kind s` is the state the owner acts
on and `filled` adds the reply and nothing else, so that each equation names every change and leaves the rest of the state
as it was. -/

open Sys2Proof Sys2Proof.Machine

/-! ## The block as a whole -/

/-- The step takes the command at the front of the queue and runs it with the queue's rest. -/
def Obligations.StepRunsFrontCommand : Prop :=
  ∀ (c : Instr) (rest : List Instr) (s : State), s.pending = c :: rest →
    step s = exec c { s with pending := rest }

/-- The model's choices (logs 2 and 23): on an empty queue the step carries out what is due, and the part right after reset
idles; a part without supply, or held in reset, idles and takes no command but those of supply and RESET_N. -/
def Obligations.IdleAndDeadPartsStay : Prop :=
  (∀ s : State, s.pending = [] → live s = true → step s = .next (prelude s)) ∧
  (∀ s : State, s.pending = [] → live s = false → step s = .next s) ∧
  step State.reset = .next State.reset ∧
  (∀ (c : Instr) (s : State), live s = false → (∀ f, c = .frameBoundary f → fullFrame f = true) →
    c ≠ .powerOn → (∀ n, c ≠ .resetAssert n) → c ≠ .resetRelease → c ≠ .powerLoss → exec c s = .next s)

/-- No command adds to the queue of the commands that wait or takes from it (the queue is the model's, log 3). -/
def Obligations.ExecKeepsQueue : Prop :=
  ∀ (c : Instr) (s t : State), exec c s = .next t → t.pending = s.pending

/-- Every command answers a next state in every state, but for a FRAME_BOUNDARY that does not carry 32 samples of each
captured channel: R1 knows no such frame, and that it faults is the model's choice (log 41). -/
def Obligations.EveryCommandAnswersNext : Prop :=
  (∀ (c : Instr) (s : State), (∀ f, c = .frameBoundary f → fullFrame f = true) → ∃ t, exec c s = .next t) ∧
  (∀ (f : Captured) (s : State), fullFrame f = false → exec (.frameBoundary f) s = .fault .shortFrame)

/-- R172 for every request but TAP and CONTROL: a link with a request outstanding gets BUSY on its BUSY place, or nothing
while that is full; otherwise the request becomes outstanding and is refused STARTING before RUNNING (IDENTIFY and GET_STATUS
are not), DENIED below its class's tier, and BAD_ARG where its payload has the wrong length or (but for the edits, which name
the buffer first) an item that its kind does not list: R172 says nothing of items, so that one is the model's choice (log
19). Nothing else changes. -/
def Obligations.RequestsMeetTheChecksInOrder : Prop :=
  ∀ (c : Instr) (p : Pkt) (k : Byte) (payload : List Byte) (s : State), live s = true →
    pktOf c = some p → encodeRequest c = some (k, payload) → k ≠ 0x12 → k ≠ 0x13 →
    let n := k.toNat
    let x := prelude s
    let r := linkOf x p.link
    x.link.links.length = 4 → r.rx.st ≠ .waitHigh →
      (∀ o, r.outstanding = some o → (∃ q ∈ r.places, q.tag = .busy) →
        exec c s = .next (onLinkAt p.link (fun r => { r with rx := rxHunt }) x)) ∧
      (∀ o, r.outstanding = some o → (∀ q ∈ r.places, q.tag ≠ .busy) →
        exec c s = .next (onLinkAt p.link (fun r =>
          { r with rx := rxHunt, places := r.places ++ [⟨.busy, ⟨byte (n + 0x80), [statusCode .busy]⟩⟩] }) x)) ∧
      (r.outstanding = none → running x = false → 2 < n → exec c s = .next (filled p n .starting [] (heard p n s))) ∧
      (r.outstanding = none → running x = true → r.seat.tier < classTier x (requestClass n) →
        exec c s = .next (filled p n .denied [] (heard p n s))) ∧
      (r.outstanding = none → running x = true → classTier x (requestClass n) ≤ r.seat.tier →
        p.form = .badLength ∨ (p.form = .badItem ∧ (n < 0x17 ∨ 0x1D < n)) →
        exec c s = .next (filled p n .badArg [] (heard p n s)))

/-- R170, R194 and the packet layout of 12.1: the bytes of every well-formed request, received from HUNT, yield exactly that
request and leave the receiver in HUNT; a packet whose bytes do not sum to 0 yields nothing; and a kind that names no request
yields UNKNOWN_KIND with any payload. On the line a byte is ten levels, the start bit low, the data bits from the least
significant on, the stop bit high: they read back as the byte, as no byte with the stop bit low, and never as a break; an
idle transmitter's line is high. -/
def Obligations.PacketsDecodeToTheirRequest : Prop :=
  (∀ (c : Instr) (p : Pkt) (bs : List Byte), c.wf = true → pktOf c = some p → p.form = .exact → wireOf c = some bs →
    receive p.link bs rxHunt = (rxHunt, [c])) ∧
  (∀ (l : Fin 4) (k : Nat) (payload : List Byte), (Instr.unknownKind l k).wf = true → payload.length ≤ 249 →
    receive l (wireBytes ⟨byte k, payload⟩) rxHunt = (rxHunt, [.unknownKind l k])) ∧
  (∀ (l : Fin 4) (body : List Byte) (check : Byte), 1 ≤ body.length → body.length ≤ 250 →
    (byte body.length :: body ++ [check]).foldl (· + ·) 0 ≠ 0 →
    receive l (0x5A :: byte body.length :: body ++ [check]) rxHunt = (rxHunt, [])) ∧
  (∀ b : Byte, let v := byteLevels b
    v.length = 10 ∧ v[0]? = some false ∧ v[9]? = some true ∧ (∀ k, k < 8 → v[k + 1]? = some (b.getLsbD k)) ∧
    levelsByte v = some b ∧ levelsByte (v.set 9 false) = none ∧ breakLevels v = false) ∧
  (∀ n, 10 ≤ n → breakLevels (List.replicate n false) = true) ∧
  (∀ r : Link, (r.tx = none → lineLevels r = [true]) ∧
    ∀ q, r.tx = some q → lineLevels r = (wireBytes q.pkt).flatMap byteLevels)

/-! ## Invariants that every step keeps -/

/-- The DRAM words keep their canonical form through every step. -/
def Obligations.StepKeepsDramCanonical : Prop :=
  ∀ s t : State, dramOk s = true → step s = .next t → dramOk t = true

/-- R175 and R176: through every step four seats stay and one of them holds tier SETUP, in the seat table and in every stored
or waiting setup that start-up can take. -/
def Obligations.StepKeepsASetupSeat : Prop :=
  ∀ s t : State, seatInv s = true → step s = .next t → seatInv t = true

/-- R156: through every step a satellite is IN_STEP only with an empty pending set. -/
def Obligations.StepKeepsInStepEmpty : Prop :=
  ∀ s t : State, satInv s = true → step s = .next t → satInv t = true

/-- R89 and R57: through every step the stash holds at most four entries, no two of one preset number, and the sixteen control
values stay in 0 to 1023. -/
def Obligations.StepKeepsStashAndControls : Prop :=
  (∀ s t : State, stashInv s = true → step s = .next t → stashInv t = true) ∧
  (∀ s t : State, controlInv s = true → step s = .next t → controlInv t = true)

/-- The state after reset meets the five invariants. -/
def Obligations.ResetMeetsTheInvariants : Prop :=
  dramOk State.reset = true ∧ seatInv State.reset = true ∧ satInv State.reset = true ∧ stashInv State.reset = true ∧
    controlInv State.reset = true

/-! ## Supply, reset and start-up (chapter 11) -/

/-- R78 and R189: POWER_ON, POWER_LOSS and a RESET_N low of 10 µs or more put every block at its entry values; a write in
flight leaves a place that fails its check. RESET_N released lets BOOTING read the stored setup; a shorter low does nothing.
The level of RESET_N outlasts the supply: with the pin low POWER_ON holds the part at the entry values until the release.
The model's choices: that a low without supply only sets the level (log 23), that a POWER_ON of a part with supply cuts a
write short as a loss of supply does (log 24), that a library place so cut short holds no record and an image copy or setup a bad
mark (logs 25, 26), that queue, DRAM words and the index of free values stay (logs 3, 5, 7), that the entry values hold a clear
factory flag and the factory start preset, start scene, master level and image load mask (log 56), a recorded chain level of 0 and
no link that last changed panic (log 27), and the model's own marks and counters at 0 (logs 1, 17, 20). -/
def Obligations.SupplyAndResetEnterStartup : Prop :=
  ∀ s : State,
    let entered := fun (lib : List LibPlace) (im : List ImageCopy) (su : StoredSetup) (op : Option StoreOp)
        (powered held : Bool) =>
      ({ State.reset with
        pending := s.pending
        startup := ⟨.booting, false, none, [], powered, held, false⟩
        area := { State.reset.area with dram := s.area.dram }
        store := { State.reset.store with library := lib, images := im, setup := su, op := op }
        freeCount := s.freeCount } : State)
    let lost := fun (lib : List LibPlace) (im : List ImageCopy) (su : StoredSetup) =>
      (s.startup.resetHeld = false →
        exec .powerOn s = .next (entered lib im su (some (.startRead .setup)) true false)) ∧
      (s.startup.resetHeld = true → exec .powerOn s = .next (entered lib im su none true true)) ∧
      exec .powerLoss s = .next (entered lib im su none false s.startup.resetHeld) ∧
      (∀ n, 10 ≤ n → s.startup.powered = true → exec (.resetAssert n) s = .next (entered lib im su none true true))
    let c := s.store
    (∀ l n r q, c.op = some (.presetStore l n r q) → lost (c.library.set n ⟨true, none, 0⟩) c.images c.setup) ∧
    (∀ l n, c.op = some (.presetErase l n) → lost (c.library.set n ⟨true, none, 0⟩) c.images c.setup) ∧
    (∀ l k a t w, c.op = some (.imageStore l k a t w) → lost c.library (c.images.set k .bad) c.setup) ∧
    (∀ l v, c.op = some (.setupStore l v) → lost c.library c.images .bad) ∧
    (∀ who n, c.op = some (.presetRead who n) → lost c.library c.images c.setup) ∧
    (∀ w, c.op = some (.startRead w) → lost c.library c.images c.setup) ∧
    (c.op = none → lost c.library c.images c.setup) ∧
    (∀ n, n < 10 → exec (.resetAssert n) s = .next s) ∧
    (∀ n, 10 ≤ n → s.startup.powered = false →
      exec (.resetAssert n) s = .next { s with startup := { s.startup with resetHeld := true } }) ∧
    (s.startup.powered = true → s.startup.resetHeld = true → exec .resetRelease s = .next { s with
      startup := { s.startup with resetHeld := false }, store := { c with op := some (.startRead .setup) } }) ∧
    (s.startup.powered = false → s.startup.resetHeld = true →
      exec .resetRelease s = .next { s with startup := { s.startup with resetHeld := false } }) ∧
    (s.startup.resetHeld = false → exec .resetRelease s = .next s)

/-- R180, R189 and R78: RESTART is answered OK; the end of that reply makes start-up due; RESTART_ENTRY then puts every
block at its entry values while a write in flight goes on without its link. Without it RESTART_ENTRY does nothing. The model's
choices: a read in flight ends at the entry, and BOOTING's read begins there, or once the write has ended (log 35); queue, DRAM
words and the index of free values stay (logs 3, 5, 7); the entry values hold a clear factory flag, also where RESTART finds it
set, and the factory start preset, start scene, master level and image load mask (log 56), a recorded chain level of 0 and no link
that last changed panic (log 27), and the model's own marks and counters at 0 (logs 1, 17, 20). -/
def Obligations.RestartFollowsItsReply : Prop :=
  (∀ (p : Pkt) (s : State), Ready p 18 s → exec (.restart p) s = .next (onLinkAt p.link (fun r =>
    { r with places := r.places ++ [⟨.restart, ⟨0xB5, [0]⟩⟩] }) (heard p 0x35 s))) ∧
  (∀ (l : Fin 4) (q : ReplyPlace) (s : State), live s = true → (linkOf (prelude s) l).tx = some q → q.tag = .restart →
    exec (.transmitEnd l) s = .next (
      let y := onLinkAt l (fun x => { x with
        tx := none, txRate := x.nextRate }) (prelude s)
      { y with startup := { y.startup with restartDue := true } })) ∧
  (∀ s : State, live s = true →
    let entered := fun (op : StoreOp) => exec .restartEntry s = .next { State.reset with
      pending := s.pending
      area := { State.reset.area with dram := s.area.dram }
      store := { State.reset.store with
        library := s.store.library, images := s.store.images, setup := s.store.setup, op := some op }
      freeCount := s.freeCount }
    (s.startup.restartDue = false → exec .restartEntry s = .next s) ∧
    (s.startup.restartDue = true →
      (∀ l n r q, s.store.op = some (.presetStore l n r q) → entered (.presetStore none n r q)) ∧
      (∀ l n, s.store.op = some (.presetErase l n) → entered (.presetErase none n)) ∧
      (∀ l k a t w, s.store.op = some (.imageStore l k a t w) → entered (.imageStore none k a t w)) ∧
      (∀ l v, s.store.op = some (.setupStore l v) → entered (.setupStore none v)) ∧
      (∀ who n, s.store.op = some (.presetRead who n) → entered (.startRead .setup)) ∧
      (∀ w, s.store.op = some (.startRead w) → entered (.startRead .setup)) ∧
      (s.store.op = none → entered (.startRead .setup))))

/-- R190 and R56: at the end of the setup read every block takes its part of a stored setup that passes its check, or the
factory values with the factory flag; values are clamped to their ranges and the fixed access classes keep their tiers. For the
first marked image slot whose copy passes the lowest FREE area is joined into IMAGE and the copy begins, or with none FIRST_LOAD
reads the start preset; marked slots whose copy fails on the way get their failed mark. -/
def Obligations.BootingTakesTheSetup : Prop :=
  ∀ s : State, live s = true →
    let y := prelude s
    (y.store.op ≠ some (.startRead .setup) → exec .setupReadCompletion s = .next y) ∧
    (∀ v, y.store.op = some (.startRead .setup) →
      (y.store.setup = .good v ∨ ((∀ w, y.store.setup ≠ .good w) ∧ v = Setup.factory)) →
      y.link.links.length = 4 → v.seats.length = 4 → v.access.length = 21 → y.area.failed.length = 16 →
      ∃ z, exec .setupReadCompletion s = .next z ∧
        z = { y with
          startup := { y.startup with phase := z.startup.phase, factory := z.startup.factory }
          store := { y.store with op := z.store.op }, tone := z.tone, tuner := z.tuner, clk := z.clk, sat := z.sat
          link := z.link, area := { y.area with mask := z.area.mask, failed := z.area.failed, areas := z.area.areas } } ∧
        (z.startup.factory = true ↔ ∀ w, y.store.setup ≠ .good w) ∧
        z.link = { y.link with
          links := z.link.links, access := z.link.access, startPreset := v.startPreset, startScene := v.startScene
          masterLevel := v.masterLevel } ∧
        z.link.links.map (·.seat) = v.seats ∧
        z.link.access.length = 21 ∧ z.link.access.getD 0 9 = 0 ∧ z.link.access.getD 19 0 = 3 ∧
        z.link.access.getD 20 0 = 1 ∧ (∀ k, 1 ≤ k → k ≤ 18 → z.link.access.getD k 0 = v.access.getD k 0) ∧
        z.tuner = { y.tuner with
          sourceB := v.sourceB, reference := clampNat 4300 4500 v.reference, exponent := clampNat 6 12 v.exponent
          strings := v.strings.map (·.map fun x => ⟨clampNat 15 89 x.note, clampInt (-500) 500 x.offset⟩) } ∧
        (let t := clampNat 300 3000 v.defTempo
         z.clk = { y.clk with
          tempo := t, defTempo := t, ppb := v.ppb, bpb := v.bpb, countdown := (beatLen t : Nat), bc := beatLen t }) ∧
        z.sat = { y.sat with
          sats := List.zipWith (fun x h => { x with hidden := h }) y.sat.sats v.hideMask
          holdAuto := v.holdAuto, refresh := v.refresh, pollTimer := true, refTimer := true } ∧
        (present y = true →
          z.tone = { y.tone with changes := y.tone.changes ++ [.gainSet .master v.masterLevel] }) ∧
        (let good := fun (j : Nat) => v.imageMask.getD j false = true ∧ ∃ t w, y.store.images.getD j .absent = .good t w
         (∀ j, j < 16 → good j → (∀ i, i < j → ¬ good i) → z.store.op = some (.startRead (.image j)) ∧
            z.startup.phase = .images ∧ z.area.mask = v.imageMask ∧
            (∀ a t w, y.store.images.getD j .absent = .good t w → y.area.areas[a]? = some .free →
              (∀ b, b < a → y.area.areas[b]? ≠ some .free) → z.area.areas = y.area.areas.set a (.image (some j) t 0)) ∧
            ∀ i, i < j → v.imageMask.getD i false = true → y.store.images.getD i .absent = .bad →
              z.area.failed.getD i false = true) ∧
         ((∀ i, i < 16 → ¬ good i) → z.store.op = some (.startRead (.preset v.startPreset)) ∧
            z.startup.phase = .firstLoad ∧ z.area.areas = y.area.areas ∧
            ∀ i, i < 16 → v.imageMask.getD i false = true → y.store.images.getD i .absent = .bad →
              z.area.failed.getD i false = true)))

/-- R56: at the end of a copy the words stand in the area that was joined into IMAGE for the slot, and the slot table names it
with its tap count; for the next marked slot whose copy passes the lowest FREE area is joined into IMAGE with reference count 0
and its copy begins, or FIRST_LOAD follows with the mask of the slots that hold an image. Any other operation: nothing. -/
def Obligations.ImageCopyTakesAnArea : Prop :=
  ∀ (k a taps : Nat) (words : List Word32) (s : State), live s = true →
    let y := prelude s
    ((∀ k, y.store.op ≠ some (.startRead (.image k))) → exec .imageCopyCompletion s = .next y) ∧
    (y.store.op = some (.startRead (.image k)) → y.store.images.getD k .absent = .good taps words →
      (∃ t refs, y.area.areas[a]? = some (.image (some k) t refs)) →
      (∀ b, b < a → ∀ t refs, y.area.areas[b]? ≠ some (.image (some k) t refs)) →
      let good := fun (j : Nat) => y.area.mask.getD j false = true ∧ ∃ t w, y.store.images.getD j .absent = .good t w
      ∃ z, exec .imageCopyCompletion s = .next z ∧
        z = { y with
          startup := { y.startup with phase := z.startup.phase }, store := { y.store with op := z.store.op }
          area := { y.area with
            areas := z.area.areas
            dram := dramWriteAll y.area.dram (areaAddr a 0) words
            table := y.area.table.set k (some (a, taps)), failed := z.area.failed, mask := z.area.mask } } ∧
        (∀ j, k < j → j < 16 → good j → (∀ i, k < i → i < j → ¬ good i) →
          z.store.op = some (.startRead (.image j)) ∧ z.startup.phase = y.startup.phase ∧ z.area.mask = y.area.mask ∧
          (∀ c t w, y.store.images.getD j .absent = .good t w → y.area.areas[c]? = some .free →
            (∀ b, b < c → y.area.areas[b]? ≠ some .free) → z.area.areas = y.area.areas.set c (.image (some j) t 0))) ∧
        ((∀ i, k < i → i < 16 → ¬ good i) →
          z.store.op = some (.startRead (.preset y.link.startPreset)) ∧ z.startup.phase = .firstLoad ∧
          z.area.areas = y.area.areas ∧ z.area.mask = z.area.table.map Option.isSome))

/-- R28, R114 and R191 with R61, R79, R133 and R155: at the end of the start preset's read a VALID record whose LINE need the FREE
areas meet, else the fallback record, is the first load. With a LINE need its areas are joined and FIRST_LOAD waits for their fills;
without, the part is RUNNING with what `FirstLoaded` says: the buffer holds the record, the map is evaluated; the rebuild, the
effective chain level and the release of the start-up holder are handed; every satellite register with an effective value is
pushed URGENT, the record's tempo goes to the Show Clock outside lock and EXTERNAL, SCENE is pending; all else stays. While the
audio clock is lost all this is taken up at once, and the mute factor rises only where no other holder remains. The model's
choices: the start-up mark among the holders changes at once (log 43), and all pushes wait before a grant (log 58). -/
def Obligations.FirstLoadReachesRunning : Prop :=
  ∀ (n : Nat) (s : State), live s = true →
    let y := prelude s
    ((∀ n, y.store.op ≠ some (.startRead (.preset n))) → exec .startPresetReadCompletion s = .next y) ∧
    (∀ l : Loaded, y.store.op = some (.startRead (.preset n)) →
      (∃ r, readPlace (placeOf y n) = some (some r) ∧ chainNeed r.chain ≤ freeAreas y.area ∧
          l = ⟨r, some n, y.link.startScene, none⟩) ∨
        ((∀ r, readPlace (placeOf y n) = some (some r) → freeAreas y.area < chainNeed r.chain) ∧
          l = ⟨fallbackRecord, none, 0, none⟩) →
      (0 < chainNeed l.record.chain → exec .startPresetReadCompletion s = .next { y with
        startup := { y.startup with load := some l, joined := (joinLines 0 l.record.chain y.area).1 }
        store := { y.store with op := none }, area := (joinLines 0 l.record.chain y.area).2 }) ∧
      (chainNeed l.record.chain = 0 → ∃ z, exec .startPresetReadCompletion s = .next z ∧
        FirstLoaded l [] { y with store := { y.store with op := none } } z))

/-! ## The Tone Engine (chapters 1 and 2) -/

/-- R38 and R39: a quantity at rest takes no step; a step moves the value by the truncated quotient of the distance and the
count; after as many steps as the count says the value is the target exactly; on the way it never passes the target and
never moves away from it; a new target keeps the value and loads its length, a length of 0 as 1. The two worked ramps of
R38 run as printed. -/
def Obligations.RampsLandOnTheirTarget : Prop :=
  (∀ r : Ramp, r.n = 0 → rampStep r = r) ∧
  (∀ r : Ramp, 0 < r.n → rampStep r = ⟨r.cur + (r.target - r.cur).tdiv r.n, r.target, r.n - 1⟩) ∧
  (∀ r : Ramp, 0 < r.n → rampStep^[r.n] r = .rest r.target) ∧
  (∀ (r : Ramp) (k : Nat), let a := (rampStep^[k] r).cur
    let b := (rampStep^[k + 1] r).cur
    (a ≤ r.target → a ≤ b ∧ b ≤ r.target) ∧ (r.target ≤ a → r.target ≤ b ∧ b ≤ a)) ∧
  (∀ (r : Ramp) (t : Int) (n : Nat), rampTo r t n = ⟨r.cur, t, if n = 0 then 1 else n⟩) ∧
  [1, 2, 3, 4].map (fun k => (rampStep^[k] ⟨0, 26214, 4⟩).cur) = [6553, 13106, 19660, 26214] ∧
  [1, 2, 3, 4, 5, 6, 7, 8].map (fun k => (rampStep^[k] ⟨26214, 0, 8⟩).cur) =
    [22938, 19662, 16385, 13108, 9831, 6554, 3277, 0]

/-- R32 and R33: the AMP's pre-gain and shaper. The product is floored and confined to -2^29 to 2^29 - 1; the shaper
interpolates between the two points of the input's segment, lies between them, and stays in -2^29 to 2^29 - 2^14. (R33 adds
that the far point is never reached: by its own formula a falling segment of a small step does reach it, log 40.) Beside them
R31 and R34 to R37: the tone sets between the knob positions, the filter, the sag and the order of the stages. And the other
types over a frame, sample by sample: R7's mix and freeze, R8's gate, R9's envelope and gain, R10's convolution (floored at the
resolve gain: the model's choice, log 48), R11's bands, R12's tremolo and chorus (within the rounding that R12 leaves free,
log 8; that the tap counts from the current sample and reads the LFO value before the advance is the model's choice, log 31),
R13's and R14's line, R15 for every network (free values, log 7), R16's loop and VOLUME. -/
def Obligations.AmpShaperInterpolates : Prop :=
  (∀ g x : Int, let p := x * g / 4096
    ampPre g x = if p < -536870912 then -536870912 else if 536870911 < p then 536870911 else p) ∧
  (∀ x, ampPre 0 x = 0) ∧
  (∀ x, -536870912 ≤ x → x ≤ 536870911 → ampPre 4096 x = x) ∧
  (ampPre 2048 (-3) = -2) ∧
  (∀ (y : List Int) (x : Int), y.length = 33 → (∀ v ∈ y, -32768 ≤ v ∧ v ≤ 32767) → -536870912 ≤ x → x ≤ 536870911 →
    let i := ((x + 536870912) / 33554432).toNat
    let a := y.getD i 0
    let b := y.getD (i + 1) 0
    i ≤ 31 ∧
    ampShape y x = a * 16384 + (b - a) * ((x + 536870912) % 33554432) / 2048 ∧
    (a ≤ b → a * 16384 ≤ ampShape y x ∧ ampShape y x ≤ b * 16384) ∧
    (b ≤ a → b * 16384 ≤ ampShape y x ∧ ampShape y x ≤ a * 16384) ∧
    -536870912 ≤ ampShape y x ∧ ampShape y x ≤ 536870912 - 16384) ∧
  (∀ (sets : List Biquad) (f m : Nat), m ≤ 4 → ampTone sets f (25 * m) = sets.getD (5 * f + m) unityBiquad) ∧
  (∀ (sets : List Biquad) (f k : Nat), k ≤ 100 →
    let j := if k < 75 then k / 25 else 3
    let a := sets.getD (5 * f + j) unityBiquad
    let b := sets.getD (5 * f + j + 1) unityBiquad
    let mid := fun (x y : Int) => x + (y - x) * ((k : Int) - 25 * (j : Int)) / 25
    ampTone sets f k = ⟨mid a.b0 b.b0, mid a.b1 b.b1, mid a.b2 b.b2, mid a.a1 b.a1, mid a.a2 b.a2⟩ ∧
    ∀ x y : Int, min x y ≤ mid x y ∧ mid x y ≤ max x y) ∧
  (∀ (c : Biquad) (h : BiqHist) (x : Int),
    let q := (c.b0 * x + c.b1 * h.x1 + c.b2 * h.x2 - c.a1 * h.y1 - c.a2 * h.y2) / 1073741824
    let y := if q < -2147483648 then -2147483648 else if 2147483647 < q then 2147483647 else q
    biquadStep c h x = (⟨x, h.x1, y, h.y1⟩, y) ∧
    (-2147483648 ≤ x → x ≤ 2147483647 → (biquadStep unityBiquad h x).2 = x)) ∧
  (∀ (c d e : Biquad) (h i j : BiqHist) (x : Int),
    let u := biquadStep c h x
    let v := biquadStep d i u.2
    let w := biquadStep e j v.2
    biquadChain [c, d, e] [h, i, j] x = ([u.1, v.1, w.1], w.2)) ∧
  (∀ depth e : Int, 0 ≤ depth → 0 ≤ e → 8192 ≤ sagGain depth e ∧ sagGain depth e ≤ 32768 ∧ sagGain 0 e = 32768) ∧
  (∀ a r e p : Int, 1 ≤ a → a ≤ 32767 → 1 ≤ r → r ≤ 32767 →
    (e ≤ p → e ≤ sagStep a r e p ∧ sagStep a r e p ≤ p) ∧ (e < p → sagStep a r e p < p) ∧
    (p ≤ e → p ≤ sagStep a r e p ∧ sagStep a r e p ≤ e) ∧ (p < e → sagStep a r e p < e)) ∧
  (∀ (c : AmpCtl) (t : List Int) (b : List Biquad) (hl hr : List BiqHist) (e : Int) (x : Stereo),
    let l := biquadChain b hl (ampShape t (ampPre c.pre x.1))
    let r := biquadChain b hr (ampShape t (ampPre c.pre x.2))
    let p := max |l.2| |r.2|
    let g := max 8192 (32768 - c.depth * e / 134217728)
    ampStep c t b (hl, hr, e) x =
      ((l.1, r.1, e + (p - e) * (if e < p then c.attack else c.release) / 32768),
        (l.2 * g / 32768 * c.level / 32768, r.2 * g / 32768 * c.level / 32768))) ∧
  (∀ (σ : Type) (f : σ → Stereo → σ × Stereo) (s : σ) (x : Stereo) (xs : List Stereo),
    runSamples f s [] = (s, []) ∧
    runSamples f s (x :: xs) =
      ((runSamples f (f s x).1 xs).1, (f s x).2 :: (runSamples f (f s x).1 xs).2)) ∧
  (∀ x : Int, portIn x = 16 * x ∧ portOut x =
    (let q := x / 16
     if q < -8388608 then -8388608 else if 8388607 < q then 8388607 else q)) ∧
  (∀ (level release peak : Int) (g : Ramp),
    (level * 4096 ≤ peak → gateCompare level release g peak .open = (g, .open) ∧
      ∀ st, st ≠ .open → gateCompare level release g peak st = (⟨g.cur, 32768, 1⟩, .open)) ∧
    (peak < level * 4096 →
      gateCompare level release g peak .open = (⟨g.cur, 0, max 1 (release * 3 / 2).toNat⟩, .closing) ∧
      ∀ st, st ≠ .open → gateCompare level release g peak st = (g, st))) ∧
  (∀ (level ratio attack release makeup e : Int) (x : Stereo),
    let p := max |x.1| |x.2|
    let e1 := e + (p - e) * (if e < p then attack else release) / 32768
    let g := compGain level e1 ratio
    compStep level ratio attack release makeup e x =
      (e1, (x.1 * g / 32768 * makeup / 4096, x.2 * g / 32768 * makeup / 4096))) ∧
  (∀ t e r : Int, e ≤ t ∨ r ≤ 10 → compGain t e r = 32768) ∧
  (∀ t e r : Nat, t < e → 10 < r → ∃ g : Nat, compGain t e r = g ∧ g < 32768 ∧
    g ^ r * e ^ (r - 10) ≤ 32768 ^ r * t ^ (r - 10) ∧ 32768 ^ r * t ^ (r - 10) < (g + 1) ^ r * e ^ (r - 10)) ∧
  (∀ t : Nat, 1 ≤ t → t ≤ 2000 → compCoeff t = max 1 ⌊(32768 : ℝ) * (1 - Real.exp (-1 / (48 * t)))⌋) ∧
  (∀ (n : Nat) (h : List Int × List Int) (hist : List Stereo) (x : Stereo),
    let w := x :: hist
    let conv := fun (c : List Int) (v : List Int) =>
      let q := (List.zipWith (· * ·) c v).sum / 1073741824
      if q < -2147483648 then -2147483648 else if 2147483647 < q then 2147483647 else q
    cabStep n h hist x = (w.take (n - 1), (conv h.1 (w.map (·.1)), conv h.2 (w.map (·.2))))) ∧
  (∀ (dram : List (Nat × Word32)) (a taps n k : Nat), dramWf dram = true →
    let h := imageTaps dram a taps n
    (k < min taps n → h.1[k]? = some (dramRead dram (a * 262144 + 2 * k)).toInt ∧
      h.2[k]? = some (dramRead dram (a * 262144 + 2 * k + 1)).toInt) ∧
    (min taps n ≤ k → h.1[k]? = none ∧ h.2[k]? = none)) ∧
  (∀ (p : List Int) (b : Nat), b < 4 →
    let c := fun (k : Nat) => p.getD (5 * b + k) 0 * 65536
    (eqBands p)[b]? = some ⟨c 0, c 1, c 2, c 3, c 4⟩ ∧ (eqBands p).length = 4 ∧
    (p.getD (5 * b) 0 = 16384 → (∀ k, 1 ≤ k → k ≤ 4 → p.getD (5 * b + k) 0 = 0) → (eqBands p)[b]? = some unityBiquad)) ∧
  (∀ f : Frac, f.num < f.den →
    (2 * f.num < f.den → lfoValue f = 65536 * f.num / f.den) ∧
    (f.den ≤ 2 * f.num → lfoValue f = 65536 * (f.den - f.num) / f.den) ∧ lfoValue f ≤ 32768) ∧
  (∀ a b : Frac, 0 < a.den → 0 < b.den → let c := fracAdd a b
    c.num < c.den ∧ c.num * (a.den * b.den) = (a.num * b.den + b.num * a.den) % (a.den * b.den) * c.den) ∧
  (∀ depth v : Nat, let n := 3 * depth * v
    61440 + n / 40 ≤ chorusTap depth v ∧ chorusTap depth v ≤ 61440 + n / 40 + 1 ∧
    (n % 40 = 0 → chorusTap depth v = 61440 + n / 40) ∧
    (depth ≤ 100 → v ≤ 32768 → 240 * 256 ≤ chorusTap depth v ∧ chorusTap depth v ≤ 1200 * 256)) ∧
  (∀ (f : Nat) (a b : Int), f < 256 → let n := a * (256 - (f : Int)) + b * (f : Int)
    n / 256 ≤ chorusLerp f a b ∧ chorusLerp f a b ≤ n / 256 + 1 ∧ (n % 256 = 0 → chorusLerp f a b = n / 256)) ∧
  (∀ (c : ModCtl) (ph : Frac) (buf : List Stereo) (x : Stereo),
    let v := lfoValue ph
    let kept := (x :: buf).take 2048
    let t := chorusTap c.depth v
    let p := kept.getD (t / 256) (0, 0)
    let q := kept.getD (t / 256 + 1) (0, 0)
    let trem := 32768 - ((c.depth * v / 100 : Nat) : Int)
    let mix := fun (x m : Int) => x * (32768 - c.mix) / 32768 + m * c.mix / 32768
    (c.chorus = false → modStep c (ph, buf) x =
      ((fracAdd ph c.step, kept), (mix x.1 (x.1 * trem / 32768), mix x.2 (x.2 * trem / 32768)))) ∧
    (c.chorus = true → modStep c (ph, buf) x =
      ((fracAdd ph c.step, kept),
        (mix x.1 (chorusLerp (t % 256) p.1 q.1), mix x.2 (chorusLerp (t % 256) p.2 q.2))))) ∧
  (∀ (c : DelayCtl) (dram : List (Nat × Word32)) (w : Nat) (x : Stereo),
    let len := lineLen c.areas
    let tap := fun (d : Nat) => lineRead dram c.areas ((w + len - d) % len)
    let fade := fun (a b : Int) => a * (32768 - c.fade) / 32768 + b * c.fade / 32768
    let r := delayRead c dram w
    let line := fun (x r : Int) =>
      let v := x * c.feed / 32768 + r * c.feedback / 32768
      if v < -2147483648 then -2147483648 else if 2147483647 < v then 2147483647 else v
    (c.next = none → r = tap c.d) ∧
    (∀ n, c.next = some n → r = (fade (tap c.d).1 (tap n).1, fade (tap c.d).2 (tap n).2)) ∧
    delayStep c (dram, w) x =
      ((lineWrite dram c.areas w (line x.1 r.1, line x.2 r.2), (w + 1) % len),
        (r.1 * c.mix / 32768, r.2 * c.mix / 32768))) ∧
  (∀ (dram : List (Nat × Word32)) (areas : List Nat) (j k : Nat) (x : Stereo), dramWf dram = true →
    (∃ a, areas = [a]) ∨ (∃ a b, areas = [a, b] ∧ a ≠ b) → j < lineLen areas → k < lineLen areas →
    -2147483648 ≤ x.1 → x.1 ≤ 2147483647 → -2147483648 ≤ x.2 → x.2 ≤ 2147483647 →
    dramWf (lineWrite dram areas j x) = true ∧ lineRead (lineWrite dram areas j x) areas j = x ∧
    (j ≠ k → lineRead (lineWrite dram areas j x) areas k = lineRead dram areas k)) ∧
  (∀ (mix : Int) (k : Nat) (x : Stereo), reverbStep mix k x =
    (k + 2, ((Config.reverbWet k).toInt * mix / 32768, (Config.reverbWet (k + 1)).toInt * mix / 32768))) ∧
  (∀ (env : FrameEnv) (dram : List (Nat × Word32)) (free : Nat) (i : Inst) (xs : List Stereo),
    let scaled := fun (g : Int) (xs : List Stereo) => xs.map fun x => (x.1 * g / 32768, x.2 * g / 32768)
    let sat := fun (v : Int) => if v < -2147483648 then -2147483648 else if 2147483647 < v then 2147483647 else v
    let w := i.weight.cur
    let mixed := fun (x wet : Int) => sat (wet * w / 32768 + x * (32768 - w) / 32768)
    let wet := runWet env dram i xs
    let n := classTaps i.lclass
    (i.stype ≠ .delay → i.stype ≠ .reverb →
      (w = 0 → runInst env dram free i xs = ⟨xs.map fun x => (sat x.1, sat x.2), i, dram, free, none⟩) ∧
      (w ≠ 0 → runInst env dram free i xs = ⟨List.zipWith (fun x y => (mixed x.1 y.1, mixed x.2 y.2)) xs wet.1,
        { i with proc := wet.2 }, dram, free,
        if i.stype = .loop then some (xs.map fun x => (portOut x.1, portOut x.2)) else none⟩)) ∧
    (i.stype = .delay ∨ i.stype = .reverb →
      let o := runLine dram free i xs
      runInst env dram free i xs =
        { o with out := List.zipWith (fun x y => (sat (x.1 + y.1), sat (x.2 + y.2))) xs o.out }) ∧
    (∀ wp d next held synced fade clamped, i.proc = .delay wp d next held synced fade clamped →
      let o := runSamples (delayStep ⟨i.areas, d, next, fade.cur, w, parCur i 3, parCur i 4⟩) (dram, wp) xs
      runLine dram free i xs =
        ⟨o.2, { i with proc := .delay o.1.2 d next held synced fade clamped }, o.1.1, free, none⟩) ∧
    (∀ size next held fade, i.proc = .reverb size next held fade →
      let o := runSamples (reverbStep (parCur i 3)) free xs
      runLine dram free i xs = ⟨o.2, i, dram, o.1, none⟩) ∧
    (∀ g peak st, i.proc = .gate g peak st → ∃ m, wet = (scaled g.cur xs, .gate g m st) ∧
      (∀ x ∈ xs, |x.1| ≤ m ∧ |x.2| ≤ m) ∧ (m = 0 ∨ ∃ x ∈ xs, m = |x.1| ∨ m = |x.2|)) ∧
    (∀ e a r, i.proc = .comp e a r →
      let o := runSamples (compStep (parCur i 0 * 4096) (parCur i 1) a r (parCur i 4)) e xs
      wet = (o.2, .comp o.1 a r)) ∧
    (∀ t sets co hl hr e, i.proc = .amp t sets co hl hr e →
      let o := runSamples (ampStep ⟨parCur i 0, parCur i 4, parCur i 5, parCur i 6, parCur i 7⟩ t co) (hl, hr, e) xs
      wet = (o.2, .amp t sets co o.1.1 o.1.2.1 o.1.2.2)) ∧
    (∀ a taps miss hist g ph, i.proc = .cab (some (a, taps)) miss hist g ph →
      let o := runSamples (cabStep n (imageTaps dram a taps n)) hist xs
      wet = (scaled g.cur (scaled (parCur i 1) o.2), .cab (some (a, taps)) miss o.1 g ph)) ∧
    (∀ miss hist g ph, i.proc = .cab none miss hist g ph →
      wet = (scaled g.cur xs, .cab none miss ((xs.reverse ++ hist).take (n - 1)) g ph)) ∧
    (∀ hl hr, i.proc = .eq hl hr →
      let bands := eqBands (i.params.map (·.cur))
      let o := runSamples (fun (h : List BiqHist × List BiqHist) x =>
        (((biquadChain bands h.1 x.1).1, (biquadChain bands h.2 x.2).1),
          ((biquadChain bands h.1 x.1).2, (biquadChain bands h.2 x.2).2))) (hl, hr) xs
      wet = (scaled (parCur i 20) o.2, .eq o.1.1 o.1.2)) ∧
    (∀ ph buf, i.proc = .mod ph buf →
      let dn := (division (parCur i 4)).1
      let dd := (division (parCur i 4)).2
      let run := fun (p step : Frac) =>
        let o := runSamples (modStep ⟨decide (parCur i 0 = 1), (parCur i 1).toNat, parCur i 5, step⟩) (p, buf) xs
        (o.2, Proc.mod o.1.1 o.1.2)
      (parCur i 3 ≠ 1 → wet = run ph ⟨(parCur i 2).toNat, 4800000⟩) ∧
      (parCur i 3 = 1 → 0 < env.phase.den → ∃ p : Frac, wet = run p ⟨256 * dd, env.beat * dn⟩ ∧ p.num < p.den ∧
        p.num * (env.phase.den * dn) = env.phase.num * dd % (env.phase.den * dn) * p.den)) ∧
    (∀ ret, i.proc = .loop ret →
      let m := parCur i 0
      let mix := fun (x r : Int) => x * (32768 - m) / 32768 + r * m / 32768
      wet = (List.zipWith (fun x r => (mix x.1 r.1, mix x.2 r.2)) xs ret, .loop env.ret)) ∧
    (i.proc = .volume → wet = (scaled (parCur i 0) xs, .volume)))

/-- R1, R2, R21, R22, R25, R38, R140 and R141: a frame boundary while the audio clock is present. The frame's samples pass
(with the beat event that falls inside them), the Tuner runs over the frame, synced lengths that differ are handed first, natural
ends of lanes start, the changes are taken up in order, every ramp takes one step (an AMP's parameters not at bypass weight 0,
its state being frozen: R30), then positions, lanes in order and the output stage run. Nothing else changes; no change is
left. The chain and the lanes are run as their equations say: a DETACHED position passes its input, the lanes are summed. With
the mute factor at 0 the MAIN samples are 0; a chain of one VOLUME gives the samples of R25. During a clock loss nothing
happens. Gain targets, sets and the mute factor's changes at a boundary, or at arrival in a loss: R27, R39, R40. The model's
choices: the synced lengths formed at a boundary are taken before the changes that wait (log 61), and sample periods and what is
due after a beat inside the frame, with an idle transmitter that begins what it raised (logs 1 and 17; R174). -/
def Obligations.FrameBoundaryRunsTheFrame : Prop :=
  (∀ (c : Captured) (s : State), live s = true → fullFrame c = true →
    let y := prelude s
    let n := 32 - y.tone.framePhase
    let m := ((y.clk.countdown + 255) / 256).toNat
    let passed := fun (k : Nat) (x : State) => ({ x with
      tuner := { x.tuner with pos := x.tuner.pos + BitVec.ofNat 32 k }
      clk := { x.clk with
        pos := x.clk.pos + BitVec.ofNat 32 k, sinceBeat := x.clk.sinceBeat + k
        countdown := if x.clk.source = .external then x.clk.countdown else x.clk.countdown - 256 * (k : Int) } } : State)
    let q := passToBoundary n y
    let len := fun (k : Nat) => (match (q.tone.chain[k]?).bind (·.inst) with
      | some i =>
        if i.stype = .delay ∧ parCur i 1 = 1 then
          some (beatLen q.clk.tempo * (division (parCur i 2)).1 / ((division (parCur i 2)).2 * 256))
        else none
      | none => none)
    let due := (List.range 12).filterMap fun k =>
      if len k = q.clk.handed.getD k none then none else (len k).map fun n => Change.syncLen k n
    let p : State := { q with
      tuner := tunerFrame c q.tuner, clk := { q.clk with handed := (List.range 12).map len }
      tone := { q.tone with lanes := q.tone.lanes.map laneNatural, changes := [] } }
    let w := (due ++ q.tone.changes).foldl (fun x c => applyChange false c x) p
    (present y = false → exec (.frameBoundary c) s = .next y) ∧
    (y.clk.source = .external ∨ n < m → q = passed n y) ∧
    (y.clk.source ≠ .external → m ≤ n → q = passed (n - m) (prelude (beatStep (passed m y)))) ∧
    (present y = true → present q = true →
      let pair := fun (a b : List Int) => List.zipWith (fun x y => (16 * x, 16 * y)) a b
      let g := (rampStep w.tone.chainGain).cur
      let l := (rampStep w.tone.master).cur
      let f := (rampStep w.tone.mute).cur
      let bus := fun (x lanes : Int) =>
        let v := (x * g / 32768 + lanes) * l / 32768 * f / 32768 / 16
        if v < -8388608 then -8388608 else if 8388607 < v then 8388607 else v
      let steps := fun (x : Lane) => { x with inst := x.inst.map stepInst, feed := rampStep x.feed, tail := rampStep x.tail }
      let r := runChain ⟨pair c.retL c.retR, beatPhase w.clk, beatHanded w.clk⟩ w.area.dram w.freeCount
        (w.tone.chain.map fun x => { x with inst := x.inst.map fun i => stepInst (retime false i) }) (pair c.inA c.inA)
      let o := runLanes r.inputs r.dram r.free (w.tone.lanes.map steps)
      exec (.frameBoundary c) s = .next { w with
        area := { w.area with dram := o.2.2.1 }, freeCount := o.2.2.2
        tone := { w.tone with
          chainGain := rampStep w.tone.chainGain, master := rampStep w.tone.master, mute := rampStep w.tone.mute
          framePhase := 0, chainRested := w.tone.chainRested || (w.tone.chainGain.n == 1)
          chain := r.chain, lanes := o.2.1, sendOut := r.send.getD (List.replicate 32 (0, 0))
          mainOut := List.zipWith (fun x y => (bus x.1 y.1, bus x.2 y.2)) r.out o.1 } } ∧
      (f = 0 → ∀ z, exec (.frameBoundary c) s = .next z → ∀ o ∈ z.tone.mainOut, o = (0, 0)) ∧
      (∀ (k : TailPolicy) (v : Int), q.tone.changes = [] → q.tone.lanes = List.replicate 4 Lane.clear →
        q.tone.chain = [⟨.volume, some ⟨.volume, .plain, k, [.rest v], false, .rest 32768, .volume, []⟩⟩] →
        ∃ z, exec (.frameBoundary c) s = .next z ∧
          z.tone.chain = q.tone.chain ∧ z.tone.lanes = q.tone.lanes ∧ z.area = q.area ∧ z.freeCount = q.freeCount ∧
          z.tone.sendOut = List.replicate 32 (0, 0) ∧
          z.tone.mainOut = c.inA.map fun x => (bus (sat32 (mulQ15 (16 * x) v)) 0, bus (sat32 (mulQ15 (16 * x) v)) 0)))) ∧
  (∀ i : Inst,
    let w := rampStep i.weight
    let params := if i.stype = .amp ∧ w.cur = 0 then i.params else i.params.map rampStep
    let gives := fun (p : Proc) => stepInst i = { i with weight := w, params := params, proc := p }
    (∀ a b c d e f, i.proc = .amp a b c d e f → gives i.proc) ∧ (∀ a b c, i.proc = .comp a b c → gives i.proc) ∧
    (∀ a b, i.proc = .eq a b → gives i.proc) ∧ (∀ a b, i.proc = .mod a b → gives i.proc) ∧
    (∀ a, i.proc = .loop a → gives i.proc) ∧ (i.proc = .volume → gives i.proc) ∧
    (∀ g peak st, i.proc = .gate g peak st →
      (w.cur = 0 → gives i.proc) ∧
      (w.cur ≠ 0 → let h := gateCompare (params.getD 0 (.rest 0)).cur (params.getD 1 (.rest 0)).cur g peak st
        gives (.gate (rampStep h.1) peak h.2))) ∧
    (∀ img miss hist g ph, i.proc = .cab img miss hist g ph →
      (w.cur = 0 → gives i.proc) ∧
      (w.cur ≠ 0 → gives (.cab img miss hist (rampStep g) (if ph = .rising ∧ (rampStep g).n = 0 then .steady else ph)))) ∧
    (∀ wp d next held syn f cl, i.proc = .delay wp d next held syn f cl → gives (.delay wp d next held syn (rampStep f) cl)) ∧
    (∀ z next held f, i.proc = .reverb z next held f → gives (.reverb z next held (rampStep f)))) ∧
  (∀ (env : FrameEnv) (dram : List (Nat × Word32)) (free : Nat) (xs : List Stereo),
    runChain env dram free [] xs = ⟨xs, [], [], dram, free, none⟩ ∧
    (∀ (t : SlotType) (ps : List Position), runChain env dram free (⟨t, none⟩ :: ps) xs =
      (let r := runChain env dram free ps xs
       { r with chain := ⟨t, none⟩ :: r.chain, inputs := xs :: r.inputs })) ∧
    (∀ (t : SlotType) (i : Inst) (ps : List Position), runChain env dram free (⟨t, some i⟩ :: ps) xs =
      (let o := runInst env dram free i xs
       let r := runChain env o.dram o.free ps o.out
       { r with
         chain := ⟨t, some o.inst⟩ :: r.chain, inputs := xs :: r.inputs
         send := if o.send = none then r.send else o.send }))) ∧
  (∀ (ins : List (List Stereo)) (dram : List (Nat × Word32)) (free : Nat),
    runLanes ins dram free [] = (List.replicate 32 (0, 0), [], dram, free) ∧
    ∀ (l : Lane) (ls : List Lane), runLanes ins dram free (l :: ls) =
      (let a := runLane ins dram free l
       let b := runLanes ins a.2.2.1 a.2.2.2 ls
       (List.zipWith (fun x y => (x.1 + y.1, x.2 + y.2)) a.1 b.1, a.2.1 :: b.2.1, b.2.2.1, b.2.2.2))) ∧
  (∀ (b : Bool) (x : State),
    let chain := fun (r : Ramp) =>
      ({ x with tone := { x.tone with chainGain := r, chainRested := x.tone.chainRested || b } } : State)
    let mute := fun (r : Ramp) => ({ x with tone := { x.tone with mute := r } } : State)
    let land := fun (r : Ramp) (v : Int) (n : Nat) => if b then (⟨v, v, 0⟩ : Ramp) else ⟨r.cur, v, if n = 0 then 1 else n⟩
    (∀ v n, applyChange b (.gainTarget .chain v n) x = chain (land x.tone.chainGain v n)) ∧
    (∀ v, applyChange b (.gainSet .chain v) x = chain ⟨v, v, 0⟩) ∧
    (∀ v n, applyChange b (.gainTarget .master v n) x =
      { x with tone := { x.tone with master := land x.tone.master v n } }) ∧
    (∀ v, applyChange b (.gainSet .master v) x = { x with tone := { x.tone with master := ⟨v, v, 0⟩ } }) ∧
    (x.tone.mute.cur = 0 → x.tone.mute.target = 0 → applyChange b .muteFall x = x) ∧
    (x.tone.mute.cur ≠ 0 ∨ x.tone.mute.target ≠ 0 → applyChange b .muteFall x = mute (land x.tone.mute 0 4)) ∧
    (∀ n, applyChange b (.muteRise n) x = mute (land x.tone.mute 32768 n)) ∧
    applyChange b .muteZero x = mute ⟨0, 0, 0⟩)

/-- R7, R8, R10, R14, R15 and R21: the ends of fades. A closing gate at rest at 0 is CLOSED; a falling resolve fade at 0, or
at bypass weight 0, releases the area read and resolves the image slot; weight 0 ends a rising resolve fade; a cross-fade's
end, at a position or in a lane, makes the new tap the only one and takes up a held change. Where the fade has not ended,
nothing happens. And how fades begin (R2, R3, R6, R9, R10, R14, R15, R34, R41): a parameter taken up is clamped, ramps over 8
frames in the level class and steps otherwise, and renews what derives from it; a bypass change ramps over 4; a CAB's new
image falls first, at weight 0 or in a loss it is resolved at once; a new D or size cross-fades over 8 frames, waits for a
running cross-fade, or lands in a loss; sync going off leaves no length handed (R141); what goes to no instance is discarded.
The model's choices: a held or rising fade takes its first step at the next boundary (log 11), the history taken keeps the 32
samples of that boundary's frame (log 16), and weight 0 during the fade back up keeps the history (log 60). -/
def Obligations.FadesEndAtTheirRest : Prop :=
  let crossed := fun (c : Instr) (i : Inst) (put : Proc → State) (s : State) =>
    (∀ w d n held syn f cl, i.proc = .delay w d (some n) held syn f cl →
      (f.n ≠ 0 → exec c s = .next s) ∧
      (f.n = 0 → held = none ∨ held = some n → exec c s = .next (put (.delay w n none none syn (.rest 0) cl))) ∧
      (∀ h, f.n = 0 → held = some h → h ≠ n → exec c s = .next (put (.delay w n (some h) none syn ⟨0, 32768, 8⟩
        (decide (parCur i 1 = 1 ∧ delayCap i.lclass < syn.getD 0)))))) ∧
    (∀ z n held f, i.proc = .reverb z (some n) held f →
      (f.n ≠ 0 → exec c s = .next s) ∧
      (f.n = 0 → held = none ∨ held = some n → exec c s = .next (put (.reverb n none none (.rest 0)))) ∧
      (∀ h, f.n = 0 → held = some h → h ≠ n → exec c s = .next (put (.reverb n (some h) none ⟨0, 32768, 8⟩)))) ∧
    ((∀ w d n held syn f cl, i.proc ≠ .delay w d (some n) held syn f cl) →
      (∀ z n held f, i.proc ≠ .reverb z (some n) held f) → exec c s = .next s)
  (∀ (s : State) (pos : Nat) (t : SlotType) (i : Inst), live s = true → s.tone.chain[pos]? = some ⟨t, some i⟩ →
    let put := fun (p : Proc) =>
      ({ s with tone := { s.tone with chain := s.tone.chain.set pos ⟨t, some { i with proc := p }⟩ } } : State)
    let slot := (parCur i 0).toNat
    (∀ g peak, i.proc = .gate g peak .closing → g.cur = 0 → g.n = 0 →
      exec (.gateClosed pos) s = .next (put (.gate g peak .closed))) ∧
    (∀ g peak st, i.proc = .gate g peak st → (st ≠ .closing ∨ g.cur ≠ 0 ∨ g.n ≠ 0) → exec (.gateClosed pos) s = .next s) ∧
    (∀ img miss hist g, i.proc = .cab img miss hist g .falling →
      let m := releaseImage img s.area
      (i.weight.cur = 0 → i.weight.n = 0 → s.area.table.getD slot none = none →
        exec (.bypassWeightZero pos) s = .next { put (.cab none true [] (.rest 32768) .steady) with area := m }) ∧
      (∀ a taps ref k, i.weight.cur = 0 → i.weight.n = 0 → s.area.table.getD slot none = some (a, taps) →
        m.areas[a]? = some (.image k taps ref) →
        exec (.bypassWeightZero pos) s = .next { put (.cab (some (a, taps)) false [] (.rest 32768) .steady) with
          area := { m with areas := m.areas.set a (.image k taps (ref + 1)) } }) ∧
      (g.cur = 0 → g.n = 0 → s.area.table.getD slot none = none →
        exec (.resolveFadeEnd pos) s = .next { put (.cab none true (hist.take (if present s then 32 else 0))
          ⟨0, 32768, 4⟩ .rising) with area := m }) ∧
      (∀ a taps ref k, g.cur = 0 → g.n = 0 → s.area.table.getD slot none = some (a, taps) →
        m.areas[a]? = some (.image k taps ref) →
        exec (.resolveFadeEnd pos) s = .next { put (.cab (some (a, taps)) false
          (hist.take (if present s then 32 else 0)) ⟨0, 32768, 4⟩ .rising) with
          area := { m with areas := m.areas.set a (.image k taps (ref + 1)) } }) ∧
      (g.cur ≠ 0 ∨ g.n ≠ 0 → exec (.resolveFadeEnd pos) s = .next s)) ∧
    (∀ img miss hist g ph, i.proc = .cab img miss hist g ph → ph ≠ .falling →
      exec (.resolveFadeEnd pos) s = .next s ∧
      (i.weight.cur = 0 → i.weight.n = 0 → g.n ≠ 0 →
        exec (.bypassWeightZero pos) s = .next (put (.cab img miss hist (.rest 32768) .steady)))) ∧
    ((i.weight.cur ≠ 0 ∨ i.weight.n ≠ 0) → exec (.bypassWeightZero pos) s = .next s) ∧
    crossed (.crossFadeEnd (.live pos)) i put s) ∧
  (∀ (s : State) (l : Fin 4) (x : Lane) (i : Inst), live s = true → s.tone.lanes[l.val]? = some x → x.inst = some i →
    crossed (.crossFadeEnd (.lane l)) i
      (fun p => { s with tone := { s.tone with lanes := s.tone.lanes.set l.val { x with inst := some { i with proc := p } } } })
      s) ∧
  (∀ (b : Bool) (i : Inst),
    let cap := if i.lclass = .long then 262143 else 131071
    let sync := parCur i 1 = 1
    (∀ w d next held syn f cl, i.proc = .delay w d next held syn f cl →
      let aim := (match next with | none => d | some n => held.getD n)
      let kept := if sync then syn else none
      let capped := if sync then (match syn with | some n => decide (cap < n) | none => cl) else false
      let want := if sync then syn.map fun n => if cap < n then cap else n else some (48 * parCur i 0).toNat
      let gives := fun (d : Nat) (next held : Option Nat) (f : Ramp) =>
        retime b i = { i with proc := .delay w d next held kept f (if held = none then capped else cl) }
      (want = none ∨ want = some aim → gives d next held f) ∧
      (∀ v, want = some v → v ≠ aim → b = true → gives v none none (.rest 0)) ∧
      (∀ v, want = some v → v ≠ aim → b = false → next = none → gives d (some v) none ⟨0, 32768, 8⟩) ∧
      (∀ v n, want = some v → v ≠ aim → b = false → next = some n → v ≠ n → gives d (some n) (some v) f) ∧
      (∀ n, want = some n → n ≠ aim → b = false → next = some n → gives d (some n) none f)) ∧
    (∀ z next held f, i.proc = .reverb z next held f →
      let aim := (match next with | none => z | some n => held.getD n)
      let v := parCur i 0
      let gives := fun (z : Int) (next held : Option Int) (f : Ramp) => retime b i = { i with proc := .reverb z next held f }
      (v = aim → gives z next held f) ∧
      (v ≠ aim → b = true → gives v none none (.rest 0)) ∧
      (v ≠ aim → b = false → next = none → gives z (some v) none ⟨0, 32768, 8⟩) ∧
      (∀ n, v ≠ aim → b = false → next = some n → gives z (some n) (if v = n then none else some v) f)) ∧
    ((∀ w d next held syn f cl, i.proc ≠ .delay w d next held syn f cl) →
      (∀ z next held f, i.proc ≠ .reverb z next held f) → retime b i = i)) ∧
  (∀ (b : Bool) (x : State) (pos idx : Nat) (v : Int),
    ((x.tone.chain[pos]?).bind (·.inst) = none → ∀ on n l m, ∀ c ∈ [Change.param pos idx v, .bypass pos on, .syncLen pos n,
      .move pos l m], applyChange b c x = x) ∧
    (∀ (t : SlotType) (i : Inst), x.tone.chain[pos]? = some ⟨t, some i⟩ →
      let at_ := fun (j : Inst) =>
        ({ x with tone := { x.tone with chain := x.tone.chain.set pos ⟨t, some j⟩ } } : State)
      let take := applyChange b (.param pos idx v) x
      let weighed := fun (on : Bool) => ({ i with
        bypass := on
        weight := (let w : Int := if on then 0 else 32768
          if b then ⟨w, w, 0⟩ else ⟨i.weight.cur, w, 4⟩) } : Inst)
      (∀ on, b = false ∨ (∀ a c d e f, i.proc ≠ .cab a c d e f) → applyChange b (.bypass pos on) x = at_ (weighed on)) ∧
      (∀ on, b = true → applyChange b (.bypass pos on) x = weightZero pos (at_ (weighed on))) ∧
      (live x = true → exec (.bypassWeightZero pos) x = .next (weightZero pos x)) ∧
      ((paramSpecs i.stype i.lclass)[idx]? = none → take = x) ∧
      (∀ q, (paramSpecs i.stype i.lclass)[idx]? = some q →
        let w := if v < q.lo then q.lo else if q.hi < v then q.hi else v
        let p : Ramp := if q.level = true ∧ b = false then ⟨(i.params.getD idx (.rest 0)).cur, w, 8⟩ else ⟨w, w, 0⟩
        let j : Inst := { i with params := i.params.set idx p }
        let length := (i.stype = .delay ∧ idx ≤ 1) ∨ (i.stype = .reverb ∧ idx = 0)
        let told := fun (z : State) => if i.stype = .delay ∧ idx = 1 ∧ parCur j 1 ≠ 1 then
          { z with clk := { x.clk with handed := x.clk.handed.set pos none } } else z
        (¬ (i.stype = .cab ∧ idx = 0) → ¬ (b = true ∧ length) →
          ((∀ e a r, i.proc ≠ .comp e a r) → (∀ a c d e f g, i.proc ≠ .amp a c d e f g) → take = told (at_ j)) ∧
          (∀ e a r, i.proc = .comp e a r → take = told (at_ { j with
            proc := .comp e (if idx = 2 then compCoeff w else a) (if idx = 3 then compCoeff w else r) })) ∧
          (∀ tb sets co hl hr e, i.proc = .amp tb sets co hl hr e → take = told (at_ { j with
            proc := .amp tb sets (if 1 ≤ idx ∧ idx ≤ 3 then co.set (idx - 1) (ampTone sets (idx - 1) w.toNat) else co)
              hl hr e }))) ∧
        (b = true → length → (∀ e a r, i.proc ≠ .comp e a r) → (∀ a c d e f g, i.proc ≠ .amp a c d e f g) →
          take = told (at_ (retime true j))) ∧
        (∀ img miss hist g ph, i.stype = .cab → idx = 0 → i.proc = .cab img miss hist g ph →
          let m := releaseImage img x.area
          let slot := (parCur j 0).toNat
          (b = false → i.weight.cur ≠ 0 → ph = .falling → take = at_ j) ∧
          (b = false → i.weight.cur ≠ 0 → ph ≠ .falling →
            take = at_ { j with proc := .cab img miss hist ⟨g.cur, 0, 4⟩ .falling }) ∧
          (b = true ∨ i.weight.cur = 0 → m.table.getD slot none = none →
            take = { at_ { j with proc := .cab none true [] (.rest 32768) .steady } with area := m }) ∧
          (∀ a taps k ref, b = true ∨ i.weight.cur = 0 → m.table.getD slot none = some (a, taps) →
            m.areas[a]? = some (.image k taps ref) →
            take = { at_ { j with proc := .cab (some (a, taps)) false [] (.rest 32768) .steady } with
              area := { m with areas := m.areas.set a (.image k taps (ref + 1)) } }))) ∧
      (∀ wp d next held syn f cl n, i.proc = .delay wp d next held syn f cl →
        let j : Inst := { i with proc := .delay wp d next held (some n) f cl }
        applyChange b (.syncLen pos n) x = if parCur i 1 ≠ 1 then x else if b then at_ (retime true j) else at_ j) ∧
      (∀ n, (∀ w d next held syn f cl, i.proc ≠ .delay w d next held syn f cl) → applyChange b (.syncLen pos n) x = x)))

/-- R22 and R23: a lane in FEEDING or RINGING whose timer the coming boundary takes to 0 (the row's reading of a boundary to
come: the model's choice, log 17), or the lane of a DELAY that has been quiet for 2,048 samples, starts its cut fade of 8 frames;
a cut fade at rest at 0 empties the lane, frees its areas, takes it from the order and from the evictions a switch waits for, and
is reported to a switch in FADING_OUT. Otherwise nothing. Beside them a lane's life in the Tone Engine: the move (R20, R21), the
eviction (R23), the immediate cut (R24), the drop (R46), the rebuild with the new chain's lengths, images and areas (R2, R10,
R14, R46, R47, R141), the natural end at a boundary (R22), and the lane's audio with its quiet counter (R21, R22, R25; the
product with the feed gain is floored, the model's choice, log 15). And the figures of R18: the live cost, number, state and cost
of each occupied lane, their sum, and the LINE areas held; a move and an eviction keep the sum, and a lane counts in it until it
becomes EMPTY. -/
def Obligations.LanesEndByTheirCutFade : Prop :=
  let cutting := fun (x : Lane) => ({ x with st := .cutting, tail := ⟨x.tail.cur, 0, 8⟩ } : Lane)
  let line := fun (i : Inst) => i.stype = .delay ∨ i.stype = .reverb
  let areasOf := fun (l : List Inst) => l.flatMap (·.areas)
  (∀ (l : Fin 4) (x : Lane) (s : State), live s = true → (prelude s).tone.lanes[l.val]? = some x →
    let y := prelude s
    let cut : State := { y with tone := { y.tone with lanes := y.tone.lanes.set l.val (cutting x) } }
    let rings := x.st = .feeding ∨ x.st = .ringing
    (rings → x.timer ≤ 32 → exec (.tailTimerExpiry l) s = .next cut) ∧
    (¬ rings ∨ 32 < x.timer → exec (.tailTimerExpiry l) s = .next y) ∧
    (∀ i, x.inst = some i → i.stype = .delay → rings → 2048 ≤ x.quiet → exec (.laneQuiet l) s = .next cut) ∧
    (¬ rings ∨ x.quiet < 2048 → exec (.laneQuiet l) s = .next y) ∧
    (∀ i, x.inst = some i → i.stype ≠ .delay → exec (.laneQuiet l) s = .next y)) ∧
  (∀ (l : Fin 4) (x : Lane) (s : State), live s = true → s.tone.lanes[l.val]? = some x →
    let due := x.st = .cutting ∧ x.tail.n = 0 ∧ x.tail.cur = 0
    (¬ due → exec (.cutFadeEnd l) s = .next s) ∧
    (due → exec (.cutFadeEnd l) s = .next { s with
      tone := { s.tone with
        lanes := s.tone.lanes.set l.val Lane.clear, order := s.tone.order.filter (· != l.val) }
      area := freeAreaList ((x.inst.map (·.areas)).getD []) s.area
      sw := { s.sw with
        inflight := s.sw.inflight.map fun f => { f with evicting := f.evicting.filter (· != l.val) }
        laneReports := if engine s = some .fadingOut then s.sw.laneReports ++ [l.val] else s.sw.laneReports } })) ∧
  (∀ (h : Holder) (l : List Nat) (m : AreaMan) (a : Nat),
    freeAreaList l m = { m with areas := (freeAreaList l m).areas } ∧
    reholdList h l m = { m with areas := (reholdList h l m).areas } ∧
    (a ∈ l → a < m.areas.length → (freeAreaList l m).areas[a]? = some .free) ∧
    (a ∉ l → (freeAreaList l m).areas[a]? = m.areas[a]? ∧ (reholdList h l m).areas[a]? = m.areas[a]?) ∧
    (∀ g r k, m.areas[a]? = some (.line g r k) → a ∈ l → (reholdList h l m).areas[a]? = some (.line h r k)) ∧
    (∀ g, m.areas[a]? = some g → (∀ g r k, m.areas[a]? ≠ some (.line g r k)) →
      (reholdList h l m).areas[a]? = some g)) ∧
  (∀ (b : Bool) (pos len : Nat) (l : Fin 4) (x : State),
    let y := laneOf x l.val
    (∀ t i, x.tone.chain[pos]? = some ⟨t, some i⟩ →
      (line i → y.st = .empty → applyChange b (.move pos l len) x = { x with
        area := reholdList (.lane l.val) i.areas x.area
        tone := { x.tone with
          chain := x.tone.chain.set pos ⟨t, none⟩, order := x.tone.order ++ [l.val]
          lanes := x.tone.lanes.set l.val
            ⟨.feeding, some (retime false i), pos, true, ⟨32768, 0, if len = 0 then 1 else len⟩, .rest x.tone.chainGain.cur,
              parCur i (if i.stype = .delay then 5 else 4) * 4800, 0⟩ } }) ∧
      (¬ line i ∨ y.st ≠ .empty → applyChange b (.move pos l len) x = x)) ∧
    (y.st = .feeding ∨ y.st = .ringing → applyChange b (.evict l) x =
      { x with tone := { x.tone with lanes := x.tone.lanes.set l.val (cutting y) } }) ∧
    (y.st = .empty ∨ y.st = .cutting → applyChange b (.evict l) x = x)) ∧
  (∀ (b : Bool) (x : State), x.tone.lanes.length = 4 →
    let stays := fun (k : Nat) => (x.tone.lanes.getD k Lane.clear).st == .empty
    applyChange b .cutAll x = { x with
      area := freeAreaList (areasOf ((x.tone.lanes.filter (·.st != .empty)).filterMap (·.inst))) x.area
      tone := { x.tone with
        lanes := x.tone.lanes.map fun y => if y.st = .empty then y else Lane.clear
        order := x.tone.order.filter stays }
      sw := { x.sw with laneReports := [], inflight := x.sw.inflight.map fun f =>
        { f with deferred := [], evicting := f.evicting.filter stays } } }) ∧
  (∀ (b : Bool) (x : State), let insts := x.tone.chain.filterMap (·.inst)
    (∀ i ∈ insts, line i → ∀ a c d e f, i.proc ≠ .cab a c d e f) →
    applyChange b .drop x = { x with
      area := freeAreaList (areasOf (insts.filter fun i => holdsLine i.stype)) x.area
      tone := { x.tone with chain := x.tone.chain.map fun p =>
        if (p.inst.map fun i => holdsLine i.stype) = some true then { p with inst := none } else p } }) ∧
  (∀ (b : Bool) (insts : List Inst) (x : State),
    let z := applyChange b (.rebuild insts) x
    let old := x.tone.chain.filterMap (·.inst)
    let cab := fun (i : Inst) => ∃ a c d e f, i.proc = .cab a c d e f
    let images := fun (i : Inst) => x.area.table.getD (parCur i 0).toNat none
    let tempo := x.clk.tempo
    z = { x with
      tone := { x.tone with chain := z.tone.chain, lanes := x.tone.lanes.map fun l => { l with
        fed := false, st := if l.st = .feeding then .ringing else l.st, quiet := if l.st = .feeding then 0 else l.quiet } }
      clk := { x.clk with handed := z.clk.handed }, area := { x.area with areas := z.area.areas } } ∧
    z.tone.chain.length = insts.length ∧ z.clk.handed.length = 12 ∧
    (∀ k i, insts[k]? = some i →
      let at_ := fun (p : Proc) => z.tone.chain[k]? = some ⟨i.stype, some { i with proc := p }⟩
      let synced := fun (n : Option Nat) => k < 12 → z.clk.handed[k]? = some n
      (∀ w d next held syn f cl, i.proc = .delay w d next held syn f cl →
        let n := beatLen tempo * (division (parCur i 2)).1 / ((division (parCur i 2)).2 * 256)
        let cap := if i.lclass = .long then 262143 else 131071
        (parCur i 1 ≠ 1 → at_ (.delay w (48 * parCur i 0).toNat none none none (.rest 0) false) ∧ synced none) ∧
        (parCur i 1 = 1 →
          at_ (.delay w (if cap < n then cap else n) none none (some n) (.rest 0) (decide (cap < n))) ∧ synced (some n))) ∧
      (∀ img miss hist g ph, i.proc = .cab img miss hist g ph →
        at_ (.cab (images i) (images i).isNone [] (.rest 32768) .steady) ∧ synced none) ∧
      (¬ cab i → (∀ w d next held syn f cl, i.proc ≠ .delay w d next held syn f cl) → at_ i.proc ∧ synced none)) ∧
    ((∀ i ∈ old ++ insts, ¬ cab i) → z.area = ((List.range insts.length).zip insts).foldl
      (fun m p => reholdList (.live p.1) p.2.areas m) (freeAreaList (areasOf old) x.area)) ∧
    (∀ a k taps refs, x.area.areas[a]? = some (.image (some k) taps refs) → (∀ i ∈ old, a ∈ i.areas → cab i) →
      (∀ i ∈ insts, ∀ img c d e f, i.proc = .cab img c d e f → img = none) →
      let reads := fun (i : Inst) => (match i.proc with
        | .cab (some (c, _)) _ _ _ _ => c == a
        | _ => false)
      let will := fun (i : Inst) => (match i.proc, images i with
        | .cab _ _ _ _ _, some (c, _) => c == a
        | _, _ => false)
      z.area.areas[a]? = some (.image (some k) taps (refs - (old.filter reads).length + (insts.filter will).length)))) ∧
  (∀ l : Lane,
    let t := l.timer - 32
    let rings := l.st = .feeding ∨ l.st = .ringing
    let due := t ≤ 0 ∨ (2048 ≤ l.quiet ∧ ∃ i, l.inst = some i ∧ i.stype = .delay)
    (l.st = .empty → laneNatural l = l) ∧ (l.st = .cutting → laneNatural l = { l with timer := t }) ∧
    (rings → ¬ due → laneNatural l = { l with timer := t }) ∧
    (rings → due → laneNatural l = { cutting l with timer := t })) ∧
  (∀ (ins : List (List Stereo)) (dram : List (Nat × Word32)) (free : Nat) (l : Lane),
    let silent := List.replicate 32 (0, 0)
    let ended := l.st = .cutting ∧ l.tail.n = 0 ∧ l.tail.cur = 0
    (l.inst = none ∨ ended → runLane ins dram free l = (silent, l, dram, free)) ∧
    (∀ i, l.inst = some i → ¬ ended →
      let xs := if l.fed then
          (ins.getD l.former silent).map fun x => (x.1 * l.feed.cur / 32768, x.2 * l.feed.cur / 32768)
        else silent
      let r := runLine dram free i xs
      runLane ins dram free l =
        (r.out.map fun y => (y.1 * l.tail.cur / 32768, y.2 * l.tail.cur / 32768),
          { l with inst := some r.inst, quiet := if l.st = .ringing ∧ i.stype = .delay then quietCount l.quiet r.out else l.quiet },
          r.dram, r.free))) ∧
  (∀ (q : Nat) (ys : List Stereo) (y : Stereo), quietCount q [] = q ∧
    quietCount q (ys ++ [y]) = if |y.1| < 4096 ∧ |y.2| < 4096 then quietCount q ys + 1 else 0) ∧
  (∀ x : State,
    let costOf := fun (i : Option Inst) => (i.map fun i => slotCost i.stype i.lclass).getD 0
    let held := fun (i : Option Inst) => (i.map (·.areas)).getD []
    let chain := x.tone.chain.map (·.inst)
    let lanes := x.tone.lanes.map (·.inst)
    let f := figures x
    f.live = (chain.map costOf).sum ∧ f.total = f.live + (lanes.map costOf).sum ∧ f.liveAreas = chain.map held ∧
    f.laneAreas = lanes.map held ∧
    (∀ k st c, (k, st, c) ∈ f.lanes ↔ ∃ y, x.tone.lanes[k]? = some y ∧ y.st ≠ .empty ∧ st = y.st ∧ c = costOf y.inst) ∧
    (f.lanes.map (·.1)).Pairwise (· < ·) ∧
    (∀ (b : Bool) (pos len : Nat) (l : Fin 4) (y : Lane), x.tone.lanes[l.val]? = some y → y.inst = none →
      totalCost (applyChange b (.move pos l len) x) = totalCost x) ∧
    (∀ (b : Bool) (l : Fin 4), totalCost (applyChange b (.evict l) x) = totalCost x) ∧
    (∀ (l : Fin 4) (y : Lane), live x = true → x.tone.lanes[l.val]? = some y → y.st = .cutting → y.tail.n = 0 → y.tail.cur = 0 →
      ∃ z, exec (.cutFadeEnd l) x = .next z ∧ totalCost z + costOf y.inst = totalCost x))

/-- R192 and R193 with R3, R24, R27, R40, R112, R129, R135, R136 and R142, here with no change waiting: the watchdog's expiry
in PRESENT declares the loss; in RETURNING and LOST it leaves LOST. Chain gain and master level keep value, target and count
(log 12). Of a switch in flight, one in LOADING goes on, one in FADING_OUT has the chain gain at rest at 0 and its deferred
candidates CUT, one in FADING_IN or RAMPING is DONE at the recorded chain level, RAMPING with the level parameters landed
(log 13): a link's outcome record (of a stash copy or a REBUILD as log 22 names it) or the cue's outcome field says so, and a
cue with a guard opens its window. An edge in LOST starts RETURNING; there a clean interval counts up to 512 and another
returns the count to 0; at 512 the return is declared, the count is 0 from then on (the model's choice, log 57) and the
factor rises from 0. In PRESENT an edge is one sample period (log 17). A change handed while the clock is lost is taken up at
once: gains, bypass weight and level parameters land at their targets, a new delay length or reverb size ends the cross-fade,
and a DELAY or REVERB whose length or size does not change keeps it. -/
def Obligations.ClockLossAndReturn : Prop :=
  (∀ s : State, live s = true →
    let y := prelude s
    (y.mon.watchdog = false → exec .watchdogExpiry s = .next y) ∧
    (y.mon.watchdog = true → y.mon.state ≠ .present → exec .watchdogExpiry s = .next { y with mon := ⟨.lost, 0, false⟩ }) ∧
    (y.mon.watchdog = true → y.mon.state = .present → y.tone.changes = [] →
      y.tone.holders.clock = false → y.tone.lanes.length = 4 →
      ∃ z, exec .watchdogExpiry s = .next z ∧
        z = { y with
          mon := ⟨.lost, 0, false⟩, tone := z.tone, area := z.area, sw := z.sw, link := z.link
          tuner := { y.tuner with
            det := {}, ring := [], outliers := 0, prevStamp := none, reading := none, noSignal := false, state := .silent }
          clk := { y.clk with
            cues := z.clk.cues, tapLast := none, taps := [], pulseLast := none, pulses := [], pulseCount := 0
            transport := if y.clk.transport = .running then .held else y.clk.transport } } ∧
        z.tone.holders = { y.tone.holders with clock := true } ∧ z.tone.mute.cur = 0 ∧ z.tone.mute.target = 0 ∧
        z.tone.mainOut = List.replicate 32 (0, 0) ∧ z.tone.sendOut = List.replicate 32 (0, 0) ∧
        z.tone.master = y.tone.master ∧ (∀ x ∈ z.tone.lanes, x.st = .empty) ∧
        (let told := if y.tuner.state = .silent then (raise .clock y).link else (raise .clock (raise .tuner y)).link
         let ended := (raise .scene { y with link := told }).link
         (y.sw.inflight = none → z.sw = { y.sw with laneReports := [] } ∧ z.link = told ∧ z.tone.chain = y.tone.chain ∧
          z.tone.chainGain = y.tone.chainGain ∧ z.clk.cues = y.clk.cues) ∧
         (∀ f, y.sw.inflight = some f → f.phase = .loading ∨ f.phase = .fadingOut →
          z.link = told ∧ z.tone.chain = y.tone.chain ∧ z.clk.cues = y.clk.cues ∧
          z.tone.chainGain = (if f.phase = .loading then y.tone.chainGain else .rest 0) ∧
          (f.phase = .fadingOut → z.tone.chainRested = true) ∧
          z.sw = { y.sw with laneReports := [], inflight := some { f with
            deferred := [], evicting := f.evicting.filter fun l => (y.tone.lanes.getD l Lane.clear).st == .empty } }) ∧
         (∀ f, y.sw.inflight = some f → f.phase = .fadingIn ∨ f.phase = .ramping →
          let idle : SwitchEng := { y.sw with inflight := none, laneReports := [] }
          let b := y.scene.buffer
          z.tone.chainGain = .rest y.sw.level ∧ z.tone.chainRested = false ∧
          z.tone.chain = (if f.phase = .fadingIn then y.tone.chain else y.tone.chain.map fun p =>
            { p with inst := p.inst.map fun i => { i with params := i.params.map fun r => .rest r.target } }) ∧
          (∀ l n k, f.req.origin = .link l →
            (∃ m j, f.req.target = .preset m j ∧ n = some m ∧ k = j) ∨
              (∃ e, f.req.target = .stash e ∧ n = e.preset ∧ k = e.scene) ∨
              (f.req.target = .rebuild ∧ n = b.preset ∧ k = b.scene) →
            z.clk.cues = y.clk.cues ∧ z.link = ended ∧
            z.sw = { idle with outcomes := y.sw.outcomes.set l.val ⟨n, some k, .done⟩ }) ∧
          (∀ t, f.req.origin = .cue t →
            z.sw = { idle with guard := if f.req.guard = 0 then y.sw.guard else some (f.req.precedence, f.req.guard) } ∧
            z.clk.cues = y.clk.cues.map (fun q => if q.tag = t then { q with outcome := .done } else q) ∧
            z.link = if ∃ q ∈ y.clk.cues, q.tag = t then (raise .cue { y with link := ended }).link else ended)))) ∧
    (∀ x : State, present x = false →
      (∀ c, hand c x = applyChange true c x) ∧
      (∀ v n, hand (.gainTarget .chain v n) x =
        { x with tone := { x.tone with chainGain := .rest v, chainRested := true } }) ∧
      (∀ v n, hand (.gainTarget .master v n) x = { x with tone := { x.tone with master := .rest v } }) ∧
      (∀ n, hand (.muteRise n) x = { x with tone := { x.tone with mute := .rest 32768 } }) ∧
      (∀ (pos : Nat) (t : SlotType) (i : Inst), x.tone.chain[pos]? = some ⟨t, some i⟩ →
        let at_ := fun (j : Inst) =>
          ({ x with tone := { x.tone with chain := x.tone.chain.set pos ⟨t, some j⟩ } } : State)
        (∀ on, (∀ a b c d e, i.proc ≠ .cab a b c d e) → hand (.bypass pos on) x =
          at_ { i with bypass := on, weight := .rest (if on then 0 else 32768) }) ∧
        (∀ idx v q, (paramSpecs i.stype i.lclass)[idx]? = some q →
          (i.stype = .delay ∧ 2 ≤ idx) ∨ (i.stype = .reverb ∧ 1 ≤ idx) →
          (∀ a b c, i.proc ≠ .comp a b c) → (∀ a b c d e f, i.proc ≠ .amp a b c d e f) →
          hand (.param pos idx v) x =
            at_ { i with params := i.params.set idx (.rest (if v < q.lo then q.lo else if q.hi < v then q.hi else v)) }) ∧
        (∀ w d next held syn fade cl v r0 rest, i.stype = .delay → i.lclass = .short → i.params = r0 :: rest →
          (rest.getD 0 (.rest 0)).cur = 0 → i.proc = .delay w d next held syn fade cl → 1 ≤ v → v ≤ 2730 →
          let j : Inst := { i with params := .rest v :: rest }
          (((48 * v).toNat = aimOf d next held → held = none →
            hand (.param pos 0 v) x = at_ { j with proc := .delay w d next held none fade false }) ∧
          ((48 * v).toNat ≠ aimOf d next held →
            hand (.param pos 0 v) x = at_ { j with proc := .delay w (48 * v).toNat none none none (.rest 0) false }))))) ∧
    (y.mon.state = .lost → ∀ n, exec (.afsEdge n) s = .next { y with mon := ⟨.returning, 0, true⟩ }) ∧
    (y.mon.state = .returning → ∀ n, 16000 ≤ n → n ≤ 26000 →
      exec (.afsEdge n) s = .next { y with mon := ⟨.returning, min 512 (y.mon.clean + 1), true⟩ }) ∧
    (y.mon.state = .returning → ∀ n, n < 16000 ∨ 26000 < n →
      exec (.afsEdge n) s = .next { y with mon := ⟨.returning, 0, true⟩ }) ∧
    (y.mon.state = .present → y.tone.framePhase < 32 → ∀ n, exec (.afsEdge n) s = .next { y with
      mon := { y.mon with watchdog := true }, tone := { y.tone with framePhase := y.tone.framePhase + 1 }
      tuner := { y.tuner with pos := y.tuner.pos + 1 }
      clk := { y.clk with
        pos := y.clk.pos + 1, sinceBeat := y.clk.sinceBeat + 1
        countdown := if y.clk.source = .external then y.clk.countdown else y.clk.countdown - 256 } }) ∧
    (y.mon.state = .present → 32 ≤ y.tone.framePhase →
      ∀ n, exec (.afsEdge n) s = .next { y with mon := { y.mon with watchdog := true } })) ∧
  (∀ s : State, live s = true →
    let back := fun (c : List Change) (h : Holders) => raise .clock { s with
      mon := { s.mon with state := .present, clean := 0 }
      tone := { s.tone with framePhase := 0, holders := h, changes := s.tone.changes ++ c } }
    (s.mon.state ≠ .returning ∨ s.mon.clean < 512 → exec .clockReturned s = .next s) ∧
    (s.mon.state = .returning → 512 ≤ s.mon.clean → s.tone.holders = ⟨false, false, false, true⟩ →
      exec .clockReturned s = .next (back [.muteZero, .muteRise 32] ⟨false, false, false, false⟩)) ∧
    (∀ a b c, s.mon.state = .returning → 512 ≤ s.mon.clean → s.tone.holders = ⟨a, b, c, true⟩ → (a || b || c) = true →
      exec .clockReturned s = .next (back [.muteZero] ⟨a, b, c, false⟩)))

/-! ## The Area Manager (chapter 3) -/

/-- R43 and R44: a line join takes the lowest FREE areas, as many as the chain needs; it is asked again when they suffice. A
fill's end makes its area's words 0 and the area READY, completes the switch's line join with its last area, and with the
first load's last area reaches RUNNING: the rebuild with the joined areas, the chain level, the satellite registers, the tempo and
the release of the start-up holder are handed (R28, R114, R191), and all else stays (`FirstLoaded`). Anything else leaves all as it
was. The model's choices: the start-up mark among the holders changes at once (log 43), and all pushes wait before a grant (log
58). -/
def Obligations.LinesJoinAndFill : Prop :=
  (∀ (chain : List SlotRec) (m : AreaMan), chainNeed chain ≤ freeAreas m →
    freeAreas (joinLines 0 chain m).2 + chainNeed chain = freeAreas m ∧
    (∀ j ∈ (joinLines 0 chain m).1, ∃ x, chain[j.1]? = some x ∧ j.2.length = lineNeed x.stype x.lclass ∧
      ∀ a ∈ j.2, m.areas[a]? = some .free)) ∧
  (∀ (pos need : Nat) (m : AreaMan), (joinLine pos need m).1 = (indicesFrom isFree 0 m.areas).take need) ∧
  (∀ (f : Inflight) (chain : List SlotRec) (s : State), live s = true → s.sw.inflight = some f →
    chain = (match f.loaded with
      | some l => l.record.chain
      | none => (s.scene.buffer.record.map (·.chain)).getD []) →
    (f.phase = .fadingOut → f.join = .waiting → chainNeed chain ≤ freeAreas s.area →
      exec .lineJoin s = .next { s with
        area := (joinLines 0 chain s.area).2
        sw := { s.sw with inflight := some { f with
          joined := (joinLines 0 chain s.area).1
          join := if (joinLines 0 chain s.area).1 = [] then .complete else .filling } } }) ∧
    (f.phase ≠ .fadingOut ∨ f.join ≠ .waiting ∨ freeAreas s.area < chainNeed chain → exec .lineJoin s = .next s)) ∧
  (∀ (a : Fin 32) (h : Holder) (second : Bool) (s : State), live s = true →
    let y := prelude s
    let m : AreaMan := { y.area with
      dram := dramClear y.area.dram (a.val * 262144) ((a.val + 1) * 262144)
      areas := y.area.areas.set a.val (.line h true second) }
    let z : State := { y with
      area := m
      sw := { y.sw with inflight := y.sw.inflight.map fun f =>
        if f.join = .filling ∧ joinReady m f.joined = true then { f with join := .complete } else f } }
    (isFilling y.area a.val = false → exec (.fillCompletion a) s = .next y) ∧
    (y.area.areas[a.val]? = some (.line h false second) →
      y.startup.phase ≠ .firstLoad ∨ joinReady m y.startup.joined = false → exec (.fillCompletion a) s = .next z) ∧
    (∀ l, y.area.areas[a.val]? = some (.line h false second) → y.startup.phase = .firstLoad →
      joinReady m y.startup.joined = true → y.startup.load = some l →
      ∃ t, exec (.fillCompletion a) s = .next t ∧ FirstLoaded l y.startup.joined z t))

/-- R48 to R54: the requests of an image upload and its lapse timer, each with its refusals in order. A joined area is LOADING
with two words a tap to come; words are stored as word × 65536 in index order, no more than remain; an unjoin or a lapse frees
the area and is recorded; an image save with every word stored begins the image store. -/
def Obligations.UploadsRunTheirCourse : Prop :=
  (∀ (p : Pkt) (s : State), Ready p 16 s →
    let l := p.link
    let upload := fun (y : State) => (y.area.uploads.getD l.val ⟨none, .none⟩).area
    (∀ taps, let y := heard p 0x2F s
      let no := fun (st : Status) => exec (.areaJoin p taps) s = .next (filled p 0x2F st [] y)
      (taps ≠ 256 → taps ≠ 512 → taps ≠ 1024 → no .badArg) ∧
      (taps = 256 ∨ taps = 512 ∨ taps = 1024 → (upload y ≠ none → no .full) ∧
        (upload y = none → y.sw.reservation = true → no .noArea) ∧
        (upload y = none → y.sw.reservation = false → (∀ x ∈ y.area.areas, x ≠ .free) → no .noArea) ∧
        (∀ a, upload y = none → y.sw.reservation = false → y.area.areas[a]? = some .free →
          (∀ b, b < a → y.area.areas[b]? ≠ some .free) →
          exec (.areaJoin p taps) s = .next (filled p 0x2F .ok (byte a :: be2 (2 * taps)) { y with area := { y.area with
            areas := y.area.areas.set a (.loading l taps (2 * taps) false true)
            uploads := modAt y.area.uploads l.val fun u => { u with area := some a } } })))) ∧
    (∀ ws, let y := heard p 0x30 s
      let no := exec (.areaWrite p ws) s = .next (filled p 0x30 .badArg [] y)
      (ws = [] ∨ 120 < ws.length → no) ∧ (upload y = none → no) ∧
      (∀ a k taps rem t, upload y = some a → y.area.areas[a]? = some (.loading k taps rem true t) → no) ∧
      (∀ a k taps rem t, ws ≠ [] → ws.length ≤ 120 → upload y = some a →
        y.area.areas[a]? = some (.loading k taps rem false t) →
        let n := min ws.length rem
        exec (.areaWrite p ws) s = .next (filled p 0x30 (okOr (decide (n < ws.length))) (byte n :: be2 (rem - n))
          { y with area := { y.area with
            dram := dramWriteAll y.area.dram (a * 262144 + (taps * 2 - rem))
              ((ws.take n).map fun x => BitVec.ofInt 32 (x * 65536))
            areas := y.area.areas.set a (.loading k taps (rem - n) false true) } }))) ∧
    (let y := heard p 0x31 s
     let no := exec (.areaUnjoin p) s = .next (filled p 0x31 .badArg [] y)
     (upload y = none → no) ∧
     (∀ a k taps rem t, upload y = some a → y.area.areas[a]? = some (.loading k taps rem true t) → no) ∧
     (∀ a k taps rem t, upload y = some a → y.area.areas[a]? = some (.loading k taps rem false t) →
       exec (.areaUnjoin p) s = .next (filled p 0x31 .ok [byte a] { y with area := { y.area with
         areas := y.area.areas.set a .free, uploads := y.area.uploads.set l.val ⟨none, .unjoined⟩ } }))) ∧
    (∀ slot, let y := heard p 0x32 s
      let no := fun (st : Status) => exec (.imageSave p slot) s = .next (filled p 0x32 st [] y)
      (16 ≤ slot → no .badArg) ∧ (upload y = none → no .badArg) ∧
      (∀ a k taps rem b t, upload y = some a → y.area.areas[a]? = some (.loading k taps rem b t) → b = true ∨ rem ≠ 0 →
        no .badArg) ∧
      (∀ a k taps t, slot < 16 → upload y = some a → y.area.areas[a]? = some (.loading k taps 0 false t) →
        (storeBusy y = true → no .storeBusy) ∧
        (storeBusy y = false → exec (.imageSave p slot) s = .next { y with
          store := { y.store with
            op := some (.imageStore (some l) slot a taps (dramBlock y.area.dram (a * 262144) (2 * taps))) }
          area := { y.area with areas := y.area.areas.set a (.loading k taps 0 true false) } })))) ∧
  (∀ (l : Fin 4) (s : State), live s = true →
    let y := prelude s
    let upload := (y.area.uploads.getD l.val ⟨none, .none⟩).area
    (upload = none → exec (.lapseTimerExpiry l) s = .next y) ∧
    (∀ a k taps rem b t, upload = some a → y.area.areas[a]? = some (.loading k taps rem b t) → (b = true ∨ t = false) →
      exec (.lapseTimerExpiry l) s = .next y) ∧
    (∀ a k taps rem, upload = some a → y.area.areas[a]? = some (.loading k taps rem false true) →
      exec (.lapseTimerExpiry l) s = .next (raiseOn .area l { y with area := { y.area with
        areas := y.area.areas.set a .free, uploads := y.area.uploads.set l.val ⟨none, .lapsed⟩ } })))

/-! ## The Preset Store (chapter 5) -/

/-- R73, R77 and R85: a READ_PRESET begins at an idle store and waits at a busy one; an idle store starts the waiting switch
load before waiting READ_PRESETs; a completed read answers EMPTY, BAD_RECORD, the chunk, or the record's length for a chunk
beyond it. READ_BUFFER answers at once from the edit buffer or a stash entry. -/
def Obligations.ReadsAreServed : Prop :=
  (∀ s : State, live s = true →
    (∀ n, s.store.op = none → s.store.waitSwitch = some n → exec .storeReadStart s = .next { s with
      store := { s.store with op := some (.presetRead (.switch false) n), waitSwitch := none } }) ∧
    (∀ q t, s.store.op = none → s.store.waitSwitch = none → s.store.waitLinks = q :: t →
      exec .storeReadStart s = .next { s with
        store := { s.store with op := some (.presetRead (.link q.link q.chunk) q.n), waitLinks := t } }) ∧
    (s.store.op ≠ none ∨ (s.store.waitSwitch = none ∧ s.store.waitLinks = []) → exec .storeReadStart s = .next s)) ∧
  (∀ (p : Pkt) (n chunk : Nat) (s : State), Ready p 1 s →
    let y := heard p 0x0D s
    (128 ≤ n → exec (.readPreset p n chunk) s = .next (filled p 0x0D .badArg [] y)) ∧
    (n < 128 → storeBusy y = true → exec (.readPreset p n chunk) s = .next { y with
      store := { y.store with waitLinks := y.store.waitLinks ++ [⟨p.link, n, chunk⟩] } }) ∧
    (n < 128 → storeBusy y = false → exec (.readPreset p n chunk) s = .next { y with
      store := { y.store with op := some (.presetRead (.link p.link chunk) n) } })) ∧
  (∀ (l : Fin 4) (n chunk : Nat) (s : State), live s = true →
    let y := prelude s
    let idle : State := { y with store := { y.store with op := none } }
    y.store.op = some (.presetRead (.link l chunk) n) →
      (readPlace (placeOf y n) = none → exec .presetReadCompletion s = .next (answer l .empty [] idle)) ∧
      (readPlace (placeOf y n) = some none → exec .presetReadCompletion s = .next (answer l .badRecord [] idle)) ∧
      (∀ r, readPlace (placeOf y n) = some (some r) →
        let bytes := recordBytes r
        (200 * chunk < bytes.length → exec .presetReadCompletion s = .next (answer l .ok
          (byte n :: be2 bytes.length ++ word4 (placeOf y n).check ++ byte chunk :: (bytes.drop (200 * chunk)).take 200)
          idle)) ∧
        (bytes.length ≤ 200 * chunk →
          exec .presetReadCompletion s = .next (answer l .badArg (be2 bytes.length) idle)))) ∧
  (∀ s : State, live s = true →
    let y := prelude s
    (∀ n, y.store.op = some (.presetRead (.switch true) n) →
      exec .presetReadCompletion s = .next { y with store := { y.store with op := none } }) ∧
    ((∀ who n, y.store.op ≠ some (.presetRead who n)) → exec .presetReadCompletion s = .next y)) ∧
  (∀ (p : Pkt) (src chunk : Nat) (s : State), Ready p 1 s →
    let y := heard p 0x0E s
    let no := exec (.readBuffer p src chunk) s = .next (filled p 0x0E .badArg [] y)
    let read := fun (r : Record) (seq : Word32) (n : Option Nat) =>
      (200 * chunk < (recordBytes r).length → exec (.readBuffer p src chunk) s = .next (filled p 0x0E .ok
        (word4 seq ++ optByte n :: be2 (recordBytes r).length ++ byte chunk ::
          ((recordBytes r).drop (200 * chunk)).take 200) y)) ∧
      ((recordBytes r).length ≤ 200 * chunk → no)
    (src = 255 → ∀ r, y.scene.buffer.record = some r → read r y.scene.buffer.seq y.scene.buffer.preset) ∧
    (src = 255 → y.scene.buffer.record = none → no) ∧
    (src ≠ 255 → ∀ e, y.scene.stash[src]? = some e → read e.record e.seq e.preset) ∧
    (src ≠ 255 → y.scene.stash.length ≤ src → no))

/-- R74, R76, R188: STORE_PRESET, ERASE_PRESET and SETUP_SAVE refuse in order and then begin their write with what it holds at
the take; no reply goes out yet. -/
def Obligations.WritesBeginWithTheirSnapshot : Prop :=
  (∀ (p : Pkt) (n src : Nat) (s : State), Ready p 10 s →
    (let y := heard p 0x1E s
     let no := fun (st : Status) => exec (.storePreset p n src) s = .next (filled p 0x1E st [] y)
     let store := fun (r : Record) (seq : Word32) =>
       (storeBusy y = true → no .storeBusy) ∧
       (storeBusy y = false → exec (.storePreset p n src) s =
         .next { y with store := { y.store with op := some (.presetStore (some p.link) n r seq) } })
     (128 ≤ n → no .badArg) ∧
     (n < 128 → src = 255 → y.scene.buffer.record = none → no .badArg) ∧
     (n < 128 → src ≠ 255 → y.scene.stash.length ≤ src → no .badArg) ∧
     (∀ r, n < 128 → src = 255 → y.scene.buffer.record = some r → store r y.scene.buffer.seq) ∧
     (∀ e, n < 128 → src ≠ 255 → y.scene.stash[src]? = some e → store e.record e.seq)) ∧
    (let y := heard p 0x1F s
     (128 ≤ n → exec (.erasePreset p n) s = .next (filled p 0x1F .badArg [] y)) ∧
     (n < 128 → storeBusy y = true → exec (.erasePreset p n) s = .next (filled p 0x1F .storeBusy [] y)) ∧
     (n < 128 → storeBusy y = false → exec (.erasePreset p n) s =
       .next { y with store := { y.store with op := some (.presetErase (some p.link) n) } }))) ∧
  (∀ (p : Pkt) (s : State), Ready p 17 s →
    let y := heard p 0x33 s
    (storeBusy y = true → exec (.setupSave p) s = .next (filled p 0x33 .storeBusy [] y)) ∧
    (storeBusy y = false → exec (.setupSave p) s = .next { y with store := { y.store with
      op := some (.setupStore (some p.link) {
        seats := y.link.links.map (·.seat), access := y.link.access, startPreset := y.link.startPreset
        startScene := y.link.startScene, masterLevel := y.link.masterLevel, sourceB := y.tuner.sourceB
        reference := y.tuner.reference, exponent := y.tuner.exponent, strings := y.tuner.strings
        defTempo := y.clk.defTempo, ppb := y.clk.ppb, bpb := y.clk.bpb, hideMask := y.sat.sats.map (·.hidden)
        refresh := y.sat.refresh, holdAuto := y.sat.holdAuto, imageMask := y.area.mask }) } }))

/-- R52, R75, R76, R78 and R188: the completions of the four writes. One that a link asked for leaves the store idle with its
last-write record, makes STORE pending and answers. A preset store clears the dirty mark of an unedited buffer and gives it the
number, else the stash entry it stored leaves; an erase of the buffer's preset makes it dirty; an image's area, slot and
upload record change hands, and a link whose request a break orphaned gets an AREA notice (the model's reading, log 46); a setup
store ends the factory flag. A write that a RESTART has overtaken has its place written, its last-write record and its notice
and no other effect, and BOOTING's read of the setup follows it. A completion without its operation does nothing. IMAGE_SAVE's
reply names no previous area as FFh: the model's choice (log 59). -/
def Obligations.WritesComplete : Prop :=
  ∀ s : State, live s = true →
    let y := prelude s
    let done := fun (k : WriteKind) (n : Option Nat) (z : State) (l : Fin 4) (content : List Byte) =>
      raise .store (answer l .ok content { z with store := { z.store with op := none, last := some (k, n) } })
    (∀ l n r q, y.store.op = some (.presetStore (some l) n r q) →
      let w := checkWord (recordBytes r)
      let z : State := { y with store := { y.store with library := y.store.library.set n ⟨true, some r, w⟩ } }
      let clean : State := { z with scene := { z.scene with
        buffer := { z.scene.buffer with dirty := false, preset := some n } } }
      let finish := fun (z : State) =>
        exec .presetStoreCompletion s = .next (done .presetStore (some n) z l (byte n :: word4 w))
      (y.scene.buffer.seq = q → y.scene.buffer.preset = some n → finish clean) ∧
      (y.scene.buffer.seq = q → y.scene.buffer.preset ≠ some n → finish (raise .scene clean)) ∧
      (y.scene.buffer.seq ≠ q → (∀ e ∈ y.scene.stash, e.seq ≠ q) → finish z) ∧
      (y.scene.buffer.seq ≠ q → (∃ e ∈ y.scene.stash, e.seq = q) →
        finish (raise .stash { z with scene := { z.scene with
          stash := z.scene.stash.filter fun e => !(e.seq == q) } }))) ∧
    (∀ l n, y.store.op = some (.presetErase (some l) n) →
      let z : State := { y with store := { y.store with library := y.store.library.set n ⟨false, none, 0⟩ } }
      let finish := fun (z : State) => exec .presetEraseCompletion s = .next (done .presetErase (some n) z l [])
      (y.scene.buffer.preset = some n → finish { z with scene := { z.scene with
        buffer := { z.scene.buffer with dirty := true } } }) ∧
      (y.scene.buffer.preset ≠ some n → finish z)) ∧
    (∀ l k a taps ws, y.store.op = some (.imageStore (some l) k a taps ws) →
      let m : AreaMan := { y.area with
        areas := y.area.areas.set a (.image (some k) taps 0), table := y.area.table.set k (some (a, taps))
        uploads := y.area.uploads.set l.val ⟨none, .saved⟩, mask := y.area.mask.set k true }
      let st : Store := { y.store with images := y.store.images.set k (.good taps ws) }
      let told := fun (z : State) => if isOrphaned y l = true then raiseOn .area l z else z
      (y.area.table.getD k none = none → exec .imageStoreCompletion s =
        .next (done .imageStore (some k) (told { y with store := st, area := m }) l [byte k, byte a, 255])) ∧
      (∀ old t, y.area.table.getD k none = some (old, t) → exec .imageStoreCompletion s =
        .next (done .imageStore (some k) (told { y with store := st, area := orphanImage old m }) l
          [byte k, byte a, byte old]))) ∧
    (∀ l v, y.store.op = some (.setupStore (some l) v) → exec .setupStoreCompletion s =
      .next (done .setupStore none { y with
        store := { y.store with setup := .good v }, startup := { y.startup with factory := false } } l [])) ∧
    (let afterRestart := fun (c : Instr) (k : WriteKind) (n : Option Nat) (st : Store) =>
       exec c s = .next (raise .store { y with store := { st with
         op := if y.startup.phase = .booting then some (.startRead .setup) else none, last := some (k, n) } })
     (∀ n r q, y.store.op = some (.presetStore none n r q) → afterRestart .presetStoreCompletion .presetStore (some n)
       { y.store with library := y.store.library.set n ⟨true, some r, checkWord (recordBytes r)⟩ }) ∧
     (∀ n, y.store.op = some (.presetErase none n) → afterRestart .presetEraseCompletion .presetErase (some n)
       { y.store with library := y.store.library.set n ⟨false, none, 0⟩ }) ∧
     (∀ k a taps ws, y.store.op = some (.imageStore none k a taps ws) →
       afterRestart .imageStoreCompletion .imageStore (some k)
         { y.store with images := y.store.images.set k (.good taps ws) }) ∧
     (∀ v, y.store.op = some (.setupStore none v) → afterRestart .setupStoreCompletion .setupStore none
       { y.store with setup := .good v })) ∧
    ((∀ l n r q, y.store.op ≠ some (.presetStore l n r q)) → exec .presetStoreCompletion s = .next y) ∧
    ((∀ l n, y.store.op ≠ some (.presetErase l n)) → exec .presetEraseCompletion s = .next y) ∧
    ((∀ l k a t ws, y.store.op ≠ some (.imageStore l k a t ws)) → exec .imageStoreCompletion s = .next y) ∧
    ((∀ l v, y.store.op ≠ some (.setupStore l v)) → exec .setupStoreCompletion s = .next y)

/-! ## The Switch Engine and the stash (chapter 6, 5.5) -/

/-- R91 to R93, R95 to R99, R109 and R149: SWITCH and RECALL are checked, meet the guard, and are taken, queued behind the switch in
flight, or outranked (`Arbitrated`); a request that one of equal or higher precedence replaces, in LOADING or while it waits, has
SUPERSEDED told to its link or cue (`told`), and its load is abandoned: a read that runs is discarded at its end, one that waits is
withdrawn and the new read waits its turn. A switch to another preset begins its load; one to another scene ramps with what R109
hands of overrides, satellite registers and chain level (`sceneStarts`); one to the present scene is done at once; both take the
Tuner to OFF where they exit it (`tunerLeft`). A RECALL taken at IDLE has its record at hand: where the sum of R100 meets its LINE
need it enters FADING_OUT at once (R103), else it ends NO_AREA. DROP_STASH drops its entry, the guard timer's expiry closes the
window, and a promotion discards the pending request below the guard, GUARDED told to its link or cue, or begins it, be it a
link's or a cue's, of a preset, a scene, a stash copy, or one that changes nothing (`begins`). The model's choices: a request
finds its cue by a tag (log 20), a RECALL's outcome names its entry's preset and scene (log 22), flag bits 3 to 7 are ignored (log
30), BAD_ARG comes before the DENIED of DISCARD (log 50), only the targets that one of the two scenes overrides are handed (log
36), a bypass override reads as on at 1 and from 16384 (log 14), the Tuner's mark among the holders changes at once (log 43), and
all pushes wait before a grant (log 58). -/
def Obligations.SwitchRequestsReachTheArbiter : Prop :=
  (∀ (p : Pkt) (n k flags : Nat) (s : State), Ready p 2 s →
    let y := heard p 0x0F s
    let seat := (linkOf y p.link).seat
    let no := fun (st : Status) => exec (.switch p n k flags) s = .next (filled p 0x0F st [] y)
    let scenes := (y.scene.buffer.record.map (·.scenes.length)).getD 0
    let ok := n < 128 ∧ k < 4 ∧ (flags.testBit 2 = true ∨ y.scene.buffer.preset ≠ some n ∨ k < scenes)
    let q : SwRequest :=
      ⟨.preset n k, flags.testBit 0, flags.testBit 1, flags.testBit 2, .link p.link, seat.precedence, 0⟩
    let recorded := fun (o : SwOutcome) (w : SwitchEng) =>
      { w with outcomes := w.outcomes.set p.link.val ⟨some n, some k, o⟩ }
    let taken := fun (z : State) => exec (.switch p n k flags) s = .next (filled p 0x0F .ok [] z)
    (¬ ok → no .badArg) ∧
    (ok → flags.testBit 0 = true → seat.tier < 2 → no .denied) ∧
    (ok → (flags.testBit 0 = false ∨ 2 ≤ seat.tier) → (y.sw.inflight ≠ none ∨ y.sw.pending = none) →
      Arbitrated q y (fun st z => exec (.switch p n k flags) s = .next (filled p 0x0F st [] z)) ∧
      (∀ g ms, y.sw.guard = some (g, ms) → seat.precedence < g → no .guarded) ∧
      ((∀ g ms, y.sw.guard = some (g, ms) → g ≤ seat.precedence) →
        (y.sw.inflight = none → (flags.testBit 2 = true ∨ y.scene.buffer.preset ≠ some n) → storeBusy y = false →
          taken { y with
            sw := { recorded .taken y.sw with
              inflight := some ⟨q, .preset, .loading, none, [], [], [], .waiting, [], false⟩ }
            store := { y.store with op := some (.presetRead (.switch false) n) } }) ∧
        (y.sw.inflight = none → (flags.testBit 2 = true ∨ y.scene.buffer.preset ≠ some n) → storeBusy y = true →
          taken { y with
            sw := { recorded .taken y.sw with
              inflight := some ⟨q, .preset, .loading, none, [], [], [], .waiting, [], false⟩ }
            store := { y.store with waitSwitch := some n } }) ∧
        (y.sw.inflight = none → flags.testBit 2 = false → y.scene.buffer.preset = some n → y.scene.buffer.scene = k →
          taken (tunerLeft (flags.testBit 1) { y with sw := recorded .done y.sw })) ∧
        (∀ r, y.sw.inflight = none → flags.testBit 2 = false → y.scene.buffer.preset = some n → y.scene.buffer.scene ≠ k →
          y.scene.buffer.record = some r → taken (sceneStarts q k r { y with sw := recorded .taken y.sw })) ∧
        (∀ f, y.sw.inflight = some f → (f.phase ≠ .loading ∨ seat.precedence < f.req.precedence) →
          y.sw.pending = none → taken { y with sw := { recorded .taken y.sw with pending := some q } }) ∧
        (∀ f w, y.sw.inflight = some f → (f.phase ≠ .loading ∨ seat.precedence < f.req.precedence) →
          y.sw.pending = some w → seat.precedence < w.precedence → no .outranked) ∧
        (∀ f w l m j, y.sw.inflight = some f → (f.phase ≠ .loading ∨ seat.precedence < f.req.precedence) →
          y.sw.pending = some w → w.precedence ≤ seat.precedence → w.origin = .link l → w.target = .preset m j →
          taken (raiseOn .switchOutcome l { y with sw := { recorded .taken { y.sw with
            outcomes := y.sw.outcomes.set l.val ⟨some m, some j, .superseded⟩ } with pending := some q } })) ∧
        (∀ f l m j, y.sw.inflight = some f → f.phase = .loading → f.req.precedence ≤ seat.precedence →
          f.req.origin = .link l → f.req.target = .preset m j → y.store.op = some (.presetRead (.switch false) m) →
          (flags.testBit 2 = true ∨ y.scene.buffer.preset ≠ some n) →
          taken (raiseOn .switchOutcome l { y with
            sw := { recorded .taken { y.sw with
              outcomes := y.sw.outcomes.set l.val ⟨some m, some j, .superseded⟩ } with
              inflight := some ⟨q, .preset, .loading, none, [], [], [], .waiting, [], false⟩ }
            store := { y.store with op := some (.presetRead (.switch true) m), waitSwitch := some n } })) ∧
        (∀ f l m j o, y.sw.inflight = some f → f.phase = .loading → f.req.precedence ≤ seat.precedence →
          f.req.origin = .link l → f.req.target = .preset m j → y.store.op = some o →
          (∀ d i, o ≠ .presetRead (.switch d) i) → (flags.testBit 2 = true ∨ y.scene.buffer.preset ≠ some n) →
          taken (raiseOn .switchOutcome l { y with
            sw := { recorded .taken { y.sw with
              outcomes := y.sw.outcomes.set l.val ⟨some m, some j, .superseded⟩ } with
              inflight := some ⟨q, .preset, .loading, none, [], [], [], .waiting, [], false⟩ }
            store := { y.store with waitSwitch := some n } })) ∧
        (∀ f t m j, y.sw.inflight = some f → f.phase = .loading → f.req.precedence ≤ seat.precedence →
          f.req.origin = .cue t → f.req.target = .preset m j → (∃ c ∈ y.clk.cues, c.tag = t) →
          y.store.op = some (.presetRead (.switch false) m) → (flags.testBit 2 = true ∨ y.scene.buffer.preset ≠ some n) →
          taken (raise .cue { y with
            clk := { y.clk with cues := y.clk.cues.map fun c => if c.tag = t then { c with outcome := .superseded } else c }
            sw := { recorded .taken y.sw with
              inflight := some ⟨q, .preset, .loading, none, [], [], [], .waiting, [], false⟩ }
            store := { y.store with op := some (.presetRead (.switch true) m), waitSwitch := some n } }))))) ∧
  (∀ (p : Pkt) (i flags : Nat) (s : State), Ready p 6 s →
    let y := heard p 0x15 s
    let seat := (linkOf y p.link).seat
    let no := fun (st : Status) => exec (.recall p i flags) s = .next (filled p 0x15 st [] y)
    (y.scene.stash.length ≤ i → no .badArg) ∧
    (∀ e, y.scene.stash[i]? = some e → flags.testBit 0 = true → seat.tier < 2 → no .denied) ∧
    (∀ e, y.scene.stash[i]? = some e → (flags.testBit 0 = false ∨ 2 ≤ seat.tier) →
      (y.sw.inflight ≠ none ∨ y.sw.pending = none) →
      let q : SwRequest := ⟨.stash e, flags.testBit 0, flags.testBit 1, false, .link p.link, seat.precedence, 0⟩
      let recorded := fun (o : SwOutcome) =>
        { y.sw with outcomes := y.sw.outcomes.set p.link.val ⟨e.preset, some e.scene, o⟩ }
      let taken := fun (z : State) => exec (.recall p i flags) s = .next (filled p 0x15 .ok [] z)
      Arbitrated q y (fun st z => exec (.recall p i flags) s = .next (filled p 0x15 st [] z)) ∧
      (∀ g ms, y.sw.guard = some (g, ms) → seat.precedence < g → no .guarded) ∧
      ((∀ g ms, y.sw.guard = some (g, ms) → g ≤ seat.precedence) →
        (∀ f, y.sw.inflight = some f → f.phase ≠ .loading → y.sw.pending = none →
          taken { y with sw := { recorded .taken with pending := some q } }) ∧
        (y.sw.inflight = none → chainNeed e.record.chain ≤ admissionSum y →
          taken (fadesOut ⟨q, .preset, .loading, some ⟨e.record, e.preset, e.scene, some e.seq⟩, [], [], [], .waiting, [], false⟩
            e.record.chain e.record.fadeOut { y with sw := recorded .taken })) ∧
        (y.sw.inflight = none → admissionSum y < chainNeed e.record.chain →
          taken (raise .scene (raiseOn .switchOutcome p.link { y with
            tone := { y.tone with chainRested := false }
            sw := { recorded .noArea with inflight := none, laneReports := [] } })))))) ∧
  (∀ (p : Pkt) (i : Nat) (s : State), Ready p 7 s →
    let y := heard p 0x16 s
    (y.scene.stash.length ≤ i → exec (.dropStash p i) s = .next (filled p 0x16 .badArg [] y)) ∧
    (i < y.scene.stash.length → exec (.dropStash p i) s = .next (filled p 0x16 .ok [] (raise .stash
      { y with scene := { y.scene with stash := y.scene.stash.eraseIdx i } })))) ∧
  (∀ s : State, live s = true →
    exec .guardTimerExpiry s = .next { prelude s with sw := { (prelude s).sw with guard := none } } ∧
    (s.sw.inflight ≠ none ∨ s.sw.pending = none → exec .switchPromotion s = .next s) ∧
    (∀ q, s.sw.inflight = none → s.sw.pending = some q →
      let free : State := { s with sw := { s.sw with pending := none } }
      (∀ g ms, s.sw.guard = some (g, ms) → q.precedence < g →
        exec .switchPromotion s = .next (told q .guarded true free)) ∧
      ((∀ g ms, s.sw.guard = some (g, ms) → g ≤ q.precedence) → q.target ≠ .rebuild →
        exec .switchPromotion s = .next (begins q free))) ∧
    (∀ q n k, s.sw.inflight = none → s.sw.pending = some q → q.target = .preset n k →
      (∀ g ms l, s.sw.guard = some (g, ms) → q.precedence < g → q.origin = .link l →
        exec .switchPromotion s = .next (raiseOn .switchOutcome l { s with sw := { s.sw with
          pending := none, outcomes := s.sw.outcomes.set l.val ⟨some n, some k, .guarded⟩ } })) ∧
      ((∀ g ms, s.sw.guard = some (g, ms) → g ≤ q.precedence) → (q.reload = true ∨ s.scene.buffer.preset ≠ some n) →
        storeBusy s = false → exec .switchPromotion s = .next { s with
          sw := { s.sw with
            pending := none, inflight := some ⟨q, .preset, .loading, none, [], [], [], .waiting, [], false⟩ }
          store := { s.store with op := some (.presetRead (.switch false) n) } }) ∧
      (∀ r, (∀ g ms, s.sw.guard = some (g, ms) → g ≤ q.precedence) → q.reload = false → s.scene.buffer.preset = some n →
        s.scene.buffer.scene ≠ k → s.scene.buffer.record = some r → k < r.scenes.length →
        exec .switchPromotion s = .next (sceneStarts q k r { s with sw := { s.sw with pending := none } }))))

/-- R95, R97 to R104, R107, R109 and R149: how a switch goes on, whatever its origin and target. Its read ends in EMPTY or
BAD_RECORD, which fail it, or in NO_AREA; each is told to its origin (`told`: a link's outcome record with a SWITCH_OUTCOME notice,
or a cue's outcome field with a CUE notice) and opens no guard window. Or it ends in FADING_OUT with the tails of R101 and R102:
lanes are evicted oldest first until all candidates have room in cost, lanes and areas, then the candidates are admitted in chain
order, each with those before it. The chain gain at rest treats deferred candidates as CUT and hands the drop in FADING_OUT (taken at
once in a clock loss), and completes FADING_IN and RAMPING: a cue's switch with a guard opens its window (`guardAfter`), DONE is told
to the origin, SCENE is pending. Lanes that became EMPTY go to the deferred candidates in order while the chain gain has not reached
0, that is while its level is not 0 or its count has not run out (the model's choice, log 51), with the chain gain's remaining count
as the feed gain's length (read at the boundary that takes up the move: the model's reading, log 45). The model's choices too: what a
link's record names of a stash copy and a REBUILD (log 22), and the tag by which a switch finds its cue (log 20). -/
def Obligations.SwitchesLoadFadeAndComplete : Prop :=
  (∀ (n : Nat) (f : Inflight) (s : State), live s = true →
    let y := prelude s
    let idle : State := { y with store := { y.store with op := none } }
    let fails := fun (o : SwOutcome) => exec .presetReadCompletion s = .next (switchFailed f.req o idle)
    y.store.op = some (.presetRead (.switch false) n) → y.sw.inflight = some f →
      (readPlace (placeOf y n) = none → fails .empty) ∧
      (readPlace (placeOf y n) = some none → fails .badRecord) ∧
      (∀ r, readPlace (placeOf y n) = some (some r) → f.kind = .preset → admissionSum y < chainNeed r.chain → fails .noArea) ∧
      (∀ r m j, readPlace (placeOf y n) = some (some r) → f.req.target = .preset m j → chainNeed r.chain ≤ admissionSum y →
        exec .presetReadCompletion s = .next
          (fadesOut { f with loaded := some ⟨r, some n, min j (r.scenes.length - 1), none⟩ } r.chain r.fadeOut idle))) ∧
  (∀ (x : State) (cost need : Nat) (e ps : List Nat) (k : Nat),
    let at_ := fun (k : Nat) => (x.tone.chain[k]?).bind (·.inst)
    let costOf := fun (i : Option Inst) => (i.map fun i => slotCost i.stype i.lclass).getD 0
    let linesOf := fun (i : Option Inst) => (i.map fun i => i.areas.length).getD 0
    let laneAt := fun (l : Nat) => (x.tone.lanes.getD l Lane.clear).inst
    let kept := x.tone.order.filter fun l => !e.contains l
    let others := (List.range x.tone.chain.length).filter fun k => !ps.contains k
    (tailRoom x cost need e ps = true ↔
      cost + (kept.map fun l => costOf (laneAt l)).sum + (ps.map fun k => costOf (at_ k)).sum ≤ 1000 ∧
      kept.length + ps.length ≤ 4 ∧
      need ≤ freeAreas x.area + (others.map fun k => linesOf (at_ k)).sum + (e.map fun l => linesOf (laneAt l)).sum) ∧
    (∃ j, j ≤ x.tone.order.length ∧ evictions x cost need ps = x.tone.order.take j ∧
      (tailRoom x cost need (x.tone.order.take j) ps = true ∨ j = x.tone.order.length) ∧
      ∀ i, i < j → tailRoom x cost need (x.tone.order.take i) ps = false) ∧
    admitted x cost need e [] = [] ∧
    (let a := admitted x cost need e ps
     admitted x cost need e (ps ++ [k]) = if tailRoom x cost need e (a ++ [k]) = true then a ++ [k] else a) ∧
    (k ∈ tailCandidates x ↔ ∃ i, at_ k = some i ∧ (i.stype = .delay ∨ i.stype = .reverb) ∧ i.policy = .keep) ∧
    (tailCandidates x).Pairwise (· < ·) ∧
    (k ∈ emptyLanes x ↔ ∃ y, x.tone.lanes[k]? = some y ∧ y.st = .empty) ∧ (emptyLanes x).Pairwise (· < ·) ∧
    admissionSum x = freeAreas x.area + (x.tone.chain.map fun p => linesOf p.inst).sum +
      (x.tone.lanes.map fun l => linesOf l.inst).sum) ∧
  (∀ s : State, live s = true →
    let rest : State := { s with tone := { s.tone with chainRested := false } }
    (s.tone.chainRested = false → exec .chainGainAtRest s = .next s) ∧
    (s.tone.chainRested = true → s.sw.inflight = none → exec .chainGainAtRest s = .next rest) ∧
    (∀ f, s.tone.chainRested = true → s.sw.inflight = some f →
      (f.phase = .loading → exec .chainGainAtRest s = .next rest) ∧
      (f.phase = .fadingOut → exec .chainGainAtRest s = .next (handedOver .drop { rest with
        sw := { s.sw with laneReports := [], inflight := some { f with deferred := [], dropped := true } } })) ∧
      (f.phase = .fadingIn ∨ f.phase = .ramping →
        exec .chainGainAtRest s = .next (raise .scene (told f.req .done false { rest with sw := { s.sw with
          inflight := none, laneReports := [], guard := guardAfter f.req s.sw.guard } }))) ∧
      (∀ l n k, f.phase = .fadingIn ∨ f.phase = .ramping → f.req.origin = .link l →
        (∃ m j, f.req.target = .preset m j ∧ n = some m ∧ k = j) ∨
          (∃ e, f.req.target = .stash e ∧ n = e.preset ∧ k = e.scene) ∨
          (f.req.target = .rebuild ∧ n = s.scene.buffer.preset ∧ k = s.scene.buffer.scene) →
        exec .chainGainAtRest s = .next (raise .scene { rest with sw := { s.sw with
          inflight := none, laneReports := [], outcomes := s.sw.outcomes.set l.val ⟨n, some k, .done⟩ } })) ∧
      (∀ c, f.phase = .fadingIn ∨ f.phase = .ramping → f.req.origin = .cue c → (∃ q ∈ s.clk.cues, q.tag = c) →
        exec .chainGainAtRest s = .next (raise .scene (raise .cue { rest with
          clk := { s.clk with cues := s.clk.cues.map fun q => if q.tag = c then { q with outcome := .done } else q }
          sw := { s.sw with
            inflight := none, laneReports := []
            guard := if f.req.guard = 0 then s.sw.guard else some (f.req.precedence, f.req.guard) } }))))) ∧
  (∀ s : State, live s = true →
    ((∀ f, s.sw.inflight = some f → f.phase ≠ .fadingOut ∨ s.sw.laneReports = []) →
      exec .deferredLaneMove s = .next s) ∧
    (∀ f, s.sw.inflight = some f → f.phase = .fadingOut → s.sw.laneReports ≠ [] →
      (f.deferred = [] ∨ (s.tone.chainGain.n = 0 ∧ s.tone.chainGain.cur = 0) →
        exec .deferredLaneMove s = .next { s with
          sw := { s.sw with laneReports := [], inflight := some { f with deferred := [] } } }) ∧
      (f.deferred ≠ [] → (s.tone.chainGain.n ≠ 0 ∨ s.tone.chainGain.cur ≠ 0) → present s = true →
        let moves := f.deferred.zip (sortNat s.sw.laneReports)
        exec .deferredLaneMove s = .next { s with
          sw := { s.sw with
            laneReports := []
            inflight := some { f with
              assigned := f.assigned ++ moves.map (·.2), deferred := f.deferred.drop moves.length } }
          tone := { s.tone with changes := s.tone.changes ++
            (moves.map fun x => .move x.1 (Fin.ofNat 4 x.2) s.tone.chainGain.n) } })))

/-- R79, R89, R90, R91, R106, R112, R115 and R155: a swap is taken only when the drop is handed, every eviction is over and the
line join is complete. A stash copy's entry leaves the stash; a dirty buffer is captured unless DISCARD, the oldest entry of a
full stash being dropped; a preset switch loads the buffer, a stash copy dirty; the position map ends, the map is evaluated, and
the rebuild and the effective chain level with the fade-in length are handed. Then the tempo of the new buffer, outside lock and
EXTERNAL; every satellite register with an effective value as URGENT, of a REBUILD those that differ from the desired value, an
IN_STEP satellite so entered being BEHIND; the Tuner's mode OFF where the switch exits it, with its holder; and the notices SCENE,
STASH where the stash changes, TUNER and SATELLITE where their states do. While the audio clock is lost all this is taken up at
once and the switch is DONE in its link's record (a stash copy and a REBUILD as log 22 names them) or in its cue's outcome. The
model's choices: the Tuner's mark among the holders changes at once (log 43), and all pushes wait before a grant (log 58). -/
def Obligations.SwapLoadsTheBuffer : Prop :=
  ∀ (f : Inflight) (s : State), live s = true → s.sw.inflight = some f →
    let due := f.phase = .fadingOut ∧ f.dropped = true ∧ f.evicting = [] ∧ f.join = .complete
    let b := s.scene.buffer
    let h := s.tone.holders
    let fadesIn : Inflight := { f with phase := .fadingIn }
    let exits := f.req.exitTuner = true ∧ s.tuner.mode ≠ .off
    let unmutes := exits ∧ s.tuner.mode = .mute
    let left : Holders := if unmutes then { h with tuner := false } else h
    let rises := unmutes ∧ h = ⟨true, false, false, false⟩
    let after := fun (z : State) (only : Prop) (more : BitVec 16) =>
      z.tuner = (if exits then { s.tuner with
        mode := .off, det := {}, ring := [], outliers := 0, prevStamp := none, reading := none, noSignal := false
        state := .silent, publish := false } else s.tuner) ∧
      ImagesPushed only s z ∧
      FlagsRaised only (noticeBit .scene ||| more ||| (if exits then noticeBit .tuner else 0)) s z
    let loaded := fun (z : State) => z = { s with
      scene := z.scene, sw := z.sw, tone := z.tone, clk := z.clk, sat := z.sat, link := z.link, area := z.area
      tuner := z.tuner }
    let fades := fun (z : State) (len : Nat) =>
      z.sw = { s.sw with level := effectiveLevel z, reservation := false, inflight := some fadesIn } ∧ z.area = s.area ∧
      z.tone = { s.tone with holders := left, changes := s.tone.changes ++
        ([.rebuild (effectiveInsts f.joined z), .gainTarget .chain (effectiveLevel z) len] ++
          if rises then [.muteRise 16] else []) }
    let lands := fun (z w : State) => z.area = w.area ∧ z.tone = { w.tone with
      chainGain := .rest (effectiveLevel z), chainRested := false, holders := left
      mute := if rises then .rest 32768 else w.tone.mute }
    let ended := fun (z : State) => ({ s.sw with
      level := effectiveLevel z, reservation := false, inflight := none, laneReports := [] } : SwitchEng)
    (¬ due → exec .swap s = .next s) ∧
    (due →
      (∀ l, f.loaded = some l → f.kind = .preset →
        let leaves : Bool := (match l.stashSeq with
          | some q => s.scene.stash.any fun e => e.seq == q
          | none => false)
        let captured : Bool := b.dirty && !f.req.discard && b.record.isSome
        let stash := if leaves || captured then noticeBit .stash else 0
        let ignored := s.clk.lock = true ∨ s.clk.source = .external
        let endTap := s.clk.source = .tap
        ∃ z, exec .swap s = .next z ∧ loaded z ∧
          z.scene.buffer = ⟨l.preset, min l.scene (l.record.scenes.length - 1), some l.record, s.scene.counter + 1,
            l.stashSeq.isSome⟩ ∧
          z.scene.counter = s.scene.counter + 1 ∧ z.scene.posMap = none ∧ z.scene.controls = s.scene.controls ∧
          z.scene.driven = l.record.map.map (evalEntry s.scene.controls l.record.chain) ∧
          (present s = true → fades z l.record.fadeIn ∧ after z False stash ∧
            (l.record.tempo = none ∨ ignored → z.clk = s.clk) ∧
            (∀ t, l.record.tempo = some t → ¬ ignored → z.clk = { s.clk with
              tempo := clampNat 300 3000 t, tapLast := if endTap then none else s.clk.tapLast
              taps := if endTap then [] else s.clk.taps })) ∧
          (present s = false →
            let w1 := applyChange true (.rebuild (effectiveInsts f.joined z)) s
            let w := (match l.record.tempo with
              | some t => if ignored then w1 else commandTempo t w1
              | none => w1)
            lands z w ∧
            (∀ (k : Fin 4) (n : Option Nat) (c : Nat), f.req.origin = .link k →
              ((∃ m, f.req.target = .preset m c ∧ n = some m) ∨ ∃ e, f.req.target = .stash e ∧ e.preset = n ∧ e.scene = c) →
              z.clk = w.clk ∧ after z False stash ∧
              z.sw = { ended z with outcomes := s.sw.outcomes.set k.val ⟨n, some c, .done⟩ }) ∧
            (∀ t, f.req.origin = .cue t →
              z.clk = { w.clk with cues := s.clk.cues.map fun q => if q.tag = t then { q with outcome := .done } else q } ∧
              after z False (stash ||| if ∃ q ∈ s.clk.cues, q.tag = t then noticeBit .cue else 0) ∧
              z.sw = { ended z with
                guard := if f.req.guard = 0 then s.sw.guard else some (f.req.precedence, f.req.guard) })) ∧
          (let base := (match l.stashSeq with
            | some q => s.scene.stash.filter fun e => !(e.seq == q)
            | none => s.scene.stash)
          (captured = false →
            z.scene.stash = base ∧ z.scene.drops = s.scene.drops ∧ z.scene.lastDropped = s.scene.lastDropped) ∧
          (∀ r, b.dirty = true → f.req.discard = false → b.record = some r →
            let kept := base.filter fun e => e.preset != b.preset
            let entry : StashEntry := ⟨b.preset, b.scene, r, b.seq⟩
            (kept.length < 4 → z.scene.stash = kept ++ [entry] ∧ z.scene.drops = s.scene.drops ∧
              z.scene.lastDropped = s.scene.lastDropped) ∧
            (∀ e t, 4 ≤ kept.length → kept = e :: t →
              z.scene.stash = t ++ [entry] ∧ z.scene.drops = s.scene.drops + 1 ∧ z.scene.lastDropped = e.preset)))) ∧
      (∀ r, f.loaded = none → f.kind = .rebuild → b.record = some r →
        ∃ z, exec .swap s = .next z ∧ loaded z ∧
          z.scene = { s.scene with posMap := none, driven := r.map.map (evalEntry s.scene.controls r.chain) } ∧
          (present s = true → fades z r.fadeIn ∧ after z True 0 ∧ z.clk = s.clk) ∧
          (∀ k, present s = false → f.req.origin = .link k → f.req.target = .rebuild →
            let w := applyChange true (.rebuild (effectiveInsts f.joined z)) s
            lands z w ∧ after z True 0 ∧ z.clk = w.clk ∧
            z.sw = { ended z with outcomes := s.sw.outcomes.set k.val ⟨b.preset, some b.scene, .done⟩ })))

/-! ## The Tuner (chapter 7) -/

/-- R118, with the holder's changes of R27: a TUNER_MODE to the mode in force changes nothing; another mode clears detector
and estimator where OFF is left or entered, starts or stops the publication timer there, sets or releases the tuner holder
where MUTE is entered or left, and makes TUNER pending. The reply carries the mode in force. Outside Tuner, Tone Engine and
notice flags nothing changes. A mode above 2 is refused BAD_ARG. The model's choice (log 43): the Tuner's mark among the
holders changes at the request. While the audio clock is lost the mute factor lands at once. -/
def Obligations.TunerModeTakesTheTable : Prop :=
  (∀ (p : Pkt) (mode : Nat) (s : State), Ready p 3 s → 2 < mode →
    exec (.tunerMode p mode) s = .next (filled p 0x10 .badArg [] (heard p 0x10 s))) ∧
  ∀ (p : Pkt) (mode : Nat) (m : TunerMode) (s : State), Ready p 3 s → tunerModeOf mode = some m →
    let y := heard p 0x10 s
    let clear : Tuner := { y.tuner with
      mode := m, det := {}, ring := [], outliers := 0, prevStamp := none, reading := none, noSignal := false, state := .silent }
    (m = y.tuner.mode → exec (.tunerMode p mode) s = .next (filled p 0x10 .ok [byte mode] y)) ∧
    (m ≠ y.tuner.mode → ∃ z, exec (.tunerMode p mode) s = .next (filled p 0x10 .ok [byte mode] (raise .tuner z)) ∧
      z = { y with tuner := z.tuner, tone := z.tone } ∧
      (y.tuner.mode = .off → z.tuner = { clear with publish := true }) ∧
      (m = .off → z.tuner = { clear with publish := false }) ∧
      (y.tuner.mode ≠ .off → m ≠ .off → z.tuner = { y.tuner with mode := m }) ∧
      z.tone = { y.tone with holders := z.tone.holders, mute := z.tone.mute, changes := z.tone.changes } ∧
      (m = .mute → z.tone.holders = { y.tone.holders with tuner := true }) ∧
      (y.tuner.mode = .mute → z.tone.holders = { y.tone.holders with tuner := false }) ∧
      (m ≠ .mute → y.tuner.mode ≠ .mute → z.tone = y.tone) ∧
      (present y = true → m = .mute → y.tone.holders.tuner = false →
        z.tone.changes = y.tone.changes ++ [.muteFall] ∧ z.tone.mute = y.tone.mute) ∧
      (present y = true → y.tuner.mode = .mute → y.tone.holders = ⟨true, false, false, false⟩ →
        z.tone.changes = y.tone.changes ++ [.muteRise 16] ∧ z.tone.mute = y.tone.mute) ∧
      (present y = false → m = .mute → y.tone.holders.tuner = false →
        z.tone.changes = y.tone.changes ∧ z.tone.mute.cur = 0 ∧ z.tone.mute.target = 0) ∧
      (present y = false → y.tuner.mode = .mute → y.tone.holders = ⟨true, false, false, false⟩ →
        z.tone.changes = y.tone.changes ∧ z.tone.mute = .rest 32768) ∧
      (y.tuner.mode = .mute → anyHolder { y.tone.holders with tuner := false } = true →
        z.tone.changes = y.tone.changes ∧ z.tone.mute = y.tone.mute))

/-- R119: the five items of TUNER_SET, with clamping, the refusals, and what each recomputes. The model's choices: a reading
kind above 1 and a string set above 3 are refused BAD_ARG (log 30), and the set byte beside CHROMATIC and the offset beside
REMOVE are not read (log 53). -/
def Obligations.TunerSetChangesOneSetting : Prop :=
  ∀ (p : Pkt) (s : State), Ready p 3 s →
    let y := heard p 0x11 s
    let t := y.tuner
    let re := fun (st : Status) (u : Tuner) => filled p 0x11 st [] { y with tuner := u }
    let no := filled p 0x11 .badArg [] y
    (∀ v, 1 < v → exec (.tunerSetSource p v) s = .next no) ∧
    (∀ v, v ≤ 1 → (v == 1) = t.sourceB → exec (.tunerSetSource p v) s = .next (filled p 0x11 .ok [] y)) ∧
    (∀ v, v ≤ 1 → (v == 1) ≠ t.sourceB →
      let z : State := { y with tuner := { t with
        sourceB := (v == 1), det := {}, ring := [], outliers := 0, prevStamp := none, reading := none, noSignal := false
        state := .silent } }
      exec (.tunerSetSource p v) s = .next (filled p 0x11 .ok [] (if t.state = .silent then z else raise .tuner z))) ∧
    (∀ v, exec (.tunerSetReference p v) s = .next (re (okOr (decide (clampNat 4300 4500 v ≠ v)))
      (renewReading { t with reference := clampNat 4300 4500 v }))) ∧
    (∀ v, exec (.tunerSetHysteresis p v) s = .next (re (okOr (decide (clampNat 6 12 v ≠ v)))
      { t with exponent := clampNat 6 12 v })) ∧
    (∀ n, exec (.tunerSetReadingKind p 0 n) s = .next (re .ok (renewReading { t with stringSet := none }))) ∧
    (∀ n, n ≤ 3 → exec (.tunerSetReadingKind p 1 n) s = .next (re .ok (renewReading { t with stringSet := some n }))) ∧
    (∀ k n, 1 < k ∨ (k = 1 ∧ 3 < n) → exec (.tunerSetReadingKind p k n) s = .next no) ∧
    (∀ n i note off, 3 < n ∨ 7 < i → exec (.tunerSetString p n i note off) s = .next no) ∧
    (∀ n i note off, n ≤ 3 → i ≤ 7 →
      let l := t.strings.getD n []
      let x : TString := ⟨clampNat 15 89 note, clampInt (-500) 500 off⟩
      let st := okOr (decide (x ≠ ⟨note, off⟩))
      let with_ := fun (l : List TString) (u : Tuner) =>
        if u.stringSet = some n then renewReading { u with strings := u.strings.set n l }
        else { u with strings := u.strings.set n l }
      (note = 255 → i < l.length → exec (.tunerSetString p n i note off) s = .next (re .ok (with_ (l.eraseIdx i) t))) ∧
      (note = 255 → l.length ≤ i → exec (.tunerSetString p n i note off) s = .next no) ∧
      (note ≠ 255 → i < l.length → exec (.tunerSetString p n i note off) s = .next (re st (with_ (l.set i x) t))) ∧
      (note ≠ 255 → i = l.length → exec (.tunerSetString p n i note off) s = .next (re st (with_ (l ++ [x]) t))) ∧
      (note ≠ 255 → l.length < i → exec (.tunerSetString p n i note off) s = .next no))

/-- R126 and R129: the no-signal expiry clears the estimator and keeps filters and armed flag; it and the publication expiry
make TUNER pending where the state was not SILENT; a stopped timer does nothing. Beside them the work of a frame (R120 to R125,
R127, R128): outside OFF each sample of the source passes the two filters and the crossing test with its arming, a firing's
timestamp gives a period, a period within its range reloads the no-signal timer and is entered or is an outlier, the third
outlier takes over the ring; the lower median, the detector state, and the reading of three entries or more: C as the rounding
of the exact logarithm, the note, the deviation of -500 to 499, and in STRING mode the nearest string. -/
def Obligations.TunerTimersExpire : Prop :=
  (∀ s : State, live s = true →
    let y := prelude s
    let z : State := { y with tuner := { y.tuner with
      ring := [], outliers := 0, prevStamp := none, reading := none, noSignal := false, state := .silent } }
    (y.tuner.noSignal = true → exec .noSignalTimerExpiry s = .next (if y.tuner.state = .silent then z else raise .tuner z)) ∧
    (y.tuner.noSignal = false → exec .noSignalTimerExpiry s = .next y) ∧
    (y.tuner.publish = true → y.tuner.state ≠ .silent → exec .publicationTimerExpiry s = .next (raise .tuner y)) ∧
    (y.tuner.publish = false ∨ y.tuner.state = .silent → exec .publicationTimerExpiry s = .next y)) ∧
  (∀ (c : Captured) (t : Tuner), tunerFrame c t = if t.mode = .off then t
    else tunerSamples (t.pos - 32) ((if t.sourceB then c.inB else c.inA).map fun x => 16 * x) t) ∧
  (∀ (pos : Word32) (x : Int) (xs : List Int) (t : Tuner), tunerSamples pos [] t = t ∧
    tunerSamples pos (x :: xs) t = tunerSamples (pos + 1) xs (tunerSample pos x t)) ∧
  (∀ (pos : Word32) (x : Int) (t : Tuner),
    let d := t.det
    let b := x - d.xPrev + 32604 * d.dPrev / 32768
    let l1 := d.l1 + 4751 * (b - d.l1) / 32768
    let l2 := d.l2 + 4751 * (l1 - d.l2) / 32768
    let h : Int := 134217728 / 2 ^ t.exponent
    let fires := d.armed = true ∧ d.sPrev < 0 ∧ 0 ≤ l2
    (fires → tunerSample pos x t = takeStamp
      (256 * (pos - 1) + BitVec.ofInt 32 (min 255 (256 * (-d.sPrev) / (l2 - d.sPrev)))) { t with det := ⟨x, b, l1, l2, false, l2⟩ }) ∧
    (¬ fires → tunerSample pos x t = { t with det := ⟨x, b, l1, l2, d.armed || decide (l2 < -h), l2⟩ })) ∧
  (∀ (stamp : Word32) (t : Tuner),
    let t1 : Tuner := { t with prevStamp := some stamp }
    (t.prevStamp = none → takeStamp stamp t = t1) ∧
    (∀ prev, t.prevStamp = some prev → let p := (stamp - prev).toNat
      (8777 ≤ p → p ≤ 614400 → takeStamp stamp t = acceptPeriod p { t1 with noSignal := true }) ∧
      (p < 8777 ∨ 614400 < p → takeStamp stamp t = t1))) ∧
  (∀ (p : Nat) (t : Tuner), t.ring.length ≤ 8 →
    let m := ringMedian t.ring
    let near := |(p : Int) - (m : Int)| * 100 ≤ 12 * (m : Int)
    let entered := fun (r : List Nat) => acceptPeriod p t = { t with
      ring := r, outliers := 0, state := ringState r, reading := if 3 ≤ r.length then some (readingOf t (ringMedian r)) else none }
    (t.ring = [] → entered [p]) ∧
    (t.ring ≠ [] → near → entered (if t.ring.length = 8 then (t.ring ++ [p]).tail else t.ring ++ [p])) ∧
    (t.ring ≠ [] → ¬ near → t.outliers = 2 → entered [p]) ∧
    (t.ring ≠ [] → ¬ near → t.outliers ≠ 2 → acceptPeriod p t = { t with outliers := t.outliers + 1 }) ∧
    renewReading t =
      { t with reading := if 3 ≤ t.ring.length then some (readingOf t (ringMedian t.ring)) else none }) ∧
  (∀ r : List Nat, let m := ringMedian r
    (sortNat r).Perm r ∧ (sortNat r).Pairwise (· ≤ ·) ∧ (r ≠ [] → (sortNat r)[(r.length - 1) / 2]? = some m) ∧
    (ringState r = .silent ↔ r = []) ∧
    (ringState r = .locked ↔ 5 ≤ r.length ∧
      ∀ p ∈ r.drop (r.length - 5), |(p : Int) - (m : Int)| * 1000 ≤ 15 * (m : Int))) ∧
  (∀ m r : Nat, 0 < m → 0 < r →
    tunerCents m r = ⌊(12000 : ℝ) * Real.logb 2 (122880000 / ((m : ℝ) * (r : ℝ))) + 1 / 2⌋) ∧
  (∀ (t : Tuner) (m : Nat),
    let c := tunerCents m t.reference
    let note := 69 + (2 * c + 1000) / 2000
    let dev := c - 1000 * (note - 69)
    let strings := (t.stringSet.map fun k => t.strings.getD k []).getD []
    let off := fun (x : TString) => c - (1000 * ((x.note : Int) - 69) + x.offset)
    (-500 ≤ dev ∧ dev ≤ 499) ∧
    (strings = [] → readingOf t m = ⟨c, note, dev, none⟩) ∧
    (∀ i x, strings[i]? = some x → (∀ y ∈ strings, |off x| ≤ |off y|) →
      (∀ j y, j < i → strings[j]? = some y → |off x| < |off y|) →
      readingOf t m = ⟨c, note,
        if off x < -32768 then -32768 else if 32767 < off x then 32767 else off x, some i⟩))

/-! ## The Show Clock (chapter 8) -/

/-- R133, R134 and R141: TEMPO_SET sets the clamped tempo under INTERNAL and TAP (where it ends the tap series) and changes
nothing under EXTERNAL; while the audio clock is lost a changed tempo hands the synced lengths that differ at once, each taken
up at its DELAY (`retime`). TEMPO_LOCK sets the lock and makes CLOCK pending where it changes; that a value above 1 is refused
BAD_ARG is the model's choice (log 30). -/
def Obligations.TempoCommandsAct : Prop :=
  ∀ (p : Pkt) (v : Nat) (s : State),
    (Ready p 5 s →
      let y := heard p 0x14 s
      let t := if v < 300 then 300 else if 3000 < v then 3000 else v
      let st := okOr (decide (t ≠ v))
      (y.clk.source = .internal → present (prelude s) = true ∨ t = y.clk.tempo → exec (.tempoSet p v) s =
        .next (filled p 0x14 st (be2 t ++ [0]) { y with clk := { y.clk with tempo := t } })) ∧
      (y.clk.source = .tap → present (prelude s) = true ∨ t = y.clk.tempo → exec (.tempoSet p v) s =
        .next (filled p 0x14 st (be2 t ++ [1]) { y with clk := { y.clk with tempo := t, tapLast := none, taps := [] } })) ∧
      (y.clk.source ≠ .external → present (prelude s) = false → t ≠ y.clk.tempo →
        let len := fun (k : Nat) => (match (y.tone.chain[k]?).bind (·.inst) with
          | some i =>
            if i.stype = .delay ∧ parCur i 1 = 1 then
              some (beatLen t * (division (parCur i 2)).1 / ((division (parCur i 2)).2 * 256))
            else none
          | none => none)
        let tap := y.clk.source = .tap
        ∃ z, exec (.tempoSet p v) s = .next (filled p 0x14 st (be2 t ++ [if tap then 1 else 0]) z) ∧
          z = { y with
            tone := { y.tone with chain := z.tone.chain }
            clk := { y.clk with
              tempo := t, handed := (List.range 12).map len, tapLast := if tap then none else y.clk.tapLast
              taps := if tap then [] else y.clk.taps } } ∧
          z.tone.chain.length = y.tone.chain.length ∧
          ∀ k ty i, y.tone.chain[k]? = some ⟨ty, i⟩ →
            (∀ j w d next held syn f cl n, i = some j → j.proc = .delay w d next held syn f cl → k < 12 → len k = some n →
              y.clk.handed.getD k none ≠ some n →
              z.tone.chain[k]? = some ⟨ty, some (retime true { j with proc := .delay w d next held (some n) f cl })⟩) ∧
            (12 ≤ k ∨ len k = none ∨ len k = y.clk.handed.getD k none → z.tone.chain[k]? = some ⟨ty, i⟩)) ∧
      (y.clk.source = .external → exec (.tempoSet p v) s = .next (filled p 0x14 .ok (be2 y.clk.tempo ++ [2]) y))) ∧
    (Ready p 13 s →
      let y := heard p 0x2B s
      (1 < v → exec (.tempoLock p v) s = .next (filled p 0x2B .badArg [] y)) ∧
      (v ≤ 1 → (v == 1) = y.clk.lock → exec (.tempoLock p v) s = .next (filled p 0x2B .ok [byte v] y)) ∧
      (v ≤ 1 → (v == 1) ≠ y.clk.lock → exec (.tempoLock p v) s =
        .next (filled p 0x2B .ok [byte v] (raise .clock { y with clk := { y.clk with lock := (v == 1) } }))))

/-- R135: a tap starts a series, is ignored below 9,600 samples, restarts the series above 120,000, and otherwise sets the
tempo from the floored mean of the last four accepted intervals; outside TAP it does nothing, and during a clock loss it
ends the series. No reply. -/
def Obligations.TapMeasuresTheTempo : Prop :=
  ∀ (p : Pkt) (s : State), Taken p s →
    let y := passed p s
    let c := y.clk
    (c.source ≠ .tap → exec (.tap p) s = .next y) ∧
    (c.source = .tap → present y = false →
      exec (.tap p) s = .next { y with clk := { c with tapLast := none, taps := [] } }) ∧
    (c.source = .tap → present y = true → c.tapLast = none →
      exec (.tap p) s = .next { y with clk := { c with tapLast := some c.pos } }) ∧
    (∀ last, c.source = .tap → present y = true → c.tapLast = some last →
      let n := (c.pos - last).toNat
      (n < 9600 → exec (.tap p) s = .next y) ∧
      (120000 < n → exec (.tap p) s = .next { y with clk := { c with tapLast := some c.pos, taps := [] } }) ∧
      (9600 ≤ n → n ≤ 120000 →
        let kept := (c.taps ++ [n]).drop (c.taps.length + 1 - 4)
        exec (.tap p) s = .next { y with clk := { c with
          tapLast := some c.pos, taps := kept
          tempo := clampNat 300 3000 (roundHalfUp 28800000 (sumNat kept / kept.length)).toNat } }))

/-- R134 with R140 and R146: a change of the tempo source. EXTERNAL clears the pulse history and loads the pulse timer;
leaving it stops the timer, loads the countdown with a whole beat and stops an ARMED show; TAP and INTERNAL end the tap
series. A change makes CLOCK pending; the present source changes nothing. -/
def Obligations.TempoSourceChanges : Prop :=
  ∀ (p : Pkt) (v : Nat) (s : State), Ready p 13 s →
    let y := heard p 0x2A s
    let c := y.clk
    let re := fun (z : Show) => filled p 0x2A .ok [byte v] (raise .clock { y with clk := z })
    let calm := if c.transport = .armed then Transport.stopped else c.transport
    let b := beatLen c.tempo
    (3 ≤ v → exec (.tempoSource p v) s = .next (filled p 0x2A .badArg [] y)) ∧
    (tempoSourceOf v = some c.source → exec (.tempoSource p v) s = .next (filled p 0x2A .ok [byte v] y)) ∧
    (v = 2 → c.source ≠ .external → exec (.tempoSource p v) s = .next (re { c with
      source := .external, pulseTimer := true, sinceBeat := 0, pulseLast := none, pulses := [], pulseCount := 0 })) ∧
    (v = 1 → c.source = .external → exec (.tempoSource p v) s = .next (re { c with
      source := .tap, pulseTimer := false, pulseLast := none, pulses := [], pulseCount := 0, countdown := (b : Nat), bc := b
      transport := calm, tapLast := none, taps := [] })) ∧
    (v = 0 → c.source = .external → exec (.tempoSource p v) s = .next (re { c with
      source := .internal, pulseTimer := false, pulseLast := none, pulses := [], pulseCount := 0, countdown := (b : Nat)
      bc := b, transport := calm })) ∧
    (v = 1 → c.source = .internal → exec (.tempoSource p v) s = .next (re { c with
      source := .tap, tapLast := none, taps := [] })) ∧
    (v = 0 → c.source = .tap → exec (.tempoSource p v) s = .next (re { c with
      source := .internal, tapLast := none, taps := [] }))

/-- R138: the three items of CLOCK_SETUP: default tempo and pulses per beat are clamped; beats per bar is refused unless the show
is STOPPED and where a cue lies above, and otherwise set. That a number of beats per bar outside 1 to 16 is refused BAD_ARG, before
the cues are looked at, is the model's reading (log 44). -/
def Obligations.ClockSetupTakesThreeItems : Prop :=
  ∀ (p : Pkt) (v : Nat) (s : State), Ready p 13 s →
    let y := heard p 0x2C s
    let c := y.clk
    let re := fun (st : Status) (z : Show) => filled p 0x2C st [] { y with clk := z }
    exec (.clockSetupDefaultTempo { p with form := .badItem } v) s = .next (re .badArg c) ∧
    exec (.clockSetupDefaultTempo p v) s = .next (re (okOr (decide (clampNat 300 3000 v ≠ v)))
      { c with defTempo := clampNat 300 3000 v }) ∧
    exec (.clockSetupPulsesPerBeat p v) s = .next (re (okOr (decide (clampNat 1 48 v ≠ v)))
      { c with ppb := clampNat 1 48 v, pulseLast := none, pulses := [], pulseCount := 0 }) ∧
    (c.transport ≠ .stopped → exec (.clockSetupBeatsPerBar p v) s = .next (re .badArg c)) ∧
    (v < 1 ∨ 16 < v → exec (.clockSetupBeatsPerBar p v) s = .next (re .badArg c)) ∧
    (c.transport = .stopped → 1 ≤ v → v ≤ 16 → (∃ q ∈ c.cues, v < q.beat) →
      exec (.clockSetupBeatsPerBar p v) s = .next (re .occupied c)) ∧
    (c.transport = .stopped → 1 ≤ v → v ≤ 16 → (∀ q ∈ c.cues, q.beat ≤ v) →
      exec (.clockSetupBeatsPerBar p v) s = .next (re .ok { c with bpb := v }))

/-- R144: the four transport requests from each state of the show; a request that the state does not take changes nothing.
The reply carries the transport after it. Cues at the position fire through `fireHere`. -/
def Obligations.TransportRequestsMoveTheShow : Prop :=
  ∀ (p : Pkt) (s : State), Ready p 11 s →
    (let y := heard p 0x20 s
     let re := fun (z : State) => filled p 0x20 .ok (transportBytes z.clk) z
     let cued := fun (z : State) => answer p.link .ok (transportBytes z.clk) z
     let b := beatLen y.clk.tempo
     (y.clk.transport = .stopped → y.clk.source = .external →
       exec (.showStart p) s = .next (re { y with clk := { y.clk with transport := .armed } })) ∧
     (y.clk.transport = .stopped → y.clk.source ≠ .external →
       exec (.showStart p) s = .next (cued (fireHere { y with clk := { y.clk with
         transport := .running, bar := 1, beat := 1, countdown := (b : Nat), bc := b, beatCount := 0 } }))) ∧
     (y.clk.transport ≠ .stopped → exec (.showStart p) s = .next (re y))) ∧
    (let y := heard p 0x21 s
     let re := fun (z : State) => filled p 0x21 .ok (transportBytes z.clk) z
     (y.clk.transport = .running →
       exec (.showHold p) s = .next (re { y with clk := { y.clk with transport := .held } })) ∧
     (y.clk.transport ≠ .running → exec (.showHold p) s = .next (re y))) ∧
    (let y := heard p 0x22 s
     let re := fun (z : State) => filled p 0x22 .ok (transportBytes z.clk) z
     let cued := fun (z : State) => answer p.link .ok (transportBytes z.clk) z
     (y.clk.transport = .held →
       exec (.showContinue p) s = .next (cued (fireHere { y with clk := { y.clk with transport := .running } }))) ∧
     (y.clk.transport ≠ .held → exec (.showContinue p) s = .next (re y))) ∧
    (let y := heard p 0x23 s
     exec (.showStop p) s = .next (
       let z : State := { y with clk := { y.clk with
         transport := .stopped, bar := 1, beat := 1, cues := y.clk.cues.map fun q => { q with fired := false } } }
       filled p 0x23 .ok (transportBytes z.clk) z))

/-- R148: the unfired cues at the position fire one after another in list order, each on the state the one before left; a STOP
ends the firing, and the cues after it stay unfired like every other. A firing marks the cue fired with outcome DONE, makes CUE
pending, becomes the most recent firing position, and does its action: STOP stops the show at 1:1 with every mark unfired, TEMPO
goes to the Show Clock, TUNER to the Tuner, SATELLITE to image and shadow, SWITCH to the arbiter, whose refusal is its outcome. -/
def Obligations.UnfiredCueFires : Prop :=
  (∀ s : State,
    let here := s.clk.cues.filter fun x => !x.fired && x.bar == s.clk.bar && x.beat == s.clk.beat
    ((∀ x ∈ here, x.action ≠ .stop) → fireHere s = here.foldl (fun z x => fireCue x z) s) ∧
    (∀ pre q post, here = pre ++ q :: post → (∀ x ∈ pre, x.action ≠ .stop) → q.action = .stop →
      fireHere s = fireCue q (pre.foldl (fun z x => fireCue x z) s))) ∧
  (∀ (s : State) (q : Cue),
    let z := raise .cue { s with clk := { s.clk with
      lastFired := some (q.bar, q.beat)
      cues := s.clk.cues.map fun x => if x.tag = q.tag then { x with fired := true, outcome := .done } else x } }
    (q.action = .stop → fireCue q s = { z with clk := { z.clk with
      transport := .stopped, bar := 1, beat := 1, cues := z.clk.cues.map fun x => { x with fired := false } } }) ∧
    (∀ t, q.action = .tempo t → fireCue q s = commandTempo t z) ∧
    (∀ w, q.action = .tuner w → fireCue q s = setTunerMode (if w then .watch else .off) z) ∧
    (∀ i r v, q.action = .satellite i r v → fireCue q s =
      (let u := writeImage i r v z
       if isDriven u (.sat i r) || isOverridden u (.sat i r) then u else pushed .routine i r v u)) ∧
    (∀ n k pr g, q.action = .switch n k pr g → switchArgsOk z n k false = false → fireCue q s = cueOutcome q.tag .badArg z) ∧
    (∀ n k pr g, q.action = .switch n k pr g → switchArgsOk z n k false = true →
      let a := arbiter ⟨.preset n k, false, false, false, .cue q.tag, pr, g⟩ z
      (a.1 = .taken → fireCue q s = a.2) ∧ (a.1 ≠ .taken → fireCue q s = cueOutcome q.tag a.1 a.2)))

/-- R145: position and fired marks follow the position; a STOPPED or ARMED show is HELD, a HELD one stays, a RUNNING one goes
on from there (outside EXTERNAL with the beat re-phased). With CHASE the latest SWITCH cue before the position fires first;
then a RUNNING show fires the unfired cues at the position. That a chase value above 1 is refused BAD_ARG is the model's choice
(log 30). -/
def Obligations.LocateSetsThePosition : Prop :=
  ∀ (p : Pkt) (b k : Nat) (s : State), Ready p 11 s →
    let y := heard p 0x24 s
    let c : Show := { y.clk with
      bar := b, beat := k
      cues := y.clk.cues.map fun q => { q with fired := decide (q.bar < b) || (q.bar == b && decide (q.beat < k)) } }
    let re := fun (z : State) => filled p 0x24 .ok (transportBytes z.clk) z
    let cued := fun (z : State) => answer p.link .ok (transportBytes z.clk) z
    let n := beatLen c.tempo
    let ok := 1 ≤ b ∧ b ≤ 9999 ∧ 1 ≤ k ∧ k ≤ y.clk.bpb
    (¬ ok → ∀ chase, exec (.showLocate p b k chase) s = .next (filled p 0x24 .badArg [] y)) ∧
    (∀ chase, 1 < chase → exec (.showLocate p b k chase) s = .next (filled p 0x24 .badArg [] y)) ∧
    (∀ chase, ok → chase = 0 ∨ (chase = 1 ∧ chaseCue b k c.cues = none) →
      (c.transport ≠ .running →
        exec (.showLocate p b k chase) s = .next (re { y with clk := { c with transport := .held } })) ∧
      (c.transport = .running → c.source = .external →
        exec (.showLocate p b k chase) s = .next (cued (fireHere { y with clk := c }))) ∧
      (c.transport = .running → c.source ≠ .external →
        exec (.showLocate p b k chase) s = .next (cued (fireHere { y with clk := { c with
          countdown := (n : Nat), bc := n, beatCount := 0 } })))) ∧
    (∀ q, ok → chaseCue b k c.cues = some q →
      let w : Show := if c.transport ≠ .running then { c with transport := .held }
        else if c.source = .external then c else { c with countdown := (n : Nat), bc := n, beatCount := 0 }
      let z := fireCue q { y with clk := w }
      exec (.showLocate p b k 1) s = .next (cued (if z.clk.transport = .running then fireHere z else z)))

/-- R147: CUE_INSERT refuses what its table refuses, else puts the cue after those at its position and before later ones and
answers its number, CLAMPED where an argument was clamped; CUE_DELETE removes the cue of a number that stands where the
request says. -/
def Obligations.CuesEnterAndLeaveTheList : Prop :=
  ∀ (p : Pkt) (b k : Nat) (s : State), Ready p 11 s →
    (let y := heard p 0x25 s
     let c := y.clk
     let ok := 1 ≤ b ∧ b ≤ 9999 ∧ 1 ≤ k ∧ k ≤ c.bpb
     let fired := (c.transport == .running || c.transport == .held) && !posBefore c.bar c.beat b k
     let n := (c.cues.filter fun x => !posBefore b k x.bar x.beat).length
     let re := fun (st : Status) (a : CueAction) => filled p 0x25 st [byte n] { y with clk := { c with
       cues := insertCue ⟨b, k, a, fired, .none, c.nextTag⟩ c.cues, nextTag := c.nextTag + 1 } }
     let no := fun (st : Status) => filled p 0x25 st [] y
     let legal := fun (kind : Nat) (a : List Nat) => kind = 1 ∨ kind = 4 ∨
       (kind = 0 ∧ ∃ n m pr g, a = n :: m :: pr :: g ∧ n ≤ 127 ∧ m ≤ 3 ∧ pr ≤ 3) ∨
       (kind = 2 ∧ ∃ w g, a = w :: g ∧ w ≤ 1) ∨ (kind = 3 ∧ ∃ i r g, a = i :: r :: g ∧ i ≤ 7 ∧ r ≤ 15)
     (¬ ok → ∀ kind a, exec (.cueInsert p b k kind a) s = .next (no .badArg)) ∧
     (∀ kind a, 4 < kind → exec (.cueInsert p b k kind a) s = .next (no .badArg)) ∧
     (∀ n m pr g, 127 < n ∨ 3 < m ∨ 3 < pr → exec (.cueInsert p b k 0 (n :: m :: pr :: g)) s = .next (no .badArg)) ∧
     (∀ w a, 1 < w → exec (.cueInsert p b k 2 (w :: a)) s = .next (no .badArg)) ∧
     (∀ i r a, 7 < i ∨ 15 < r → exec (.cueInsert p b k 3 (i :: r :: a)) s = .next (no .badArg)) ∧
     (∀ kind a, ok → legal kind a →
       (64 ≤ c.cues.length → exec (.cueInsert p b k kind a) s = .next (no .full)) ∧
       (c.cues.length < 64 → 4 ≤ (c.cues.filter fun q => q.bar == b && q.beat == k).length →
         exec (.cueInsert p b k kind a) s = .next (no .crowded))) ∧
     (ok → c.cues.length < 64 → (c.cues.filter fun q => q.bar == b && q.beat == k).length < 4 →
       (∀ n m pr hi lo, n < 128 → m < 4 → pr < 4 → exec (.cueInsert p b k 0 [n, m, pr, hi, lo]) s =
         .next (re (okOr (decide (2000 < 256 * hi + lo))) (.switch n m pr (min 2000 (256 * hi + lo))))) ∧
       (∀ hi lo a, exec (.cueInsert p b k 1 (hi :: lo :: a)) s =
         .next (re (okOr (decide (clampNat 300 3000 (256 * hi + lo) ≠ 256 * hi + lo)))
           (.tempo (clampNat 300 3000 (256 * hi + lo))))) ∧
       (∀ w a, w ≤ 1 → exec (.cueInsert p b k 2 (w :: a)) s = .next (re .ok (.tuner (w == 1)))) ∧
       (∀ i r v a, i ≤ 7 → r ≤ 15 → exec (.cueInsert p b k 3 (i :: r :: v :: a)) s =
         .next (re (okOr (decide (255 < v))) (.satellite i r (min 255 v)))) ∧
       (∀ a, exec (.cueInsert p b k 4 a) s = .next (re .ok .stop)))) ∧
    (let y := heard p 0x26 s
     (∀ n q, y.clk.cues[n]? = some q → q.bar = b → q.beat = k → exec (.cueDelete p n b k) s =
       .next (filled p 0x26 .ok [] { y with clk := { y.clk with cues := y.clk.cues.eraseIdx n } })) ∧
     (∀ n q, y.clk.cues[n]? = some q → (q.bar ≠ b ∨ q.beat ≠ k) →
       exec (.cueDelete p n b k) s = .next (filled p 0x26 .badArg [] y)) ∧
     (∀ n, y.clk.cues.length ≤ n → exec (.cueDelete p n b k) s = .next (filled p 0x26 .badArg [] y)))

/-- R139, R140, R143 and R148: at the countdown's beat event the beat count advances, BEAT is pending, and a RUNNING show moves on:
to the next beat, or to the first of the next bar, where the unfired cues fire through `fireHere`, and HELD after the last beat of
bar 9999, where none fires; where no unfired cue waits at the new position nothing else happens. The beat starts again with the
beat length of the tempo in force after the event and its cues, so a lone TEMPO cue that fires at it sets the beat that begins
there. An event that is due acts on the state as it is; one
to come within the running frame acts after what was due, and the samples up to it pass first; one beyond the frame is the
boundary's, and nothing but what was due is done (the model's choices, logs 1 and 17). -/
def Obligations.BeatEventMovesTheBeat : Prop :=
  ∀ s : State, live s = true →
    let due := present s = true ∧ s.clk.source ≠ .external ∧ s.clk.countdown ≤ 0
    let ahead := fun (y : State) => y.tone.framePhase + ((y.clk.countdown + 255) / 256).toNat
    let acts := fun (y : State) =>
      let n := ((y.clk.countdown + 255) / 256).toNat
      let b := beatLen y.clk.tempo
      let c : Show := { y.clk with
        pos := y.clk.pos + BitVec.ofNat 32 n, sinceBeat := 0, beatCount := (y.clk.beatCount + 1) % 48
        countdown := y.clk.countdown - 256 * (n : Int) + (b : Nat), bc := b }
      let z := fun (c : Show) => raise .beat { y with
        clk := c, tone := { y.tone with framePhase := y.tone.framePhase + n }
        tuner := { y.tuner with pos := y.tuner.pos + BitVec.ofNat 32 n } }
      let calm := fun (bar beat : Nat) => ∀ q ∈ c.cues, q.fired = true ∨ q.bar ≠ bar ∨ q.beat ≠ beat
      let fires := fun (bar beat : Nat) =>
        let u := raise .beat (fireHere { y with
          clk := { c with countdown := y.clk.countdown - 256 * (n : Int), bc := y.clk.bc, bar := bar, beat := beat }
          tone := { y.tone with framePhase := y.tone.framePhase + n }
          tuner := { y.tuner with pos := y.tuner.pos + BitVec.ofNat 32 n } })
        exec .beatEvent s = .next { u with clk := { u.clk with
          countdown := u.clk.countdown + (beatLen u.clk.tempo : Nat), bc := beatLen u.clk.tempo } }
      (c.transport = .running → c.beat < c.bpb → fires c.bar (c.beat + 1)) ∧
      (c.transport = .running → c.bpb ≤ c.beat → c.bar < 9999 → fires (c.bar + 1) 1) ∧
      (c.transport ≠ .running → exec .beatEvent s = .next (z c)) ∧
      (c.transport = .running → c.beat < c.bpb → calm c.bar (c.beat + 1) →
        exec .beatEvent s = .next (z { c with beat := c.beat + 1 })) ∧
      (c.transport = .running → c.bpb ≤ c.beat → c.bar < 9999 → calm (c.bar + 1) 1 →
        exec .beatEvent s = .next (z { c with bar := c.bar + 1, beat := 1 })) ∧
      (c.transport = .running → c.bpb ≤ c.beat → 9999 ≤ c.bar →
        exec .beatEvent s = .next (z { c with transport := .held })) ∧
      (∀ q t, c.transport = .running → c.beat < c.bpb → q.action = .tempo t →
        (c.cues.filter fun x => !x.fired && x.bar == c.bar && x.beat == c.beat + 1) = [q] →
        ∃ u, exec .beatEvent s = .next u ∧ u.clk.beat = c.beat + 1 ∧ u.clk.tempo = clampNat 300 3000 t ∧
          u.clk.bc = beatLen (clampNat 300 3000 t) ∧
          u.clk.countdown = y.clk.countdown - 256 * (n : Int) + (beatLen (clampNat 300 3000 t) : Nat))
    (due → acts s) ∧
    (¬ due → present (prelude s) = true → (prelude s).clk.source ≠ .external → ahead (prelude s) ≤ 32 → acts (prelude s)) ∧
    (¬ due → present (prelude s) = false ∨ (prelude s).clk.source = .external ∨ 32 < ahead (prelude s) →
      exec .beatEvent s = .next (prelude s))

/-- R136, R137, R140, R143, R144 and R148: a pulse outside EXTERNAL is ignored; during a clock loss, or with a second pulse of one
sample, it reloads the pulse timer alone. Otherwise its interval enters the history and a full history sets the tempo. The first
pulse of an ARMED show starts it at 1:1, and the Nth ends the beat: a RUNNING show moves to the next beat or to the first of the
next bar, and is HELD after the last beat of bar 9999, where no cue fires. At the new position the unfired cues fire through
`fireHere`; where none waits nothing else happens. The timer's expiry falls back to INTERNAL. -/
def Obligations.PulsesDriveTheExternalClock : Prop :=
  ∀ s : State, live s = true →
    let y := prelude s
    let c := y.clk
    (c.source ≠ .external → exec .tclkPulse s = .next y) ∧
    (c.source = .external → (present y = false ∨ c.pulseLast = some c.pos) →
      exec .tclkPulse s = .next { y with clk := { c with pulseTimer := true } }) ∧
    (c.source = .external → present y = true → c.pulseLast ≠ some c.pos →
      let h := (match c.pulseLast with
        | some last => (c.pulses ++ [(c.pos - last).toNat]).drop (c.pulses.length + 1 - c.ppb)
        | none => c.pulses)
      let t := if h.length = c.ppb ∧ 0 < sumNat h then clampNat 300 3000 (roundHalfUp 7372800000 (sumNat h * 256)).toNat
               else c.tempo
      let d : Show := { c with pulseTimer := true, pulses := h, pulseLast := some c.pos, tempo := t }
      let beat : Show := { d with pulseCount := 0, beatCount := (c.beatCount + 1) % 48, sinceBeat := 0 }
      let calm := fun (bar beat : Nat) => ∀ q ∈ c.cues, q.fired = true ∨ q.bar ≠ bar ∨ q.beat ≠ beat
      let fires := fun (k : Show) => exec .tclkPulse s = .next (raise .beat (fireHere { y with clk := k }))
      let ends := c.transport = .running ∧ c.ppb ≤ c.pulseCount + 1
      (c.transport = .armed → fires { d with
        transport := .running, bar := 1, beat := 1, pulseCount := 0, sinceBeat := 0, beatCount := 0 }) ∧
      (ends → c.beat < c.bpb → fires { beat with beat := c.beat + 1 }) ∧
      (ends → c.bpb ≤ c.beat → c.bar < 9999 → fires { beat with bar := c.bar + 1, beat := 1 }) ∧
      (ends → c.bpb ≤ c.beat → c.bar < 9999 → calm (c.bar + 1) 1 →
        exec .tclkPulse s = .next (raise .beat { y with clk := { beat with bar := c.bar + 1, beat := 1 } })) ∧
      (ends → c.bpb ≤ c.beat → 9999 ≤ c.bar →
        exec .tclkPulse s = .next (raise .beat { y with clk := { beat with transport := .held } })) ∧
      (c.transport = .armed → calm 1 1 → exec .tclkPulse s = .next (raise .beat { y with clk := { d with
        transport := .running, bar := 1, beat := 1, pulseCount := 0, sinceBeat := 0, beatCount := 0 } })) ∧
      (c.transport ≠ .armed → c.pulseCount + 1 < c.ppb →
        exec .tclkPulse s = .next { y with clk := { d with pulseCount := c.pulseCount + 1 } }) ∧
      (c.transport = .stopped ∨ c.transport = .held → c.ppb ≤ c.pulseCount + 1 →
        exec .tclkPulse s = .next (raise .beat { y with clk := beat })) ∧
      (c.transport = .running → c.ppb ≤ c.pulseCount + 1 → c.beat < c.bpb → calm c.bar (c.beat + 1) →
        exec .tclkPulse s = .next (raise .beat { y with clk := { beat with beat := c.beat + 1 } }))) ∧
    (c.pulseTimer = true → c.source = .external →
      let b := beatLen c.tempo
      exec .pulseTimerExpiry s = .next (raise .clock { y with clk := { c with
        source := .internal, pulseTimer := false, pulseLast := none, pulses := [], pulseCount := 0, countdown := (b : Nat)
        bc := b
        transport := (match c.transport with
          | .running => .held
          | .armed => .stopped
          | t => t) } })) ∧
    (c.pulseTimer = false ∨ c.source ≠ .external → exec .pulseTimerExpiry s = .next y)

/-! ## The Satellite Controller (chapter 9) -/

/-- R166: of the classes with waiting work, highest first, a lone class is granted and ends the run; the highest class is
granted up to eight times in a row while another waits, and the grant after those goes to the lowest and ends the run. -/
def Obligations.ArbiterRunsEightThenYields : Prop :=
  ∀ (h l : SatClass) (mid : List SatClass) (run : Option (SatClass × Nat)), h ≠ l →
    arbitrate run [] = none ∧
    arbitrate run [h] = some (h, none) ∧
    (run = some (h, 8) → arbitrate run (h :: mid ++ [l]) = some (l, none)) ∧
    (∀ n, n ≠ 8 → run = some (h, n) → arbitrate run (h :: mid ++ [l]) = some (h, some (h, n + 1))) ∧
    (∀ c n, c ≠ h → run = some (c, n) → arbitrate run (h :: mid ++ [l]) = some (h, some (h, 1))) ∧
    (run = none → arbitrate run (h :: mid ++ [l]) = some (h, some (h, 1)))

/-- R152, R157, R160, R161, R164, R166, R167 and R196: with no hide due and an idle line, SAT_GRANT begins the transaction of
the class the arbiter names: the first waiting register after the class's scan position (16 stands for the status write of a
restore), the head of the pass-through queue, or the first waiting poll; with a transaction in flight or nothing waiting it does
nothing. Before it, a hide whose satellite has no transaction in flight is carried out and answered, and the head of the queue
for a hidden or ABSENT satellite is removed and answered. What waits: the marked registers of the satellites that are neither
hidden nor ABSENT, outside hold-auto, with the owed status write of a restore whose set is empty; the polls of the satellites
that are not hidden, outside hold-auto; the classes that hold anything, highest first; the scan takes the first key after its
position and wraps to the lowest. The model's choices: an owed status write waits in RESTORING alone (log 62), and a pass-through
leaves the queue at its grant (log 63).
On SDAT a transaction is the direction, three bits of the satellite, five of the register and a write's eight of data, each
field most significant bit first, while the part drives SSEL; a low acknowledge brings a read's eight data bits, any other is a
failure. -/
def Obligations.SatGrantBeginsTheNext : Prop :=
  (∀ t : Trans, t.sat < 8 → t.reg ≤ 16 → t.data < 256 → let v := sdatFrame t
    v.length = (if t.read then 9 else 17) ∧ v[0]? = some t.read ∧
    (∀ k, k < 3 → v[k + 1]? = some (t.sat.testBit (2 - k))) ∧ (∀ k, k < 5 → v[k + 4]? = some (t.reg.testBit (4 - k))) ∧
    (t.read = false → ∀ k, k < 8 → v[k + 9]? = some (t.data.testBit (7 - k)))) ∧
  (∀ (r : Bool) (rest : List Bool) (b : Byte),
    sdatAnswer r [] = none ∧ sdatAnswer r (true :: rest) = none ∧ sdatAnswer false (false :: rest) = some 0 ∧
    sdatAnswer true (false :: (List.range 8).map fun k => b.getLsbD (7 - k)) = some b) ∧
  (∀ s : State, (s.sat.inFlight = none → sdatDriven s = none) ∧
    ∀ t, s.sat.inFlight = some t → sdatDriven s = some (sdatFrame t)) ∧
  (∀ (c : SatCtl) (k : Nat),
    let waits := fun (i : Nat) (x : Sat) =>
      i < 8 ∧ c.sats[i]? = some x ∧ c.holdAuto = false ∧ x.hidden = false ∧ x.state ≠ .absent
    (k ∈ satWaiting c .urgent ↔ ∃ i r x, waits i x ∧ k = 17 * i + r ∧ x.marks[r]? = some .urgent) ∧
    (k ∈ satWaiting c .routine ↔ ∃ i r x, waits i x ∧ k = 17 * i + r ∧
      (x.marks[r]? = some .routine ∨
        (r = 16 ∧ x.owed = true ∧ x.state = .restoring ∧ ∀ m ∈ x.marks, m = .absent))) ∧
    (k ∈ satPolls c ↔
      k < 8 ∧ c.holdAuto = false ∧ ∃ x, c.sats[k]? = some x ∧ x.pollWaits = true ∧ x.hidden = false) ∧
    ((∀ x ∈ c.sats, x.marks.length = 16) →
      (satWaiting c .urgent).Pairwise (· < ·) ∧ (satWaiting c .routine).Pairwise (· < ·)) ∧
    (satPolls c).Pairwise (· < ·) ∧
    (satClasses c).Sublist [.urgent, .pass, .routine, .poll] ∧
    (.urgent ∈ satClasses c ↔ satWaiting c .urgent ≠ []) ∧ (.pass ∈ satClasses c ↔ c.queue ≠ []) ∧
    (.routine ∈ satClasses c ↔ satWaiting c .routine ≠ []) ∧ (.poll ∈ satClasses c ↔ satPolls c ≠ [])) ∧
  (∀ (after k : Nat) (l : List Nat), scanNext after [] = none ∧
    (l.Pairwise (· < ·) → k ∈ l →
      (scanNext after l = some k ↔
        (after < k ∧ ∀ j ∈ l, after < j → k ≤ j) ∨ ((∀ j ∈ l, j ≤ after) ∧ ∀ j ∈ l, k ≤ j)))) ∧
  (∀ s : State, live s = true →
    let c := s.sat
    let grants := fun (z : State) => exec .satGrant s = exec .satGrant z
    (∀ pre l i post, c.hideWaits = pre ++ (l, i) :: post → c.hideWaits.length ≤ 4 → (l, i) ∉ pre ++ post →
      (∀ h ∈ pre, satBusy s h.2 = true) → satBusy s i = false →
      let done : SatCtl := { c with hideWaits := pre ++ post }
      ((satOf s i).hidden = true → grants (answer l .ok [] { s with sat := done })) ∧
      ((satOf s i).hidden = false → grants (answer l .ok [] (raise .satellite { s with sat := { done with
        sats := modAt c.sats i fun x => { x with hidden := true, pollWaits := false } } })))) ∧
    (∀ q t, (∀ h ∈ c.hideWaits, satBusy s h.2 = true) → c.queue = q :: t → t.length ≤ 3 →
      (satOf s q.sat).hidden = true ∨ (satOf s q.sat).state = .absent →
      let rest : State := { s with sat := { c with queue := t } }
      grants (if (linkOf s q.link).seat.quiet then answer q.link .noAnswer [] rest else answer q.link .ok [0xFF] rest))) ∧
  ∀ s : State, live s = true → (∀ h ∈ s.sat.hideWaits, satBusy s h.2 = true) →
    let c := s.sat
    let data := fun (k : Nat) => if k % 17 = 16 then 0x80 else (satOf s (k / 17)).desired.getD (k % 17) 0
    let go := fun (z : SatCtl) => exec .satGrant s = .next { s with sat := z }
    (∀ q, c.queue.head? = some q → (satOf s q.sat).hidden = false ∧ (satOf s q.sat).state ≠ .absent) →
    (c.inFlight ≠ none → go c) ∧
    (satClasses c = [] → go c) ∧
    (∀ run k, c.inFlight = none → arbitrate c.run (satClasses c) = some (.urgent, run) →
      scanNext (c.scanU.1 * 17 + c.scanU.2) (satWaiting c .urgent) = some k →
      go { c with run := run, scanU := (k / 17, k % 17), inFlight := some ⟨k / 17, k % 17, .urgent, false, data k, none⟩ }) ∧
    (∀ run k, c.inFlight = none → arbitrate c.run (satClasses c) = some (.routine, run) →
      scanNext (c.scanR.1 * 17 + c.scanR.2) (satWaiting c .routine) = some k →
      go { c with run := run, scanR := (k / 17, k % 17), inFlight := some ⟨k / 17, k % 17, .routine, false, data k, none⟩ }) ∧
    (∀ run q t, c.inFlight = none → arbitrate c.run (satClasses c) = some (.pass, run) → c.queue = q :: t →
      go { c with
        run := run, queue := t
        inFlight := some ⟨q.sat, q.reg, .pass, !q.write,
          if q.write then (satOf s q.sat).desired.getD q.reg 0 else 0, some q.link⟩ }) ∧
    (∀ run i, c.inFlight = none → arbitrate c.run (satClasses c) = some (.poll, run) →
      scanNext c.scanP (satPolls c) = some i →
      go { c with
        run := run, scanP := i, sats := modAt c.sats i (fun x => { x with pollWaits := false })
        inFlight := some ⟨i, 16, .poll, true, 0, none⟩ })

/-- R153, R156, R157 and R158: what an answered write, status write or poll leaves in its satellite. An answered register
leaves the pending set unless its desired value has moved on; every answer zeroes the failure count and restores a satellite
that was UNKNOWN or ABSENT; BEHIND with an empty set becomes IN_STEP; a restore ends with its status write; a poll keeps the
status without bits 5 and 4, latches a fault, and restores after a power-up. R168: SATELLITE becomes
pending where the satellite's state or its latch, with its kind, changes, and only there. The line is idle; other satellites, and
all but those notice flags outside this block, stay. -/
def Obligations.AnswersSettleTheSatellite : Prop :=
  ∀ (s : State) (t : Trans), live s = true → (prelude s).sat.inFlight = some t → t.link = none →
    t.sat < (prelude s).sat.sats.length →
    let y := prelude s
    let x := satOf y t.sat
    let fresh := fun (x : Sat) => { x with marks := List.replicate 16 .routine, owed := true, state := .restoring }
    let ends := fun (c : Instr) (x' : Sat) => ∃ z, exec c s = .next z ∧ satOf z t.sat = x' ∧
      (∀ j, j ≠ t.sat → satOf z j = satOf y j) ∧ z.sat = { y.sat with inFlight := none, sats := z.sat.sats } ∧
      z = { y with sat := z.sat, link := z.link } ∧
      z.link = if x'.state = x.state ∧ x'.latch = x.latch then y.link else (raise .satellite y).link
    (t.read = false → t.reg < 16 →
      let m := if x.desired.getD t.reg 0 = t.data then x.marks.set t.reg .absent else x.marks
      let x1 : Sat := { x with failures := 0, marks := m }
      ((x.state = .unknown ∨ x.state = .absent) → ends .writeAnswered (fresh x1)) ∧
      (x.state = .behind → (∀ k ∈ m, k = .absent) → ends .writeAnswered { x1 with state := .inStep }) ∧
      (x.state = .behind → (∃ k ∈ m, k ≠ .absent) → ends .writeAnswered x1) ∧
      ((x.state = .restoring ∨ x.state = .inStep) → ends .writeAnswered x1)) ∧
    (t.read = false → t.reg = 16 →
      let x1 : Sat := { x with failures := 0 }
      (x.state = .restoring → (∀ k ∈ x.marks, k = .absent) →
        ends .statusWriteAnswered { x1 with owed := false, state := .inStep }) ∧
      (x.state = .restoring → (∃ k ∈ x.marks, k ≠ .absent) →
        ends .statusWriteAnswered { x1 with owed := false, state := .behind }) ∧
      ((x.state = .unknown ∨ x.state = .absent) → ends .statusWriteAnswered (fresh x1)) ∧
      ((x.state = .behind ∨ x.state = .inStep) → ends .statusWriteAnswered x1)) ∧
    (∀ status : Byte, t.cls = .poll →
      let latch := if status &&& 0x40 = 0 then x.latch else some (status &&& 0x0F).toNat
      let x1 : Sat := { x with failures := 0, last := some (status &&& 0xCF), latch := latch }
      ((status &&& 0x80 ≠ 0 ∨ x.state = .unknown ∨ x.state = .absent) → ends (.pollAnswered status) (fresh x1)) ∧
      ((status &&& 0x80 = 0 ∧ x.state ≠ .unknown ∧ x.state ≠ .absent) → ends (.pollAnswered status) x1))

/-- R153 and R165: a failed transaction counts, the third in a row makes the satellite ABSENT with a notice, and a
pass-through is answered FFh or NO_ANSWER by its seat's quiet-absent flag; the answer of a pass-through is carried back with
the value written or read, after what it tells of the satellite (`passOutcome`). -/
def Obligations.FailuresAndPassThroughsEnd : Prop :=
  ∀ (s : State) (t : Trans), live s = true → (prelude s).sat.inFlight = some t → t.sat < (prelude s).sat.sats.length →
    let y := prelude s
    let x := satOf y t.sat
    let n := min 3 (x.failures + 1)
    let idle : State := { y with sat := { y.sat with inFlight := none } }
    let failed := onSatAt t.sat (fun x => { x with failures := n }) idle
    let counted := if n < 3 ∨ x.state = .absent then failed
      else raise .satellite (onSatAt t.sat (fun x => { x with failures := n, state := .absent }) idle)
    (t.link = none → exec .transactionFailed s = .next counted) ∧
    (∀ l, t.link = some l → (linkOf y l).seat.quiet = true →
      exec .transactionFailed s = .next (answer l .noAnswer [] counted)) ∧
    (∀ l, t.link = some l → (linkOf y l).seat.quiet = false →
      exec .transactionFailed s = .next (answer l .ok [0xFF] counted)) ∧
    (∀ l (v : Byte), t.link = some l → t.read = true → t.reg < 16 →
      exec (.passThroughAnswered v) s = .next (answer l .ok [v] (satAnswered t.sat idle))) ∧
    (∀ l (v : Byte), t.link = some l → t.read = true → t.reg = 16 →
      exec (.passThroughAnswered v) s = .next (answer l .ok [v] (satPollAnswer t.sat v idle))) ∧
    (∀ l (v : Byte), t.link = some l → t.read = false →
      exec (.passThroughAnswered v) s = .next (answer l .ok [byte t.data] (satWriteAnswer t.sat t.reg t.data idle)))

/-- R163 and R164: SAT_READ and SAT_WRITE join the pass-through queue, or are answered at once for a hidden or ABSENT
satellite; SAT_WRITE first stores the value in the buffer's image as a taken edit and pushes or marks the register; SAT_CLEAR
clears the fault latch and answers the last status. That mark and request of one SAT_WRITE both wait before an idle line
grants either is the model's choice (log 58). -/
def Obligations.PassThroughRequestsQueue : Prop :=
  ∀ (p : Pkt) (i r v : Nat) (s : State), Ready p 12 s →
    (let y := heard p 0x28 s
     (8 ≤ i ∨ 16 < r → exec (.satRead p i r) s = .next (filled p 0x28 .badArg [] y)) ∧
     (i < 8 → r ≤ 16 → (satOf y i).hidden = false → (satOf y i).state ≠ .absent → exec (.satRead p i r) s =
       .next { y with sat := { y.sat with queue := y.sat.queue ++ [⟨p.link, i, r, false⟩] } }) ∧
     (i < 8 → r ≤ 16 → ((satOf y i).hidden = true ∨ (satOf y i).state = .absent) → exec (.satRead p i r) s =
       .next (if (linkOf y p.link).seat.quiet then filled p 0x28 .noAnswer [] y else filled p 0x28 .ok [0xFF] y))) ∧
    (let y := heard p 0x27 s
     (8 ≤ i ∨ 15 < r → exec (.satWrite p i r v) s = .next (filled p 0x27 .badArg [] y)) ∧
     (∀ rec, i < 8 → r ≤ 15 → y.scene.buffer.record = some rec →
       let free := !(isDriven y (.sat i r) || isOverridden y (.sat i r))
       let z : State := { edited { rec with images := setImage i r v rec.images } y with
         sat := { y.sat with sats := modAt y.sat.sats i fun x => { x with
           desired := if free then x.desired.set r v else x.desired
           marks := modAt x.marks r fun m => if m = .urgent then .urgent else .routine } } }
       let u := if (satOf y i).state = .inStep then
           raise .satellite { z with sat := { z.sat with sats := modAt z.sat.sats i fun x => { x with state := .behind } } }
         else z
       ((satOf y i).hidden = false → (satOf y i).state ≠ .absent → exec (.satWrite p i r v) s =
         .next { u with sat := { u.sat with queue := u.sat.queue ++ [⟨p.link, i, r, true⟩] } }) ∧
       ((satOf y i).hidden = true ∨ (satOf y i).state = .absent → exec (.satWrite p i r v) s =
         .next (if (linkOf y p.link).seat.quiet then filled p 0x27 .noAnswer [] u else filled p 0x27 .ok [0xFF] u)))) ∧
    (let y := heard p 0x29 s
     (8 ≤ i → exec (.satClear p i) s = .next (filled p 0x29 .badArg [] y)) ∧
     (i < 8 → (satOf y i).latch = none →
       exec (.satClear p i) s = .next (filled p 0x29 .ok [(satOf y i).last.getD 0xFF] y)) ∧
     (i < 8 → (satOf y i).latch ≠ none → exec (.satClear p i) s =
       .next (filled p 0x29 .ok [(satOf y i).last.getD 0xFF]
         (raise .satellite { y with sat := { y.sat with sats := modAt y.sat.sats i fun x => { x with latch := none } } }))))

/-- R160, R161 and R162: the three items of SAT_SETUP. A value equal to the present one only answers OK; a change makes
SATELLITE pending. A hide of a satellite with a transaction in flight waits with its reply until DEFERRED_HIDE carries it
out; an unhidden satellite is UNKNOWN with failure count 0. That a value above 1 of hold-auto, REFRESH or hide is refused BAD_ARG
is the model's choice (log 30). -/
def Obligations.SatSetupHoldsRefreshesHides : Prop :=
  ∀ (p : Pkt) (i v : Nat) (s : State), Ready p 15 s →
    let y := heard p 0x2E s
    let c := y.sat
    let ok := fun (z : State) => filled p 0x2E .ok [] z
    let no := filled p 0x2E .badArg [] y
    let at_ := fun (f : Sat → Sat) => raise .satellite { y with sat := { c with sats := modAt c.sats i f } }
    (1 < v → exec (.satSetupHoldAuto p v) s = .next no ∧ exec (.satSetupRefresh p v) s = .next no) ∧
    exec (.satSetupHoldAuto { p with form := .badItem } v) s = .next no ∧
    (8 ≤ i ∨ 1 < v → exec (.satSetupHide p i v) s = .next no) ∧
    (v ≤ 1 → c.holdAuto = (v == 1) → exec (.satSetupHoldAuto p v) s = .next (ok y)) ∧
    (v ≤ 1 → c.holdAuto ≠ (v == 1) →
      exec (.satSetupHoldAuto p v) s = .next (ok (raise .satellite { y with sat := { c with holdAuto := (v == 1) } }))) ∧
    (v ≤ 1 → c.refresh = (v == 1) →
      exec (.satSetupRefresh p v) s = .next (ok { y with sat := { c with refTimer := (v == 1) } })) ∧
    (v ≤ 1 → c.refresh ≠ (v == 1) → exec (.satSetupRefresh p v) s =
      .next (ok (raise .satellite { y with sat := { c with refresh := (v == 1), refTimer := (v == 1) } }))) ∧
    (i < 8 → v ≤ 1 → (satOf y i).hidden = (v == 1) → exec (.satSetupHide p i v) s = .next (ok y)) ∧
    (i < 8 → v = 0 → (satOf y i).hidden = true → exec (.satSetupHide p i v) s =
      .next (ok (at_ fun x => { x with hidden := false, state := .unknown, failures := 0 }))) ∧
    (i < 8 → v = 1 → (satOf y i).hidden = false → satBusy y i = false → exec (.satSetupHide p i v) s =
      .next (ok (at_ fun x => { x with hidden := true, pollWaits := false }))) ∧
    (i < 8 → v = 1 → (satOf y i).hidden = false → satBusy y i = true → exec (.satSetupHide p i v) s =
      .next { y with sat := { c with hideWaits := c.hideWaits ++ [(p.link, i)] } })

/-- R161: DEFERRED_HIDE carries out the oldest hide that waits for its satellite, once no transaction of it is in flight,
and answers the request; while one is in flight, or none waits, it does nothing. -/
def Obligations.DeferredHideFollowsTheTransaction : Prop :=
  ∀ (i : Fin 8) (s : State), live s = true →
    (satBusy s i.val = true → exec (.deferredHide i) s = .next s) ∧
    ((∀ h ∈ s.sat.hideWaits, h.2 ≠ i.val) → exec (.deferredHide i) s = .next s) ∧
    (∀ l rest, satBusy s i.val = false → s.sat.hideWaits = (l, i.val) :: rest → (l, i.val) ∉ rest →
      (satOf s i.val).hidden = false →
      exec (.deferredHide i) s = .next (answer l .ok [] (raise .satellite { s with sat := { s.sat with
        hideWaits := rest, sats := modAt s.sat.sats i.val fun x => { x with hidden := true, pollWaits := false } } })))

/-- R158, R159 and R160: outside hold-auto the poll expiry makes a status read wait for each satellite that is not hidden,
and with REFRESH on the refresh expiry enters every register of each IN_STEP satellite that is not hidden as ROUTINE and makes
it BEHIND, with SATELLITE pending where there is such a satellite (R168); otherwise neither does anything. That a refresh
expiry under hold-auto enters nothing is R159's word, which is followed where R160 speaks of refresh entries (the model's choice,
log 64). -/
def Obligations.SatelliteTimersExpire : Prop :=
  ∀ s : State, live s = true →
    let y := prelude s
    let c := y.sat
    (c.pollTimer = true → c.holdAuto = false → exec .pollTimerExpiry s = .next { y with sat := { c with
      sats := c.sats.map fun x => { x with pollWaits := x.pollWaits || !x.hidden } } }) ∧
    (c.pollTimer = false ∨ c.holdAuto = true → exec .pollTimerExpiry s = .next y) ∧
    (c.refTimer = false ∨ c.refresh = false ∨ c.holdAuto = true → exec .refreshTimerExpiry s = .next y) ∧
    (c.refTimer = true → c.refresh = true → c.holdAuto = false → c.sats.length = 8 →
      ∃ z, exec .refreshTimerExpiry s = .next z ∧ z = { y with sat := z.sat, link := z.link } ∧
        z.sat = { c with sats := c.sats.map fun x =>
          if x.state = .inStep ∧ x.hidden = false then
            { x with state := .behind, marks := x.marks.map fun m => if m = .urgent then .urgent else .routine }
          else x } ∧
        z.link = if ∃ x ∈ c.sats, x.state = .inStep ∧ x.hidden = false then (raise .satellite y).link else y.link)

/-! ## The Link Controller (chapter 10) -/

/-- R170 and R171: what discards a packet in progress. A gap in LENGTH, BODY or CHECK, a low stop bit, an invalid length byte
and a packet whose bytes do not sum to 0 leave the receiver in HUNT and nothing else changed; a receiver that waits after a
break takes no byte and enters HUNT when the line is high. -/
def Obligations.ReceiverDiscardsBadPackets : Prop :=
  ∀ (l : Fin 4) (s : State), live s = true →
    let y := prelude s
    let r := (linkOf y l).rx
    let hunt := onLinkAt l (fun x => { x with rx := ⟨.hunt, 0, []⟩ }) y
    (y.link.links.length = 4 →
      (r.st = .length ∨ r.st = .body ∨ r.st = .check → exec (.linkGapTimeout l [] []) s = .next hunt) ∧
      (r.st = .hunt ∨ r.st = .waitHigh → exec (.linkGapTimeout l [] []) s = .next y) ∧
      (∀ a b, r.st = .waitHigh → exec (.linkGapTimeout l a b) s = .next y) ∧
      (r.st ≠ .waitHigh → exec (.framingError l []) s = .next hunt) ∧
      (∀ a, r.st = .waitHigh → exec (.framingError l a) s = .next y) ∧
      (∀ (body : List Byte) (check : Byte), r = ⟨.hunt, 0, []⟩ → 1 ≤ body.length → body.length ≤ 250 →
        (byte body.length :: body ++ [check]).foldl (· + ·) 0 ≠ 0 →
        exec (.checkByteFailure l (0x5A :: byte body.length :: body ++ [check])) s = .next hunt) ∧
      (∀ a, r.st = .waitHigh → exec (.checkByteFailure l a) s = .next y) ∧
      (∀ b : Byte, r.st = .length ∨ r.st = .hunt → b.toNat = 0 ∨ 250 < b.toNat →
        exec (.invalidLengthByte l b) s = .next hunt) ∧
      (r.st = .waitHigh → exec (.breakLineHigh l) s = .next hunt) ∧
      (r.st ≠ .waitHigh → exec (.breakLineHigh l) s = .next y))

/-- R54, R73, R171, R174, R176, R180, R182 to R184 and R191 on one link: a break discards a filled reply or orphans the
request, withdraws a waiting read, ends an upload as BROKEN (one in SAVING goes on), and still brings RESTART about; a packet's
end lets the transmitter start the oldest reply, else the lowest pending notice with the state as it stands, but no notice
before BOOTING has loaded the masks (the model's reading, log 47); the rate due at a packet's end applies from there, and the
end of the reply to the link's own SEAT_SET brings the seat's rate, as a break that discards that reply does (the model's
choice, log 65); a kind that names no request is refused with its byte;
SUBSCRIBE replaces the mask and clears the flags it no longer marks, but for SWITCH_OUTCOME and AREA. R150, R183, R194, R195: a
notice is the kind C0h to CAh of its order with the payload of 12.4, stated for every kind (CUE: at most 4 cues of the last firing
position). The model's choices: the mask bits 11 to 15 are ignored (log 30), UNKNOWN_KIND on a kind that names a request does
nothing (log 39), a stash copy's and a REBUILD's target (log 22), and AREA of a link without an area (log 59). -/
def Obligations.BreaksPacketsAndMasks : Prop :=
  (∀ (l : Fin 4) (s : State), live s = true →
    let y := prelude s
    let r := linkOf y l
    let upload := (y.area.uploads.getD l.val ⟨none, .none⟩).area
    let broken := onLinkAt l (fun x => { x with
      rx := ⟨.waitHigh, 0, []⟩, places := []
      outstanding :=
        if x.places.any (·.tag != .busy) then none else x.outstanding.map fun o => { o with orphaned := true }
      txRate := if x.tx.isNone then x.seat.rate else x.txRate, nextRate := x.seat.rate }) y
    let calm := (∀ q ∈ r.places, q.tag ≠ .restart)
    let reads := ∃ q ∈ y.store.waitLinks, q.link = l
    (calm → ¬ reads → upload = none → exec (.linkBreak l) s = .next broken) ∧
    (calm → ¬ reads → ∀ a k taps rem t, upload = some a → y.area.areas[a]? = some (.loading k taps rem false t) →
      exec (.linkBreak l) s = .next (raiseOn .area l { broken with area := { y.area with
        areas := y.area.areas.set a .free, uploads := y.area.uploads.set l.val ⟨none, .broken⟩ } })) ∧
    (calm → ¬ reads → ∀ a k taps rem t, upload = some a → y.area.areas[a]? = some (.loading k taps rem true t) →
      exec (.linkBreak l) s = .next broken) ∧
    (calm → reads → upload = none → exec (.linkBreak l) s = .next
      (onLinkAt l (fun x => { x with outstanding := none }) { broken with
        store := { y.store with waitLinks := y.store.waitLinks.filter (·.link != l) } })) ∧
    (¬ calm → ¬ reads → upload = none → exec (.linkBreak l) s = .next { broken with
      startup := { y.startup with restartDue := true } })) ∧
  (∀ (l : Fin 4) (s : State), live s = true → (prelude s).link.links.length = 4 →
    let y := prelude s
    let r := linkOf y l
    (r.tx = none → exec (.transmitEnd l) s = .next y) ∧
    (∀ p, r.tx = some p → p.tag ≠ .restart →
      (∀ q t, r.places = q :: t → exec (.transmitEnd l) s = .next (onLinkAt l (fun x => { x with
        tx := some q, places := t, outstanding := if q.tag = .busy then x.outstanding else none, txRate := x.nextRate
        nextRate := if q.tag = .ownSeat then x.seat.rate else x.nextRate }) y)) ∧
      (r.places = [] → y.startup.phase = .booting →
        exec (.transmitEnd l) s = .next (onLinkAt l (fun x => { x with tx := none, txRate := x.nextRate }) y)) ∧
      (∀ k, r.places = [] → y.startup.phase ≠ .booting → r.flags &&& noticeBit k ≠ 0 →
        (∀ j, noticeOrder j < noticeOrder k → r.flags &&& noticeBit j = 0) →
        exec (.transmitEnd l) s = .next (onLinkAt l (fun x => { x with
          tx := some ⟨.plain, noticePacket k l y⟩, flags := x.flags &&& ~~~ noticeBit k, txRate := x.nextRate }) y)) ∧
      (r.places = [] → (∀ k, r.flags &&& noticeBit k = 0) →
        exec (.transmitEnd l) s = .next (onLinkAt l (fun x => { x with tx := none, txRate := x.nextRate }) y)))) ∧
  (∀ (l : Fin 4) (k : Nat) (s : State), live s = true → (prelude s).link.links.length = 4 → k < 256 →
    let y := prelude s
    let r := linkOf y l
    let at_ := fun (f : Link → Link) => exec (.unknownKind l k) s = .next (onLinkAt l (fun x => f { x with rx := rxHunt }) y)
    ((1 ≤ k ∧ k ≤ 0x38) ∨ r.rx.st = .waitHigh → exec (.unknownKind l k) s = .next y) ∧
    (¬ (1 ≤ k ∧ k ≤ 0x38) → r.rx.st ≠ .waitHigh →
      (∀ o, r.outstanding = some o → (∃ q ∈ r.places, q.tag = .busy) → at_ fun x => x) ∧
      (∀ o, r.outstanding = some o → (∀ q ∈ r.places, q.tag ≠ .busy) →
        at_ fun x => { x with places := x.places ++ [⟨.busy, ⟨0x80, [statusCode .busy, byte k]⟩⟩] }) ∧
      (r.outstanding = none → at_ fun x => { x with
        outstanding := some ⟨0, false⟩
        places := x.places ++
          [⟨.plain, ⟨0x80, [statusCode (if running y then .badArg else .starting), byte k]⟩⟩] }))) ∧
  (∀ (p : Pkt) (mask : Nat) (s : State), Ready p 0 s →
    let y := heard p 0x04 s
    let m : BitVec 16 := BitVec.ofNat 16 mask &&& 0x077D
    exec (.subscribe p mask) s = .next (filled p 0x04 .ok (be2 m.toNat) (onLinkAt p.link (fun x => { x with
      seat := { x.seat with mask := m }, flags := x.flags &&& (m ||| 0x0082) }) y))) ∧
  ([NoticeKind.scene, .switchOutcome, .tuner, .beat, .cue, .satellite, .store, .area, .stash, .clock, .panic].map noticeOrder =
    List.range 11) ∧
  (∀ (l : Fin 4) (s : State),
    let sends := fun (k : NoticeKind) (v : List Byte) => noticePacket k l s = ⟨byte (0xC0 + noticeOrder k), v⟩
    let b := s.scene.buffer
    let k := s.clk
    let request := fun (q : Option SwRequest) => (match q with
      | none => [0xFF, 0xFF, 0xFF]
      | some q => (match q.target with
          | .preset n j => [byte n, byte j]
          | .stash e => [optByte e.preset, byte e.scene]
          | .rebuild => [optByte b.preset, byte b.scene]) ++ (match q.origin with
          | .link j => [byte j.val]
          | .cue _ => [4]))
    let fired := ((List.range k.cues.length).filter fun j => match k.cues[j]?, k.lastFired with
      | some q, some w => q.bar = w.1 ∧ q.beat = w.2
      | _, _ => False).take 4
    let upload := (s.area.uploads.getD l.val ⟨none, .none⟩)
    let ending := byte (lastEndCode upload.lastEnd)
    let h := s.tone.holders
    sends .scene ([optByte b.preset, byte b.scene] ++ be4 b.seq.toNat ++ [flagByte b.dirty, byte (engineCode (engine s))] ++
      request (s.sw.inflight.map (·.req)) ++ request s.sw.pending) ∧
    (∀ o, s.sw.outcomes[l.val]? = some o →
      sends .switchOutcome [optByte o.preset, optByte o.scene, outcomeCode o.outcome]) ∧
    (let head := [byte (tunerModeCode s.tuner.mode), byte (detCode s.tuner.state)]
     (s.tuner.reading = none → sends .tuner (head ++ [0xFF, 0, 0, 0xFF])) ∧
     ∀ r, s.tuner.reading = some r → sends .tuner (head ++ [byte r.note.toNat] ++ be2i r.dev ++ [optByte r.str])) ∧
    sends .beat ([byte (k.tempo / 256), byte k.tempo, byte (tempoSourceCode k.source), byte k.beatCount] ++ transportBytes k) ∧
    sends .cue (transportBytes k ++ [byte fired.length] ++ fired.flatMap fun j => (match k.cues[j]? with
      | none => []
      | some q => [byte j, byte (q.bar / 256), byte q.bar, byte q.beat, (match q.action with
          | .switch _ _ _ _ => 0
          | .tempo _ => 1
          | .tuner _ => 2
          | .satellite _ _ _ => 3
          | .stop => 4), outcomeCode q.outcome])) ∧
    sends .satellite ([flagByte s.sat.holdAuto, flagByte s.sat.refresh] ++ s.sat.sats.flatMap fun x =>
      [byte (satStateCode x.state), flagByte x.hidden, flagByte x.latch.isSome, byte (x.latch.getD 0), x.last.getD 0xFF,
        byte (x.marks.filter fun a => decide (a ≠ .absent)).length]) ∧
    (s.store.last = none → sends .store ([0xFF, 0xFF, 0xFF] ++ storeState s.store)) ∧
    (∀ o n, s.store.last = some (o, n) → sends .store ([(match o with
      | .presetStore => 0
      | .presetErase => 1
      | .imageStore => 2
      | .setupStore => 3), optByte n, 0] ++ storeState s.store)) ∧
    (upload.area = none → sends .area [0xFF, 0, 0, 0xFF, ending]) ∧
    (∀ a j n m v t, upload.area = some a → s.area.areas[a]? = some (.loading j n m v t) →
      sends .area [byte a, byte (m / 256), byte m, flagByte v, ending]) ∧
    sends .stash ([s.scene.drops, optByte s.scene.lastDropped, byte s.scene.stash.length] ++
      s.scene.stash.flatMap fun e => [optByte e.preset] ++ be4 e.seq.toNat ++ nameBytes 16 e.record.name) ∧
    sends .clock [byte (tempoSourceCode k.source), flagByte k.lock, byte (k.tempo / 256), byte k.tempo,
      byte (clockCode s.mon.state)] ∧
    (∃ v, sends .panic [flagByte s.link.panic, optByte (s.link.panicLink.map (·.val)), v] ∧
      v = BitVec.ofNat 4 0 ++ BitVec.ofBool h.clock ++ BitVec.ofBool h.startup ++ BitVec.ofBool h.panic ++
        BitVec.ofBool h.tuner))

/-- R55, R68, R85, R116, R130, R150, R151, R169, R179 and R194: the status requests answer OK with the state as it stands and
change nothing but the link's reply place (SWITCH_STATUS takes one free value, log 6). IDENTIFY and GET_STATUS are answered
before RUNNING too. CUE_LIST lists at most 16 cues and refuses BAD_ARG a start at or beyond the number of cues where the list is
not empty; SAT_STATUS refuses a satellite above 7. Beside them the codes of 12.3 and 12.4 and the contents of 12.7, byte by byte:
the store state, the transport's countdown (from 65535 beats on it is free, log 21), and each status request's fields at their
offsets. The model's choices: the bytes beside FFh for no switch, no request and no guard (log 29), a stash copy's and a REBUILD's
target (log 22), the lanes assigned outside FADING_OUT (log 52), satellite and register of no transaction (log 54), a granted pass-through
that no longer counts in the queue length (log 63). -/
def Obligations.StatusRequestsReportTheState : Prop :=
  (∀ (p : Pkt) (s : State), (Ready p 0 s ∨ (live s = true ∧ p.form = .exact ∧ (prelude s).link.links.length = 4 ∧
      (linkOf (prelude s) p.link).rx.st ≠ .waitHigh ∧ (linkOf (prelude s) p.link).outstanding = none ∧
      running (prelude s) = false)) →
    (let y := heard p 0x01 s
     exec (.identify p) s = .next (filled p 0x01 .ok
      [0x00, 0x40, 0x01, byte p.link.val, byte (linkOf y p.link).seat.tier, byte (linkOf y p.link).seat.precedence,
        byte (startCode y.startup.phase)] y)) ∧
    (let y := heard p 0x02 s
     exec (.getStatus p) s = .next (filled p 0x02 .ok
      ([byte (startCode y.startup.phase), flagByte y.startup.factory, byte (clockCode y.mon.state), flagByte y.link.panic,
        byte (holderBits y.tone.holders), byte (engineCode (engine y)), optByte y.scene.buffer.preset,
        byte y.scene.buffer.scene, flagByte y.scene.buffer.dirty, byte (tunerModeCode y.tuner.mode),
        byte (transportCode y.clk.transport), byte (y.clk.bar / 256), byte y.clk.bar, byte y.clk.beat,
        byte (y.clk.tempo / 256), byte y.clk.tempo, byte (tempoSourceCode y.clk.source)] ++
        (storeState y.store).take 1) y))) ∧
  (∀ (p : Pkt) (s : State), Ready p 0 s →
    let re := fun (k : Nat) (c : State → List Byte) => Host.Outcome.next (filled p k .ok (c (heard p k s)) (heard p k s))
    exec (.linkStatus p) s = re 0x03 linkStatusContent ∧
    exec (.areaStatus p) s = re 0x05 areaStatusContent ∧
    exec (.mapStatus p) s = re 0x06 mapStatusContent ∧
    exec (.bufferStatus p) s = re 0x07 bufferStatusContent ∧
    exec (.tunerStatus p) s = re 0x09 tunerStatusContent ∧
    exec (.showStatus p) s = re 0x0A showStatusContent ∧
    exec (.switchStatus p) s = .next { filled p 0x08 .ok (switchStatusContent p.link (heard p 0x08 s)) (heard p 0x08 s) with
      freeCount := (heard p 0x08 s).freeCount + 1 } ∧
    (∀ n, (heard p 0x0B s).clk.cues = [] ∨ n < (heard p 0x0B s).clk.cues.length →
      exec (.cueList p n) s = re 0x0B (cueListContent n)) ∧
    (∀ n, (heard p 0x0B s).clk.cues ≠ [] → (heard p 0x0B s).clk.cues.length ≤ n →
      exec (.cueList p n) s = .next (filled p 0x0B .badArg [] (heard p 0x0B s))) ∧
    (∀ n, n < 8 → exec (.satStatus p n) s = re 0x0C (satStatusContent (some n))) ∧
    exec (.satStatus p 255) s = re 0x0C (satStatusContent none) ∧
    (∀ n, 8 ≤ n → n ≠ 255 → exec (.satStatus p n) s = .next (filled p 0x0C .badArg [] (heard p 0x0C s)))) ∧
  -- codes
  ([Status.ok, .clamped, .busy, .starting, .denied, .badArg, .stale, .detached, .empty, .badRecord, .storeBusy, .outranked,
      .guarded, .noArea, .overBudget, .full, .crowded, .occupied, .noAnswer, .lastSetup].map statusCode =
    [0x00, 0x01, 0x10, 0x11, 0x12, 0x13, 0x14, 0x15, 0x20, 0x21, 0x22, 0x30, 0x31, 0x32, 0x33, 0x34, 0x35, 0x36, 0x40, 0x42]) ∧
  ([SwOutcome.done, .superseded, .taken, .none, .guarded, .outranked, .badArg, .empty, .badRecord, .noArea].map outcomeCode =
    [0x00, 0xE0, 0xE1, 0xFF, 0x31, 0x30, 0x13, 0x20, 0x21, 0x32]) ∧
  [none, some Phase.loading, some .fadingOut, some .fadingIn, some .ramping].map engineCode = [0, 1, 2, 3, 4] ∧
  [Transport.stopped, .armed, .running, .held].map transportCode = [0, 1, 2, 3] ∧
  [TempoSource.internal, .tap, .external].map tempoSourceCode = [0, 1, 2] ∧
  [TunerMode.off, .watch, .mute].map tunerModeCode = [0, 1, 2] ∧
  [DetState.silent, .seeking, .locked].map detCode = [0, 1, 2] ∧
  [SatState.unknown, .absent, .restoring, .behind, .inStep].map satStateCode = [0, 1, 2, 3, 4] ∧
  [LastEnd.none, .saved, .unjoined, .lapsed, .broken].map lastEndCode = [0, 1, 2, 3, 4] ∧
  [ClockState.present, .lost, .returning].map clockCode = [0, 1, 2] ∧
  [StartPhase.booting, .images, .firstLoad, .running].map startCode = [0, 1, 2, 3] ∧
  (∀ a b c d : Bool, BitVec.ofNat 4 (holderBits ⟨a, b, c, d⟩) =
    BitVec.ofBool d ++ BitVec.ofBool c ++ BitVec.ofBool b ++ BitVec.ofBool a) ∧
  -- numbers of two and four bytes
  (∀ n : Nat, be2 n = [byte (n / 256), byte n] ∧ be4 n = [byte (n / 16777216), byte (n / 65536), byte (n / 256), byte n]) ∧
  (∀ x : Int, be2i x = be2 (x % 65536).toNat ∧ be4i x = be4 (x % 4294967296).toNat) ∧
  -- the store
  (∀ c : Store,
    (c.op = none → storeState c = [0, 0xFF]) ∧
    (∀ l n r q, c.op = some (.presetStore l n r q) → storeState c = [1, byte n]) ∧
    (∀ l n, c.op = some (.presetErase l n) → storeState c = [2, byte n]) ∧
    (∀ l k a t w, c.op = some (.imageStore l k a t w) → storeState c = [3, byte k]) ∧
    (∀ l v, c.op = some (.setupStore l v) → storeState c = [4, 0xFF]) ∧
    (∀ who n, c.op = some (.presetRead who n) → storeState c = [5, byte n]) ∧
    (∀ w, c.op = some (.startRead w) → (storeState c).head? = some 6)) ∧
  -- the transport
  (∀ c : Show,
    let after := fun (q : Cue) => q.fired = false ∧ (c.bar < q.bar ∨ (c.bar = q.bar ∧ (c.beat < q.beat ∨
      ((c.transport = .stopped ∨ c.transport = .armed) ∧ c.beat = q.beat))))
    let shows := fun (v : List Byte) =>
      transportBytes c = [byte (transportCode c.transport), byte (c.bar / 256), byte c.bar, byte c.beat] ++ v
    ((∀ q ∈ c.cues, ¬ after q) → shows [0xFF, 0xFF]) ∧
    (∀ pre q post, c.cues = pre ++ q :: post → (∀ x ∈ pre, ¬ after x) → after q →
      let n := (((q.bar : Int) - c.bar) * c.bpb + ((q.beat : Int) - c.beat)).toNat
      n < 65535 → shows [byte (n / 256), byte n])) ∧
  -- LINK_STATUS
  (∀ s : State, s.link.links.length = 4 → s.link.access.length = 21 →
    let out := linkStatusContent s
    out.length = 57 ∧
    (∀ l x, s.link.links[l]? = some x →
      (out.drop (6 * l)).take 6 = [byte x.seat.tier, byte x.seat.precedence,
        (match x.seat.rate with | .k250 => 0 | .m1 => 1 | .m3 => 2), flagByte x.seat.quiet,
        byte (x.seat.mask.toNat / 256), byte x.seat.mask.toNat] ∧
      (out.drop (45 + 3 * l)).take 3 = [
        (match x.outstanding with | none => 0 | some o => if o.orphaned then 2 else 1),
        byte (x.flags.toNat / 256), byte x.flags.toNat]) ∧
    (∀ (k t : Nat), s.link.access[k]? = some t → out[24 + k]? = some (byte t))) ∧
  -- AREA_STATUS
  (∀ s : State, s.area.areas.length = 32 → s.area.table.length = 16 → s.area.failed.length = 16 →
    let out := areaStatusContent s
    let tapsOf := fun (n : Nat) (b : Byte) => (n = 256 ∧ b = 0) ∨ (n = 512 ∧ b = 1) ∨ (n = 1024 ∧ b = 2)
    out.length = 242 ∧
    (∀ a, let f := (out.drop (6 * a)).take 6
      (s.area.areas[a]? = some .free → f = [0, 0xFF, 0xFF, 0xFF, 0, 0]) ∧
      (∀ p r h, s.area.areas[a]? = some (.line (.live p) r h) → f = [1, byte p, flagByte r, 0xFF, 0, 0]) ∧
      (∀ p r h, s.area.areas[a]? = some (.line (.incoming p) r h) → f = [1, byte (0x40 + p), flagByte r, 0xFF, 0, 0]) ∧
      (∀ l r h, s.area.areas[a]? = some (.line (.lane l) r h) → f = [1, byte (0x80 + l), flagByte r, 0xFF, 0, 0]) ∧
      (∀ k n m t, s.area.areas[a]? = some (.image k n m) → tapsOf n t →
        f = [2, optByte k, 0xFF, t, byte (m / 256), byte m]) ∧
      (∀ l n m v b t, s.area.areas[a]? = some (.loading l n m v b) → tapsOf n t →
        f = [3, byte l.val, flagByte v, t, byte (m / 256), byte m])) ∧
    (∀ k b, s.area.failed[k]? = some b → let f := (out.drop (192 + 3 * k)).take 3
      (s.area.table[k]? = some none → f = [0xFF, 0xFF, flagByte b]) ∧
      (∀ a n t, s.area.table[k]? = some (some (a, n)) → tapsOf n t → f = [byte a, t, flagByte b])) ∧
    out.drop 240 = [flagByte s.sw.reservation, byte (freeAreas s.area)]) ∧
  -- MAP_STATUS
  (∀ s : State, s.scene.controls.length = 16 →
    let out := mapStatusContent s
    (∀ (k v : Nat), s.scene.controls[k]? = some v → (out.drop (2 * k)).take 2 = [byte (v / 256), byte v]) ∧
    (s.scene.buffer.record = none → out.drop 32 = [0]) ∧
    (∀ r, s.scene.buffer.record = some r → s.scene.driven.length = r.map.length →
      out.length = 33 + 6 * r.map.length ∧ out[32]? = some (byte r.map.length) ∧
      ∀ k e d, r.map[k]? = some e → s.scene.driven[k]? = some d →
        (out.drop (33 + 6 * k)).take 6 = byte e.source :: (match e.target with
          | .param p i => [0, byte p, byte i]
          | .bypass p => [1, byte p, 0]
          | .level => [2, 0, 0]
          | .sat i r => [3, byte i, byte r]) ++ be2i d)) ∧
  -- BUFFER_STATUS
  (∀ s : State,
    let out := bufferStatusContent s
    let b := s.scene.buffer
    let name := fun (v : List Byte) (n : List Nat) => v.length = 16 ∧
      ∀ k, k < 16 → v[k]? = some (match n[k]? with | some x => byte x | none => 0)
    let m := 24 + 2 * s.tone.chain.length
    out.length = m + 6 + 21 * s.scene.stash.length ∧
    out.take 7 = [optByte b.preset, byte b.scene] ++ be4 b.seq.toNat ++ [flagByte b.dirty] ∧
    name ((out.drop 7).take 16) ((b.record.map (·.name)).getD []) ∧
    out[23]? = some (byte s.tone.chain.length) ∧
    (∀ k p, s.tone.chain[k]? = some p → ∃ v, (out.drop (24 + 2 * k)).take 2 = [byte (slotTypeCode p.stype), v] ∧
      (p.inst = none → v = 0x80) ∧
      (∀ i, p.inst = some i →
        (∀ a x h g f, i.proc = .cab a x h g f → v = if x then 1 else 0) ∧
        (∀ w d n h y f x, i.proc = .delay w d n h y f x → v = if x then 2 else 0) ∧
        ((∀ a x h g f, i.proc ≠ .cab a x h g f) → (∀ w d n h y f x, i.proc ≠ .delay w d n h y f x) → v = 0))) ∧
    (out.drop m).take 4 = flagByte s.scene.posMap.isSome :: storeState s.store ++ [byte s.scene.stash.length] ∧
    (∀ k e, s.scene.stash[k]? = some e → let v := (out.drop (m + 4 + 21 * k)).take 21
      v[0]? = some (optByte e.preset) ∧ name ((v.drop 1).take 16) e.record.name ∧ v.drop 17 = be4 e.seq.toNat) ∧
    out.drop (m + 4 + 21 * s.scene.stash.length) = [s.scene.drops, optByte s.scene.lastDropped]) ∧
  -- SWITCH_STATUS
  (∀ (l : Fin 4) (s : State),
    let out := switchStatusContent l s
    let b := s.scene.buffer
    let named := fun (q : SwRequest) (k n j : Byte) =>
      (∀ a i, q.target = .preset a i → k = 0 ∧ n = byte a ∧ j = byte i) ∧
      (∀ e, q.target = .stash e → k = 1 ∧ n = optByte e.preset ∧ j = byte e.scene) ∧
      (q.target = .rebuild → k = 2 ∧ n = optByte b.preset ∧ j = byte b.scene)
    let origin := fun (q : SwRequest) (o : Byte) =>
      (∀ k, q.origin = .link k → o = byte k.val) ∧ (∀ t, q.origin = .cue t → o = 4)
    out.length = 25 ∧ out[0]? = some (byte (engineCode (engine s))) ∧
    (s.sw.inflight = none → (out.drop 1).take 10 = [0xFF, 0xFF, 0xFF, 0xFF, 0xFF, 0xFF, 0, 0, 0, 0]) ∧
    (∀ f, s.sw.inflight = some f → ∃ k n j o lanes, (out.drop 1).take 10 =
        [match f.kind with | .preset => 0 | .scene => 1 | .rebuild => 2, k, n, j, o, byte f.req.precedence,
          byte ((if f.req.discard then 1 else 0) + (if f.req.exitTuner then 2 else 0) + (if f.req.reload then 4 else 0)),
          if f.phase = .fadingOut then byte ((if f.dropped then 0 else 1) + (if f.evicting = [] then 0 else 2)
            + (if f.join = .complete then 0 else 4)) else 0,
          lanes, byte f.deferred.length] ∧
      named f.req k n j ∧ origin f.req o ∧ ∀ i, i < 8 → lanes.getLsbD i = decide (i < 4 ∧ i ∈ f.assigned)) ∧
    (s.sw.pending = none → (out.drop 11).take 5 = [0xFF, 0xFF, 0xFF, 0xFF, 0xFF]) ∧
    (∀ q, s.sw.pending = some q → ∃ k n j o, (out.drop 11).take 5 = [k, n, j, o, byte q.precedence] ∧ named q k n j ∧
      origin q o) ∧
    (s.sw.guard = none → (out.drop 16).take 3 = [0xFF, 0, 0]) ∧
    (∀ p ms, s.sw.guard = some (p, ms) → ∃ n, n ≤ ms ∧ (out.drop 16).take 3 = [byte p, byte (n / 256), byte n]) ∧
    (out.drop 19).take 3 = flagByte s.sw.reservation :: be2i s.sw.level ∧
    (∀ o, s.sw.outcomes[l.val]? = some o → out.drop 22 = [optByte o.preset, optByte o.scene, outcomeCode o.outcome])) ∧
  -- TUNER_STATUS
  (∀ s : State,
    let t := s.tuner
    let head := [byte (tunerModeCode t.mode), flagByte t.sourceB, byte (t.reference / 256), byte t.reference,
      byte t.exponent, flagByte t.stringSet.isSome, optByte t.stringSet, byte (detCode t.state), byte t.ring.length]
    let last := flagByte s.tone.holders.tuner
    (t.reading = none → ∃ m, tunerStatusContent s = head ++ be4 m ++ [0xFF, 0, 0, 0xFF, 0, 0, 0, 0, last] ∧
      (t.ring = [] → m = 0) ∧ (t.ring ≠ [] → (sortNat t.ring)[(t.ring.length - 1) / 2]? = some m)) ∧
    (∀ r, t.reading = some r → ∃ m, tunerStatusContent s =
        head ++ be4 m ++ [byte r.note.toNat] ++ be2i r.dev ++ [optByte r.str] ++ be4i r.c ++ [last] ∧
      (t.ring = [] → m = 0) ∧ (t.ring ≠ [] → (sortNat t.ring)[(t.ring.length - 1) / 2]? = some m))) ∧
  -- SHOW_STATUS
  (∀ s : State, let k := s.clk
    showStatusContent s =
      [byte (k.tempo / 256), byte k.tempo, byte (tempoSourceCode k.source), flagByte k.lock] ++ be4 k.bc ++ be4i k.countdown ++
      [byte k.ppb, byte k.pulses.length, flagByte k.pulseTimer, byte k.bpb, byte (k.defTempo / 256), byte k.defTempo,
        byte k.taps.length, byte k.beatCount] ++ transportBytes k ++ [byte k.cues.length]) ∧
  -- CUE_LIST
  (∀ (s : State) (n : Nat),
    let out := cueListContent n s
    out.length = 2 + 12 * min 16 (s.clk.cues.length - n) ∧
    out.take 2 = [byte s.clk.cues.length, byte (min 16 (s.clk.cues.length - n))] ∧
    ∀ k q, k < 16 → s.clk.cues[n + k]? = some q → ∃ kind args,
      (out.drop (2 + 12 * k)).take 12 =
        [byte (n + k), byte (q.bar / 256), byte q.bar, byte q.beat, kind] ++ args ++ [flagByte q.fired, outcomeCode q.outcome] ∧
      (∀ a b x g, q.action = .switch a b x g → kind = 0 ∧ args = [byte a, byte b, byte x, byte (g / 256), byte g]) ∧
      (∀ t, q.action = .tempo t → kind = 1 ∧ args = [byte (t / 256), byte t, 0, 0, 0]) ∧
      (∀ w, q.action = .tuner w → kind = 2 ∧ args = [flagByte w, 0, 0, 0, 0]) ∧
      (∀ i r v, q.action = .satellite i r v → kind = 3 ∧ args = [byte i, byte r, byte v, 0, 0]) ∧
      (q.action = .stop → kind = 4 ∧ args = [0, 0, 0, 0, 0])) ∧
  -- SAT_STATUS
  (∀ (s : State) (m : Option Nat), s.sat.sats.length = 8 →
    let out := satStatusContent m s
    out.take 3 = [flagByte s.sat.holdAuto, flagByte s.sat.refresh, byte s.sat.queue.length] ∧
    (s.sat.inFlight = none → (out.drop 3).take 3 = [0xFF, 0xFF, 0xFF]) ∧
    (∀ t, s.sat.inFlight = some t → (out.drop 3).take 3 = [byte t.sat, byte t.reg,
      match t.cls with | .urgent => 0 | .pass => 1 | .routine => 2 | .poll => 3]) ∧
    (∀ i x, s.sat.sats[i]? = some x → (out.drop (6 + 7 * i)).take 7 =
      [byte (satStateCode x.state), flagByte x.hidden, flagByte x.latch.isSome, byte (x.latch.getD 0), x.last.getD 0xFF,
        byte (x.marks.filter fun a => decide (a ≠ .absent)).length, byte x.failures]) ∧
    (m = none → out.length = 62) ∧
    (∀ i x, m = some i → s.sat.sats[i]? = some x → out.drop 62 = x.desired.map byte ++
      x.marks.map (fun a => (match a with | .absent => 0 | .routine => 1 | .urgent => 2 : Byte)) ++ [flagByte x.owed]))

/-- R26, R27, R175 to R177, R180, R184 and R185: SEAT_SET keeps a SETUP seat and takes a seat with its rate and mask,
ACCESS_SET a class's tier where it is not fixed; PANIC sets its flag and holder, cuts the lanes, holds a RUNNING and stops an
ARMED show; UNPANIC with panic active ends it; SETUP_SET holds the master level, handed over 16 frames, and the start preset.
What is handed waits for the boundary, or is taken up at once in a clock loss (`handedOver`, R2 and R3): there the mute factor
and the master level land and the lanes are EMPTY. The model's choices: a quiet-absent value above 1 is refused and mask bits 11
to 15 are ignored (log 30), the panic holder's mark changes at the request (log 43), and a receiver that waits for the line to go
high after a break goes on waiting when its rate changes (log 55). A changed rate reaches the transmitter at the end of the
packet it is sending, or at once if it is idle; that of the link's own SEAT_SET, or another while the reply to its own waits (the
model's choice, log 65), reaches it after that reply. -/
def Obligations.SeatsAccessPanicAndSetupValues : Prop :=
  (∀ (p : Pkt) (s : State), Ready p 19 s →
    (∀ k raw, let y := heard p 0x36 s
      let l := p.link
      let seats := y.link.links.map (·.seat)
      let no := fun (st : Status) => exec (.seatSet p k raw) s = .next (filled p 0x36 st [] y)
      (3 < raw.tier ∨ 3 < raw.precedence ∨ 2 < raw.rate ∨ 1 < raw.quiet ∨ 3 < k → no .badArg) ∧
      (∀ (j : Fin 4) (rate : Rate), k = j.val → raw.tier ≤ 3 → raw.precedence ≤ 3 → raw.quiet ≤ 1 →
        rateOf raw.rate = some rate →
        let seat : Seat :=
          ⟨raw.tier, raw.precedence, rate, raw.quiet == 1, BitVec.ofNat 16 raw.mask &&& 0x077D⟩
        let held := fun (x : Link) => k = l.val ∨ ∃ q ∈ x.places, q.tag = .ownSeat
        ((∀ x ∈ seats.set k seat, x.tier ≠ 3) → no .lastSetup) ∧
        ((∃ x ∈ seats.set k seat, x.tier = 3) → exec (.seatSet p k raw) s = .next (onLinkAt l (fun x => { x with
            places := x.places ++ [⟨if k = l.val then .ownSeat else .plain, ⟨0xB6, statusCode .ok :: byte k ::
              [byte seat.tier, byte seat.precedence, byte (rateCode rate), flagByte seat.quiet] ++ be2 seat.mask.toNat⟩⟩] })
          (onLinkAt j (fun x => { x with
            seat := seat
            rx := if rate = x.seat.rate ∨ x.rx.st = .waitHigh then x.rx else ⟨.hunt, 0, []⟩
            txRate := if x.tx.isNone ∧ ¬ held x then rate else x.txRate
            nextRate := if held x then x.nextRate else rate
            flags := x.flags &&& (seat.mask ||| 0x0082) }) y))))) ∧
    (∀ c t, let y := heard p 0x37 s
      (20 < c ∨ 3 < t ∨ c = 0 ∨ c = 19 ∨ c = 20 → exec (.accessSet p c t) s = .next (filled p 0x37 .badArg [] y)) ∧
      (1 ≤ c → c ≤ 18 → t ≤ 3 → exec (.accessSet p c t) s = .next (filled p 0x37 .ok ((y.link.access.set c t).map byte)
        { y with link := { y.link with access := y.link.access.set c t } })))) ∧
  (∀ (p : Pkt) (s : State), Ready p 20 s →
    let y := heard p 0x38 s
    let flagged : State := { y with
      link := { y.link with panic := true, panicLink := some p.link }
      tone := { y.tone with holders := { y.tone.holders with panic := true } } }
    let z := handedOver .cutAll (if y.tone.holders.panic then flagged else handedOver .muteFall flagged)
    exec (.panic p) s = .next (filled p 0x38 .ok [] (raise .panic { z with
      clk := { y.clk with transport := (match y.clk.transport with
        | .running => .held
        | .armed => .stopped
        | t => t) } })) ∧
    (present (prelude s) = true → z = { flagged with tone := { flagged.tone with
      changes := y.tone.changes ++ if y.tone.holders.panic then [.cutAll] else [.muteFall, .cutAll] } }) ∧
    (present (prelude s) = false → y.tone.lanes.length = 4 →
      (∀ x ∈ z.tone.lanes, x.st = .empty) ∧ z.tone.changes = y.tone.changes ∧ z.tone.chain = y.tone.chain ∧
      (y.tone.holders.panic = true ∨ (y.tone.mute.cur = 0 ∧ y.tone.mute.target = 0) → z.tone.mute = y.tone.mute) ∧
      (y.tone.holders.panic = false → y.tone.mute.cur ≠ 0 ∨ y.tone.mute.target ≠ 0 → z.tone.mute = .rest 0))) ∧
  (∀ (p : Pkt) (s : State), Ready p 14 s →
    let y := heard p 0x2D s
    let ended := fun (h : Holders) => ({ y with
      link := { y.link with panic := false, panicLink := some p.link }, tone := { y.tone with holders := h } } : State)
    let ends := fun (z : State) => exec (.unpanic p) s = .next (filled p 0x2D .ok [0] (raise .panic z))
    (y.link.panic = false → exec (.unpanic p) s = .next (filled p 0x2D .ok [0] y)) ∧
    (y.link.panic = true → y.tone.holders = ⟨false, true, false, false⟩ →
      ends (handedOver (.muteRise 16) (ended ⟨false, false, false, false⟩))) ∧
    (∀ a b c, y.link.panic = true → y.tone.holders = ⟨a, true, b, c⟩ → (a || b || c) = true →
      ends (ended ⟨a, false, b, c⟩))) ∧
  (∀ (p : Pkt) (s : State), Ready p 17 s →
    let y := heard p 0x34 s
    (∀ v, exec (.setupSetMasterLevel p v) s = .next (filled p 0x34 (if 32768 < v then .clamped else .ok) []
      (handedOver (.gainTarget .master (min 32768 v : Nat) 16)
        { y with link := { y.link with masterLevel := min 32768 v } }))) ∧
    (∀ n k, n < 128 → k < 4 → exec (.setupSetStartPreset p n k) s = .next (filled p 0x34 .ok []
      { y with link := { y.link with startPreset := n, startScene := k } })) ∧
    (∀ n k, 128 ≤ n ∨ 4 ≤ k → exec (.setupSetStartPreset p n k) s = .next (filled p 0x34 .badArg [] y)))

/-! ## Controls and edits (chapters 4 and 5) -/

/-- R57, R58, R60, R61, R80, R81 and R181: a curve is linear between nine points, floored and clamped;
a CONTROL clamps its value, drops an unknown source or the value held, and otherwise holds it and evaluates the
entries on its source, the single one handed where its value changes; it and TAP are discarded before RUNNING, below the tier
and malformed. SET_PARAM stores base or override, clamped, and hands what changes; the image of a CAB always. What is handed
waits for the boundary or is taken up at once in a clock loss (`handed`). The model's choice: a bypass value reads as on at 1 and
from 16384 (log 14). -/
def Obligations.ControlsAndParameterValues : Prop :=
  (∀ (pts : List Int) (v : Nat) (lo hi : Int), pts.length = 9 → v ≤ 1023 →
    let a := pts.getD (v / 128) 0
    let b := pts.getD (v / 128 + 1) 0
    let x := a + (b - a) * ((v % 128 : Nat) : Int) / 128
    evalCurve pts v (lo, hi) = (if x < lo then lo else if hi < x then hi else x)) ∧
  (∀ (p : Pkt) (src v : Nat) (s : State), live s = true → (linkOf (prelude s) p.link).rx.st ≠ .waitHigh →
    ¬ Taken p s → exec (.control p src v) s = .next (passed p s) ∧ exec (.tap p) s = .next (passed p s)) ∧
  (∀ (p : Pkt) (src v : Nat) (s : State), Taken p s →
    let y := passed p s
    let w := if 1023 < v then 1023 else v
    let held : State := { y with scene := { y.scene with controls := y.scene.controls.set src w } }
    (15 < src ∨ y.scene.controls.getD src 0 = w → exec (.control p src v) s = .next y) ∧
    (∀ r, src ≤ 15 → y.scene.controls.getD src 0 ≠ w → y.scene.buffer.record = some r → y.scene.controls.length = 16 →
      y.scene.driven.length = r.map.length →
      (∃ z, exec (.control p src v) s = .next z ∧
        z = { held with
          scene := { held.scene with driven := z.scene.driven }, tone := z.tone, area := { y.area with areas := z.area.areas }
          clk := { y.clk with handed := z.clk.handed }, sw := { y.sw with level := z.sw.level }
          sat := { y.sat with sats := z.sat.sats }, link := z.link } ∧
        (present (prelude s) = true → z.area = y.area ∧ z.clk = y.clk ∧
          z.tone = { y.tone with changes := z.tone.changes }) ∧
        (present (prelude s) = false → z.tone = { y.tone with
          chain := z.tone.chain, chainGain := z.tone.chainGain, chainRested := z.tone.chainRested }) ∧
        z.scene.driven = (r.map.zip y.scene.driven).map fun e =>
          if e.1.source = src then
            evalCurve e.1.points w ((targetRange r.chain e.1.target).getD (0, 0))
          else e.2) ∧
      ((∀ e ∈ r.map, e.source ≠ src) → exec (.control p src v) s = .next held) ∧
      (∀ k e, r.map[k]? = some e → e.source = src → (∀ j e', r.map[j]? = some e' → e'.source = src → j = k) →
        let x := evalCurve e.points w ((targetRange r.chain e.target).getD (0, 0))
        let z : State := { held with scene := { held.scene with driven := y.scene.driven.set k x } }
        exec (.control p src v) s = .next
          (if drivenValue e.target x = drivenValue e.target (y.scene.driven.getD k 0) then z
           else handed e.target (drivenValue e.target x) z)))) ∧
  (∀ (p : Pkt) (expected kind pos i v : Nat) (s : State),
    (Ready p 8 s → presetOf expected ≠ (prelude s).scene.buffer.preset →
      exec (.setParam p expected kind pos i v) s = .next (filled p 0x17 .stale [] (heard p 0x17 s))) ∧
    (∀ r, EditReady p 8 expected r s →
      let y := heard p 0x17 s
      let cur := y.scene.buffer.scene
      let no := fun (st : Status) => exec (.setParam p expected kind pos i v) s = .next (filled p 0x17 st [] y)
      let base := fun (f : SlotRec → SlotRec) => edited { r with chain := modAt r.chain pos f } y
      let ovr := fun (t : Target) (w : Int) => edited { r with scenes := modAt r.scenes cur fun c => { c with
        overrides := c.overrides.map fun o => if o.target = t then { o with value := w } else o } } y
      (1 < kind ∨ (kind = 0 ∧ targetRange r.chain (.param pos i) = none) ∨ (kind = 1 ∧ (r.chain.length ≤ pos ∨ 1 < v)) →
        no .badArg) ∧
      (∀ g, kind = 0 → targetRange r.chain (.param pos i) = some g → detachedAt y pos = true → no .detached) ∧
      (kind = 1 → pos < r.chain.length → v ≤ 1 → detachedAt y pos = true → no .detached) ∧
      (∀ lo hi x old, kind = 0 → targetRange r.chain (.param pos i) = some (lo, hi) → detachedAt y pos = false →
        r.chain[pos]? = some x → x.params[i]? = some old →
        let t : Target := .param pos i
        let raw : Int := if lo < 0 then signed16 v else v
        let w := if raw < lo then lo else if hi < raw then hi else raw
        let done := fun (z : State) => exec (.setParam p expected kind pos i v) s = .next (filled p 0x17 (okOr (decide (w ≠ raw))) [] z)
        let stored := base fun q => { q with params := q.params.set i w }
        (isOverridden y t = false → isDriven y t = false →
          done (if old = w ∧ ¬ (x.stype = .cab ∧ i = 0) then stored else handed t w stored)) ∧
        (isOverridden y t = false → isDriven y t = true → done stored) ∧
        (∀ o, overrideOf (sceneOf r cur) t = some o → isDriven y t = false →
          done (if o = w ∧ ¬ (x.stype = .cab ∧ i = 0) then ovr t w else handed t w (ovr t w))) ∧
        (∀ o, overrideOf (sceneOf r cur) t = some o → isDriven y t = true → done (ovr t w))) ∧
      (∀ x, kind = 1 → v ≤ 1 → detachedAt y pos = false → r.chain[pos]? = some x →
        let t : Target := .bypass pos
        let done := fun (z : State) => exec (.setParam p expected kind pos i v) s = .next (filled p 0x17 .ok [] z)
        let stored := base fun q => { q with bypass := v == 1 }
        (isOverridden y t = false → isDriven y t = false →
          done (if x.bypass = (v == 1) then stored else handed t v stored)) ∧
        (isOverridden y t = false → isDriven y t = true → done stored) ∧
        (∀ o, overrideOf (sceneOf r cur) t = some o →
          done (if isDriven y t = true ∨ overrideValue t o = v then ovr t v else handed t v (ovr t v))))))

/-- R80 and R82: the seven operations of SCENE_EDIT, with STALE, BAD_ARG, FULL, DETACHED and CLAMPED. Each taken one is an
edit; an operation on the current scene hands the effective value it changes (`handed`: at the boundary, or at once in a clock
loss). REMOVE keeps the current scene current. The model's choices: how a bypass override reads as on (log 14), ADD answering
FULL before BAD_ARG and BAD_ARG for a scene that is not there (log 32), BAD_ARG for a name with bytes after its first 00h
(log 37). -/
def Obligations.SceneEditsChangeOneScene : Prop :=
  ∀ (p : Pkt) (expected k : Nat) (s : State),
    let y := heard p 0x18 s
    let cur := y.scene.buffer.scene
    (Ready p 8 s → presetOf expected ≠ (prelude s).scene.buffer.preset →
      ∀ raw v name, ∀ c ∈ [Instr.sceneEditSetOverride p expected k raw v, .sceneEditRemoveOverride p expected k raw,
          .sceneEditSetLevel p expected k v, .sceneEditSetRamp p expected k v, .sceneEditSetName p expected k name,
          .sceneEditAdd p expected k, .sceneEditRemove p expected k],
        exec c s = .next (filled p 0x18 .stale [] y)) ∧
    (∀ r, EditReady p 8 expected r s →
      let scene := fun (f : Scene → Scene) => edited { r with scenes := modAt r.scenes k f } y
      let re := fun (c : Instr) (st : Status) (z : State) => exec c s = .next (filled p 0x18 st [] z)
      let handedHere := fun (t : Target) (before after : Option Int) (z : State) =>
        if k = cur ∧ isDriven y t = false then handedNew t before after z else z
      (r.scenes.length ≤ k → ∀ raw v name, ∀ c ∈ [Instr.sceneEditSetOverride p expected k raw v,
          .sceneEditRemoveOverride p expected k raw, .sceneEditSetLevel p expected k v, .sceneEditSetRamp p expected k v,
          .sceneEditSetName p expected k name, .sceneEditRemove p expected k], re c .badArg y) ∧
      (k < r.scenes.length →
        (∀ v, let w := if 32768 < v then 32768 else v
          overrideOf (sceneOf r cur) .level = none →
          re (.sceneEditSetLevel p expected k v) (okOr (decide (w ≠ v)))
            (handedHere .level (some (sceneOf r k).level) (some w) (scene fun c => { c with level := w }))) ∧
        (∀ v, let w := if v < 1 then 1 else if 128 < v then 128 else v
          re (.sceneEditSetRamp p expected k v) (okOr (decide (w ≠ v))) (scene fun c => { c with ramp := w })) ∧
        (∀ name, nameLegal 8 name = true →
          re (.sceneEditSetName p expected k name) .ok (scene fun c => { c with name := nameOf name })) ∧
        (∀ name, nameLegal 8 name = false → re (.sceneEditSetName p expected k name) .badArg y) ∧
        (∀ raw v, (∀ t, targetOf raw = some t → t = .level ∨ targetRange r.chain t = none) →
          re (.sceneEditSetOverride p expected k raw v) .badArg y) ∧
        (∀ raw v t lo hi, targetOf raw = some t → t ≠ .level → targetRange r.chain t = some (lo, hi) →
          let w0 : Int := if lo < 0 then signed16 v else v
          let w := if w0 < lo then lo else if hi < w0 then hi else w0
          let st := okOr (decide (w ≠ w0))
          let old := overrideOf (sceneOf r k) t
          (targetDetached y t = true → re (.sceneEditSetOverride p expected k raw v) .detached y) ∧
          (targetDetached y t = false → old = none → 32 ≤ (sceneOf r k).overrides.length →
            re (.sceneEditSetOverride p expected k raw v) .full y) ∧
          (targetDetached y t = false → old = none → (sceneOf r k).overrides.length < 32 →
            re (.sceneEditSetOverride p expected k raw v) st (handedHere t (undriven r cur t) (some (overrideValue t w))
              (scene fun c => { c with overrides := c.overrides ++ [⟨t, w⟩] }))) ∧
          (∀ o, targetDetached y t = false → old = some o →
            re (.sceneEditSetOverride p expected k raw v) st (handedHere t (some (overrideValue t o)) (some (overrideValue t w))
              (scene fun c => { c with
                overrides := c.overrides.map fun o => if o.target = t then { o with value := w } else o })))) ∧
        (∀ raw, (∀ t, targetOf raw = some t → overrideOf (sceneOf r k) t = none) →
          re (.sceneEditRemoveOverride p expected k raw) .badArg y) ∧
        (∀ raw t o, targetOf raw = some t → overrideOf (sceneOf r k) t = some o →
          (targetDetached y t = true → re (.sceneEditRemoveOverride p expected k raw) .detached y) ∧
          (targetDetached y t = false → re (.sceneEditRemoveOverride p expected k raw) .ok
            (handedHere t (some (overrideValue t o)) (baseValue r cur t)
              (scene fun c => { c with overrides := c.overrides.filter (·.target != t) })))) ∧
        (r.scenes.length = 1 ∨ k = cur → re (.sceneEditRemove p expected k) .badArg y) ∧
        (1 < r.scenes.length → k ≠ cur →
          let z := edited { r with scenes := r.scenes.eraseIdx k } y
          re (.sceneEditRemove p expected k) .ok { z with scene := { z.scene with
            buffer := { z.scene.buffer with scene := if k < cur then cur - 1 else cur } } })) ∧
      (4 ≤ r.scenes.length → re (.sceneEditAdd p expected k) .full y) ∧
      (r.scenes.length < 4 → r.scenes.length ≤ k → re (.sceneEditAdd p expected k) .badArg y) ∧
      (∀ c, r.scenes.length < 4 → r.scenes[k]? = some c →
        re (.sceneEditAdd p expected k) .ok (edited { r with scenes := r.scenes ++ [c] } y)))

/-- R80 and R83: PRESET_EDIT sets name, fades and tempo; AMP_DATA sets a run of shaper points or one tone set of an AMP that is
not detached. Each taken one is an edit and changes nothing live. STALE, BAD_ARG, DETACHED and CLAMPED as the rules say; that
a name with bytes other than 00h after its first 00h (log 37) and a filter above 2 or a knob set above 4 (log 30) are refused
BAD_ARG is the model's choice. -/
def Obligations.PresetFieldsAndAmpData : Prop :=
  ∀ (p : Pkt) (expected v : Nat) (name : List Nat) (pos start f g : Nat) (pts : List Int) (b0 b1 b2 a1 a2 : Int) (s : State),
    let nameC := Instr.presetEditName p expected name
    let out := Instr.presetEditFadeOut p expected v
    let in_ := Instr.presetEditFadeIn p expected v
    let tempo := Instr.presetEditTempo p expected v
    let run := Instr.ampDataShaperRun p expected pos start pts
    let tone := Instr.ampDataToneSet p expected pos f g b0 b1 b2 a1 a2
    (Ready p 8 s → presetOf expected ≠ (prelude s).scene.buffer.preset →
      (∀ c ∈ [nameC, out, in_, tempo], exec c s = .next (filled p 0x19 .stale [] (heard p 0x19 s))) ∧
      (∀ c ∈ [run, tone], exec c s = .next (filled p 0x1A .stale [] (heard p 0x1A s)))) ∧
    (∀ r, EditReady p 8 expected r s →
      (let y := heard p 0x19 s
       let fade := if v < 1 then 1 else if 64 < v then 64 else v
       let bpm := if v < 300 then 300 else if 3000 < v then 3000 else v
       let re := fun (c : Instr) (st : Status) (z : State) => exec c s = .next (filled p 0x19 st [] z)
       (nameLegal 16 name = true → re nameC .ok (edited { r with name := nameOf name } y)) ∧
       (nameLegal 16 name = false → re nameC .badArg y) ∧
       re out (okOr (decide (fade ≠ v))) (edited { r with fadeOut := fade } y) ∧
       re in_ (okOr (decide (fade ≠ v))) (edited { r with fadeIn := fade } y) ∧
       (v = 0 → re tempo .ok (edited { r with tempo := none } y)) ∧
       (v ≠ 0 → re tempo (okOr (decide (bpm ≠ v))) (edited { r with tempo := some bpm } y))) ∧
      (let y := heard p 0x1A s
       let re := fun (c : Instr) (st : Status) (z : State) => exec c s = .next (filled p 0x1A st [] z)
       let amp := ∃ x, r.chain[pos]? = some x ∧ x.stype = .amp
       (¬ amp ∨ pts.length = 0 ∨ 33 < start + pts.length → re run .badArg y) ∧
       (amp → 1 ≤ pts.length → start + pts.length ≤ 33 → detachedAt y pos = true → re run .detached y) ∧
       (∀ x, r.chain[pos]? = some x → x.stype = .amp → 1 ≤ pts.length → start + pts.length ≤ 33 → x.table.length = 33 →
         (∀ q ∈ pts, -32768 ≤ q ∧ q ≤ 32767) → detachedAt y pos = false →
         ∃ t, re run .ok (edited { r with chain := r.chain.set pos { x with table := t } } y) ∧ t.length = 33 ∧
           ∀ n, t[n]? = if start ≤ n ∧ n < start + pts.length then pts[n - start]? else x.table[n]?) ∧
       (¬ amp ∨ 3 ≤ f ∨ 5 ≤ g → re tone .badArg y) ∧
       (amp → f < 3 → g < 5 → detachedAt y pos = true → re tone .detached y) ∧
       (∀ x, r.chain[pos]? = some x → x.stype = .amp → f < 3 → g < 5 → detachedAt y pos = false →
         (∀ q ∈ [b0, b1, b2, a1, a2], -2147483648 ≤ q ∧ q ≤ 2147483647) →
         let amp' : SlotRec := { x with sets := x.sets.set (5 * f + g) ⟨b0, b1, b2, a1, a2⟩ }
         re tone .ok (edited { r with chain := r.chain.set pos amp' } y))))

/-- R67, R80 and R84: SAT_IMAGE stores or clears an image value and hands a changed effective value; MAP_EDIT adds, replaces or
removes an entry with its driven record (the map's targets distinct), hands the values it changes (`handed`: at the boundary, or
at once in a clock loss), and refuses FULL, BAD_ARG, DETACHED and OCCUPIED in R67's order. The model's choices: REMOVE is not
refused DETACHED and hands only a changed value, REPLACE hands the old target's value first (log 33), and a new satellite's
image stands at the list's end (log 49). -/
def Obligations.ImagesAndMapEntriesAreEdited : Prop :=
  ∀ (p : Pkt) (expected : Nat) (s : State),
    (∀ i g v, Ready p 8 s → presetOf expected ≠ (prelude s).scene.buffer.preset →
      ∀ c ∈ [Instr.satImageSet p expected i g v, .satImageClear p expected i g],
        exec c s = .next (filled p 0x1B .stale [] (heard p 0x1B s))) ∧
    (∀ e n, Ready p 8 s → presetOf expected ≠ (prelude s).scene.buffer.preset →
      ∀ c ∈ [Instr.mapEditAdd p expected e, .mapEditReplace p expected n e, .mapEditRemove p expected n],
        exec c s = .next (filled p 0x1C .stale [] (heard p 0x1C s))) ∧
    (∀ r, EditReady p 8 expected r s →
      (∀ i g v, let y := heard p 0x1B s
        let w := if 255 < v then 255 else v
        let z := edited { r with images := setImage i g w r.images } y
        let re := fun (c : Instr) (st : Status) (z : State) => exec c s = .next (filled p 0x1B st [] z)
        (8 ≤ i ∨ 16 ≤ g → re (.satImageSet p expected i g v) .badArg y ∧ re (.satImageClear p expected i g) .badArg y) ∧
        (i < 8 → g < 16 →
          re (.satImageSet p expected i g v) (okOr (decide (w ≠ v)))
            (if isDriven y (.sat i g) = true ∨ isOverridden y (.sat i g) = true ∨ imageValue r i g = some (w : Int) then z
             else handed (.sat i g) w z) ∧
          (imageValue r i g = none → re (.satImageClear p expected i g) .badArg y) ∧
          (imageValue r i g ≠ none →
            re (.satImageClear p expected i g) .ok (edited { r with images := clearImage i g r.images } y)))) ∧
      (let y := heard p 0x1C s
       let cur := y.scene.buffer.scene
       let re := fun (c : Instr) (st : Status) (z : State) => exec c s = .next (filled p 0x1C st [] z)
       let map := fun (m : List MapEntry) (d : List Int) =>
         let z := edited { r with map := m } y
         ({ z with scene := { z.scene with driven := d } } : State)
       let driven := fun (t : Target) (n : Nat) => drivenValue t (y.scene.driven.getD n 0)
       let bad := fun (e : RawEntry) =>
         (∀ t, targetOf e.target = some t → targetRange r.chain t = none) ∨ 15 < e.source ∨ e.points.length ≠ 9
       (∀ e, 16 ≤ r.map.length → re (.mapEditAdd p expected e) .full y) ∧
       (∀ e, r.map.length < 16 → bad e → re (.mapEditAdd p expected e) .badArg y) ∧
       (∀ e n, r.map.length ≤ n ∨ bad e → re (.mapEditReplace p expected n e) .badArg y) ∧
       (∀ n, r.map.length ≤ n → re (.mapEditRemove p expected n) .badArg y) ∧
       (y.scene.driven.length = r.map.length → (r.map.map (·.target)).Nodup →
         (∀ n e, r.map[n]? = some e → re (.mapEditRemove p expected n) .ok
           (handedNew e.target (some (driven e.target n)) (undriven r cur e.target)
             (map (r.map.eraseIdx n) (y.scene.driven.eraseIdx n)))) ∧
         (∀ e t lo hi, targetOf e.target = some t → targetRange r.chain t = some (lo, hi) → e.source ≤ 15 →
           e.points.length = 9 →
           let raw := e.points.map fun v => if lo < 0 then signed16 v else (v : Int)
           let pts := raw.map fun v => if v < lo then lo else if hi < v then hi else v
           let x := evalCurve pts (y.scene.controls.getD e.source 0) (lo, hi)
           let st := okOr (decide (pts ≠ raw))
           let entry : MapEntry := ⟨e.source, t, pts⟩
           let add := re (.mapEditAdd p expected e)
           (r.map.length < 16 →
             (targetDetached y t = true → add .detached y) ∧
             (targetDetached y t = false → (∃ o ∈ r.map, o.target = t) → add .occupied y) ∧
             (targetDetached y t = false → (∀ o ∈ r.map, o.target ≠ t) →
               add st (handed t (drivenValue t x) (map (r.map ++ [entry]) (y.scene.driven ++ [x]))))) ∧
           (∀ n old, r.map[n]? = some old →
             let replace := re (.mapEditReplace p expected n e)
             let z := map (r.map.set n entry) (y.scene.driven.set n x)
             (targetDetached y t = true → replace .detached y) ∧
             (targetDetached y t = false → (∃ j o, j ≠ n ∧ r.map[j]? = some o ∧ o.target = t) → replace .occupied y) ∧
             (targetDetached y t = false → old.target = t →
               replace st (if drivenValue t x = driven t n then z else handed t (drivenValue t x) z)) ∧
             (targetDetached y t = false → old.target ≠ t → (∀ o ∈ r.map, o.target ≠ t) →
               replace st (handed t (drivenValue t x)
                 (handedNew old.target (some (driven old.target n)) (undriven r cur old.target) z))))))))

/-- R19, R80, R86 to R88 and R110, where no switch waits: CHAIN_EDIT refuses STALE, BUSY, GUARDED, BAD_ARG, OVER_BUDGET and
NO_AREA in R86's order. A taken one changes the chain, carries overrides, map entries and driven records along, sets the
position map, and starts a REBUILD of the link, which enters FADING_OUT at once with the buffer's fade-out: reservation, tails,
line join and areas as `fadesOut` says (R101 to R103, R112). The model's choices: the outcome names the buffer's preset and scene
(log 22), and SET_CLASS hands the clamped values that no entry drives first (log 34). -/
def Obligations.ChainEditsRebuildTheChain : Prop :=
  ∀ (p : Pkt) (expected a b : Nat) (stype lclass pol : Nat) (s : State),
    let y := heard p 0x1D s
    let ins := Instr.chainEditInsert p expected a stype lclass pol
    let rem := Instr.chainEditRemove p expected a
    let mov := Instr.chainEditMove p expected a b
    let ret := Instr.chainEditRetype p expected a stype lclass pol
    let cls := Instr.chainEditSetClass p expected a lclass
    let plc := Instr.chainEditSetPolicy p expected a pol
    let reb := Instr.chainEditRebuild p expected
    let all := [ins, rem, mov, ret, cls, plc, reb]
    let no := fun (c : Instr) (st : Status) => exec c s = .next (filled p 0x1D st [] y)
    let prec := (linkOf y p.link).seat.precedence
    (Ready p 9 s → presetOf expected ≠ (prelude s).scene.buffer.preset → ∀ c ∈ all, no c .stale) ∧
    (∀ r, EditReady p 9 expected r s →
      (y.sw.inflight ≠ none → ∀ c ∈ all, no c .busy) ∧
      (y.sw.inflight = none →
        (∀ g ms, y.sw.guard = some (g, ms) → prec < g → ∀ c ∈ all, no c .guarded) ∧
        (y.sw.pending = none → (∀ g ms, y.sw.guard = some (g, ms) → g ≤ prec) →
          y.scene.driven.length = r.map.length →
          let n := r.chain.length
          let d := y.scene.driven
          let same := (List.range n).map some
          let keep := fun (f : Target → Option Target) => ((r.map.zip d).filter fun x => (f x.1.target).isSome).map (·.2)
          let becomes := fun (c : Instr) (r' : Record) (d' : List Int) (m : List (Option Nat)) (st : Status)
              (hands : State → State) =>
            let need := chainNeed r'.chain
            let images := heldImages y.area
            let lawful := 1 ≤ r'.chain.length ∧ r'.chain.length ≤ 12 ∧
              (∀ x ∈ r'.chain, x.policy = .keep → x.stype = .delay ∨ x.stype = .reverb) ∧
              (r'.chain.filter (·.stype == .loop)).length ≤ 1
            (¬ lawful → no c .badArg) ∧
            (lawful → Config.budget < chainCost r'.chain → no c .overBudget) ∧
            (lawful → chainCost r'.chain ≤ Config.budget → 32 - images < need → no c .noArea) ∧
            (lawful → chainCost r'.chain ≤ Config.budget → need ≤ 32 - images →
              exec c s = .next (filled p 0x1D st [] (fadesOut
                ⟨⟨.rebuild, false, false, false, .link p.link, prec, 0⟩, .rebuild, .loading, none, [], [], [], .waiting, [], false⟩
                r'.chain r'.fadeOut (hands { edited r' y with
                  scene := { (edited r' y).scene with driven := d', posMap := some m }
                  sw := { y.sw with outcomes :=
                    y.sw.outcomes.set p.link.val ⟨y.scene.buffer.preset, some y.scene.buffer.scene, .taken⟩ } }))))
          let atPos := fun (f : Nat → Option Nat) (t : Target) =>
            (match t with
            | .param q i => (f q).map fun q' => Target.param q' i
            | .bypass q => (f q).map Target.bypass
            | .level => some t
            | .sat _ _ => some t)
          let valid := ∃ t k c, slotTypeOf stype = some t ∧ tailPolicyOf pol = some k ∧ lengthClassOf t lclass = some c
          (¬ valid ∨ n < a → no ins .badArg) ∧
          (¬ valid ∨ n ≤ a → no ret .badArg) ∧
          (n ≤ a → no rem .badArg ∧ no plc .badArg) ∧
          (n ≤ a ∨ n ≤ b → no mov .badArg) ∧
          (tailPolicyOf pol = none → no plc .badArg) ∧
          (∀ t k c, slotTypeOf stype = some t → tailPolicyOf pol = some k → lengthClassOf t lclass = some c →
            let new : SlotRec := defaultSlot t c k
            (a ≤ n → let f := atPos fun q => some (if q < a then q else q + 1)
              becomes ins (renumbered f (r.chain.take a ++ new :: r.chain.drop a) r) (keep f)
                ((List.range (n + 1)).map fun q => if q < a then some q else if q = a then none else some (q - 1)) .ok id) ∧
            (∀ old, r.chain[a]? = some old →
              let f := fun (t : Target) => (match t with
                | .param q _ => if q = a then none else some t
                | .bypass _ => some t
                | .level => some t
                | .sat _ _ => some t)
              becomes ret (renumbered f (r.chain.set a { new with bypass := old.bypass }) r) (keep f)
                ((List.range n).map fun q => if q = a then none else some q) .ok id)) ∧
          (a < n → let f := atPos fun q => if q = a then none else some (if q < a then q else q - 1)
            becomes rem (renumbered f (r.chain.take a ++ r.chain.drop (a + 1)) r) (keep f)
              ((List.range (n - 1)).map fun q => some (if q < a then q else q + 1)) .ok id) ∧
          (a < n → b < n →
            let f := atPos fun q =>
              some (if q = a then b else if a < q ∧ q ≤ b then q - 1 else if b ≤ q ∧ q < a then q + 1 else q)
            let src := fun (q : Nat) => if q = b then a else if a ≤ q ∧ q < b then q + 1 else if b < q ∧ q ≤ a then q - 1 else q
            becomes mov (renumbered f ((List.range n).filterMap fun q => r.chain[src q]?) r) (keep f)
              ((List.range n).map fun q => some (src q)) .ok id) ∧
          (∀ k old, tailPolicyOf pol = some k → r.chain[a]? = some old →
            becomes plc { r with chain := r.chain.set a { old with policy := k } } d same .ok id) ∧
          becomes reb r d same .ok id ∧
          ((∀ old, r.chain[a]? = some old → old.stype = .delay ∨ old.stype = .cab → lengthClassOf old.stype lclass = none) →
            no cls .badArg) ∧
          (∀ old c, r.chain[a]? = some old → old.stype = .delay ∨ old.stype = .cab → lengthClassOf old.stype lclass = some c →
            let x : SlotRec := { old with lclass := c }
            let params := old.params.mapIdx fun i v => inClass x i v
            let scenes := r.scenes.map fun k => { k with overrides := k.overrides.map (clampOverride a x) }
            let r' : Record := { r with chain := r.chain.set a { x with params := params }, scenes := scenes }
            becomes cls r' d same (okOr (decide (params ≠ old.params) || decide (scenes ≠ r.scenes))) fun z =>
              (List.range old.params.length).foldl (fun z i =>
                let t : Target := .param a i
                if isDriven y t = true then z
                else handedNew t (undriven r y.scene.buffer.scene t) (undriven r' y.scene.buffer.scene t) z) z))))
end

