-- ==== Sys2Proof/Laws/State.lean ====
section
/-! SUPPORT. What each update of one part of the state leaves in each field: one lemma per field per update, all true by
computation. -/

namespace Sys2Proof.Machine

variable (s : State)

/-! ## `onTone` -/

@[simp] theorem onTone_pending (f : Tone → Tone) : (onTone f s).pending = s.pending := rfl
@[simp] theorem onTone_startup (f : Tone → Tone) : (onTone f s).startup = s.startup := rfl
@[simp] theorem onTone_mon (f : Tone → Tone) : (onTone f s).mon = s.mon := rfl
@[simp] theorem onTone_tone (f : Tone → Tone) : (onTone f s).tone = f s.tone := rfl
@[simp] theorem onTone_area (f : Tone → Tone) : (onTone f s).area = s.area := rfl
@[simp] theorem onTone_store (f : Tone → Tone) : (onTone f s).store = s.store := rfl
@[simp] theorem onTone_scene (f : Tone → Tone) : (onTone f s).scene = s.scene := rfl
@[simp] theorem onTone_sw (f : Tone → Tone) : (onTone f s).sw = s.sw := rfl
@[simp] theorem onTone_tuner (f : Tone → Tone) : (onTone f s).tuner = s.tuner := rfl
@[simp] theorem onTone_clk (f : Tone → Tone) : (onTone f s).clk = s.clk := rfl
@[simp] theorem onTone_sat (f : Tone → Tone) : (onTone f s).sat = s.sat := rfl
@[simp] theorem onTone_link (f : Tone → Tone) : (onTone f s).link = s.link := rfl
@[simp] theorem onTone_freeCount (f : Tone → Tone) : (onTone f s).freeCount = s.freeCount := rfl
@[simp] theorem onTone_onTone (f g : Tone → Tone) : onTone f (onTone g s) = onTone (fun c => f (g c)) s := rfl
@[simp] theorem onTone_id : onTone (fun c => c) s = s := rfl
/-! ## `onArea` -/

@[simp] theorem onArea_pending (f : AreaMan → AreaMan) : (onArea f s).pending = s.pending := rfl
@[simp] theorem onArea_startup (f : AreaMan → AreaMan) : (onArea f s).startup = s.startup := rfl
@[simp] theorem onArea_mon (f : AreaMan → AreaMan) : (onArea f s).mon = s.mon := rfl
@[simp] theorem onArea_tone (f : AreaMan → AreaMan) : (onArea f s).tone = s.tone := rfl
@[simp] theorem onArea_area (f : AreaMan → AreaMan) : (onArea f s).area = f s.area := rfl
@[simp] theorem onArea_store (f : AreaMan → AreaMan) : (onArea f s).store = s.store := rfl
@[simp] theorem onArea_scene (f : AreaMan → AreaMan) : (onArea f s).scene = s.scene := rfl
@[simp] theorem onArea_sw (f : AreaMan → AreaMan) : (onArea f s).sw = s.sw := rfl
@[simp] theorem onArea_tuner (f : AreaMan → AreaMan) : (onArea f s).tuner = s.tuner := rfl
@[simp] theorem onArea_clk (f : AreaMan → AreaMan) : (onArea f s).clk = s.clk := rfl
@[simp] theorem onArea_sat (f : AreaMan → AreaMan) : (onArea f s).sat = s.sat := rfl
@[simp] theorem onArea_link (f : AreaMan → AreaMan) : (onArea f s).link = s.link := rfl
@[simp] theorem onArea_freeCount (f : AreaMan → AreaMan) : (onArea f s).freeCount = s.freeCount := rfl
@[simp] theorem onArea_onArea (f g : AreaMan → AreaMan) : onArea f (onArea g s) = onArea (fun c => f (g c)) s := rfl
@[simp] theorem onArea_id : onArea (fun c => c) s = s := rfl
/-! ## `onStore` -/

@[simp] theorem onStore_pending (f : Store → Store) : (onStore f s).pending = s.pending := rfl
@[simp] theorem onStore_startup (f : Store → Store) : (onStore f s).startup = s.startup := rfl
@[simp] theorem onStore_mon (f : Store → Store) : (onStore f s).mon = s.mon := rfl
@[simp] theorem onStore_tone (f : Store → Store) : (onStore f s).tone = s.tone := rfl
@[simp] theorem onStore_area (f : Store → Store) : (onStore f s).area = s.area := rfl
@[simp] theorem onStore_store (f : Store → Store) : (onStore f s).store = f s.store := rfl
@[simp] theorem onStore_scene (f : Store → Store) : (onStore f s).scene = s.scene := rfl
@[simp] theorem onStore_sw (f : Store → Store) : (onStore f s).sw = s.sw := rfl
@[simp] theorem onStore_tuner (f : Store → Store) : (onStore f s).tuner = s.tuner := rfl
@[simp] theorem onStore_clk (f : Store → Store) : (onStore f s).clk = s.clk := rfl
@[simp] theorem onStore_sat (f : Store → Store) : (onStore f s).sat = s.sat := rfl
@[simp] theorem onStore_link (f : Store → Store) : (onStore f s).link = s.link := rfl
@[simp] theorem onStore_freeCount (f : Store → Store) : (onStore f s).freeCount = s.freeCount := rfl
@[simp] theorem onStore_onStore (f g : Store → Store) : onStore f (onStore g s) = onStore (fun c => f (g c)) s := rfl
@[simp] theorem onStore_id : onStore (fun c => c) s = s := rfl
/-! ## `onScene` -/

@[simp] theorem onScene_pending (f : SceneCtl → SceneCtl) : (onScene f s).pending = s.pending := rfl
@[simp] theorem onScene_startup (f : SceneCtl → SceneCtl) : (onScene f s).startup = s.startup := rfl
@[simp] theorem onScene_mon (f : SceneCtl → SceneCtl) : (onScene f s).mon = s.mon := rfl
@[simp] theorem onScene_tone (f : SceneCtl → SceneCtl) : (onScene f s).tone = s.tone := rfl
@[simp] theorem onScene_area (f : SceneCtl → SceneCtl) : (onScene f s).area = s.area := rfl
@[simp] theorem onScene_store (f : SceneCtl → SceneCtl) : (onScene f s).store = s.store := rfl
@[simp] theorem onScene_scene (f : SceneCtl → SceneCtl) : (onScene f s).scene = f s.scene := rfl
@[simp] theorem onScene_sw (f : SceneCtl → SceneCtl) : (onScene f s).sw = s.sw := rfl
@[simp] theorem onScene_tuner (f : SceneCtl → SceneCtl) : (onScene f s).tuner = s.tuner := rfl
@[simp] theorem onScene_clk (f : SceneCtl → SceneCtl) : (onScene f s).clk = s.clk := rfl
@[simp] theorem onScene_sat (f : SceneCtl → SceneCtl) : (onScene f s).sat = s.sat := rfl
@[simp] theorem onScene_link (f : SceneCtl → SceneCtl) : (onScene f s).link = s.link := rfl
@[simp] theorem onScene_freeCount (f : SceneCtl → SceneCtl) : (onScene f s).freeCount = s.freeCount := rfl
@[simp] theorem onScene_onScene (f g : SceneCtl → SceneCtl) : onScene f (onScene g s) = onScene (fun c => f (g c)) s := rfl
@[simp] theorem onScene_id : onScene (fun c => c) s = s := rfl
/-! ## `onSw` -/

@[simp] theorem onSw_pending (f : SwitchEng → SwitchEng) : (onSw f s).pending = s.pending := rfl
@[simp] theorem onSw_startup (f : SwitchEng → SwitchEng) : (onSw f s).startup = s.startup := rfl
@[simp] theorem onSw_mon (f : SwitchEng → SwitchEng) : (onSw f s).mon = s.mon := rfl
@[simp] theorem onSw_tone (f : SwitchEng → SwitchEng) : (onSw f s).tone = s.tone := rfl
@[simp] theorem onSw_area (f : SwitchEng → SwitchEng) : (onSw f s).area = s.area := rfl
@[simp] theorem onSw_store (f : SwitchEng → SwitchEng) : (onSw f s).store = s.store := rfl
@[simp] theorem onSw_scene (f : SwitchEng → SwitchEng) : (onSw f s).scene = s.scene := rfl
@[simp] theorem onSw_sw (f : SwitchEng → SwitchEng) : (onSw f s).sw = f s.sw := rfl
@[simp] theorem onSw_tuner (f : SwitchEng → SwitchEng) : (onSw f s).tuner = s.tuner := rfl
@[simp] theorem onSw_clk (f : SwitchEng → SwitchEng) : (onSw f s).clk = s.clk := rfl
@[simp] theorem onSw_sat (f : SwitchEng → SwitchEng) : (onSw f s).sat = s.sat := rfl
@[simp] theorem onSw_link (f : SwitchEng → SwitchEng) : (onSw f s).link = s.link := rfl
@[simp] theorem onSw_freeCount (f : SwitchEng → SwitchEng) : (onSw f s).freeCount = s.freeCount := rfl
@[simp] theorem onSw_onSw (f g : SwitchEng → SwitchEng) : onSw f (onSw g s) = onSw (fun c => f (g c)) s := rfl
@[simp] theorem onSw_id : onSw (fun c => c) s = s := rfl
/-! ## `onTuner` -/

@[simp] theorem onTuner_pending (f : Tuner → Tuner) : (onTuner f s).pending = s.pending := rfl
@[simp] theorem onTuner_startup (f : Tuner → Tuner) : (onTuner f s).startup = s.startup := rfl
@[simp] theorem onTuner_mon (f : Tuner → Tuner) : (onTuner f s).mon = s.mon := rfl
@[simp] theorem onTuner_tone (f : Tuner → Tuner) : (onTuner f s).tone = s.tone := rfl
@[simp] theorem onTuner_area (f : Tuner → Tuner) : (onTuner f s).area = s.area := rfl
@[simp] theorem onTuner_store (f : Tuner → Tuner) : (onTuner f s).store = s.store := rfl
@[simp] theorem onTuner_scene (f : Tuner → Tuner) : (onTuner f s).scene = s.scene := rfl
@[simp] theorem onTuner_sw (f : Tuner → Tuner) : (onTuner f s).sw = s.sw := rfl
@[simp] theorem onTuner_tuner (f : Tuner → Tuner) : (onTuner f s).tuner = f s.tuner := rfl
@[simp] theorem onTuner_clk (f : Tuner → Tuner) : (onTuner f s).clk = s.clk := rfl
@[simp] theorem onTuner_sat (f : Tuner → Tuner) : (onTuner f s).sat = s.sat := rfl
@[simp] theorem onTuner_link (f : Tuner → Tuner) : (onTuner f s).link = s.link := rfl
@[simp] theorem onTuner_freeCount (f : Tuner → Tuner) : (onTuner f s).freeCount = s.freeCount := rfl
@[simp] theorem onTuner_onTuner (f g : Tuner → Tuner) : onTuner f (onTuner g s) = onTuner (fun c => f (g c)) s := rfl
@[simp] theorem onTuner_id : onTuner (fun c => c) s = s := rfl
/-! ## `onClk` -/

@[simp] theorem onClk_pending (f : Show → Show) : (onClk f s).pending = s.pending := rfl
@[simp] theorem onClk_startup (f : Show → Show) : (onClk f s).startup = s.startup := rfl
@[simp] theorem onClk_mon (f : Show → Show) : (onClk f s).mon = s.mon := rfl
@[simp] theorem onClk_tone (f : Show → Show) : (onClk f s).tone = s.tone := rfl
@[simp] theorem onClk_area (f : Show → Show) : (onClk f s).area = s.area := rfl
@[simp] theorem onClk_store (f : Show → Show) : (onClk f s).store = s.store := rfl
@[simp] theorem onClk_scene (f : Show → Show) : (onClk f s).scene = s.scene := rfl
@[simp] theorem onClk_sw (f : Show → Show) : (onClk f s).sw = s.sw := rfl
@[simp] theorem onClk_tuner (f : Show → Show) : (onClk f s).tuner = s.tuner := rfl
@[simp] theorem onClk_clk (f : Show → Show) : (onClk f s).clk = f s.clk := rfl
@[simp] theorem onClk_sat (f : Show → Show) : (onClk f s).sat = s.sat := rfl
@[simp] theorem onClk_link (f : Show → Show) : (onClk f s).link = s.link := rfl
@[simp] theorem onClk_freeCount (f : Show → Show) : (onClk f s).freeCount = s.freeCount := rfl
@[simp] theorem onClk_onClk (f g : Show → Show) : onClk f (onClk g s) = onClk (fun c => f (g c)) s := rfl
@[simp] theorem onClk_id : onClk (fun c => c) s = s := rfl
/-! ## `onSat` -/

@[simp] theorem onSat_pending (f : SatCtl → SatCtl) : (onSat f s).pending = s.pending := rfl
@[simp] theorem onSat_startup (f : SatCtl → SatCtl) : (onSat f s).startup = s.startup := rfl
@[simp] theorem onSat_mon (f : SatCtl → SatCtl) : (onSat f s).mon = s.mon := rfl
@[simp] theorem onSat_tone (f : SatCtl → SatCtl) : (onSat f s).tone = s.tone := rfl
@[simp] theorem onSat_area (f : SatCtl → SatCtl) : (onSat f s).area = s.area := rfl
@[simp] theorem onSat_store (f : SatCtl → SatCtl) : (onSat f s).store = s.store := rfl
@[simp] theorem onSat_scene (f : SatCtl → SatCtl) : (onSat f s).scene = s.scene := rfl
@[simp] theorem onSat_sw (f : SatCtl → SatCtl) : (onSat f s).sw = s.sw := rfl
@[simp] theorem onSat_tuner (f : SatCtl → SatCtl) : (onSat f s).tuner = s.tuner := rfl
@[simp] theorem onSat_clk (f : SatCtl → SatCtl) : (onSat f s).clk = s.clk := rfl
@[simp] theorem onSat_sat (f : SatCtl → SatCtl) : (onSat f s).sat = f s.sat := rfl
@[simp] theorem onSat_link (f : SatCtl → SatCtl) : (onSat f s).link = s.link := rfl
@[simp] theorem onSat_freeCount (f : SatCtl → SatCtl) : (onSat f s).freeCount = s.freeCount := rfl
@[simp] theorem onSat_onSat (f g : SatCtl → SatCtl) : onSat f (onSat g s) = onSat (fun c => f (g c)) s := rfl
@[simp] theorem onSat_id : onSat (fun c => c) s = s := rfl
/-! ## `onLink` -/

@[simp] theorem onLink_pending (f : LinkCtl → LinkCtl) : (onLink f s).pending = s.pending := rfl
@[simp] theorem onLink_startup (f : LinkCtl → LinkCtl) : (onLink f s).startup = s.startup := rfl
@[simp] theorem onLink_mon (f : LinkCtl → LinkCtl) : (onLink f s).mon = s.mon := rfl
@[simp] theorem onLink_tone (f : LinkCtl → LinkCtl) : (onLink f s).tone = s.tone := rfl
@[simp] theorem onLink_area (f : LinkCtl → LinkCtl) : (onLink f s).area = s.area := rfl
@[simp] theorem onLink_store (f : LinkCtl → LinkCtl) : (onLink f s).store = s.store := rfl
@[simp] theorem onLink_scene (f : LinkCtl → LinkCtl) : (onLink f s).scene = s.scene := rfl
@[simp] theorem onLink_sw (f : LinkCtl → LinkCtl) : (onLink f s).sw = s.sw := rfl
@[simp] theorem onLink_tuner (f : LinkCtl → LinkCtl) : (onLink f s).tuner = s.tuner := rfl
@[simp] theorem onLink_clk (f : LinkCtl → LinkCtl) : (onLink f s).clk = s.clk := rfl
@[simp] theorem onLink_sat (f : LinkCtl → LinkCtl) : (onLink f s).sat = s.sat := rfl
@[simp] theorem onLink_link (f : LinkCtl → LinkCtl) : (onLink f s).link = f s.link := rfl
@[simp] theorem onLink_freeCount (f : LinkCtl → LinkCtl) : (onLink f s).freeCount = s.freeCount := rfl
@[simp] theorem onLink_onLink (f g : LinkCtl → LinkCtl) : onLink f (onLink g s) = onLink (fun c => f (g c)) s := rfl
@[simp] theorem onLink_id : onLink (fun c => c) s = s := rfl
/-! ## `onStartup` -/

@[simp] theorem onStartup_pending (f : Startup → Startup) : (onStartup f s).pending = s.pending := rfl
@[simp] theorem onStartup_startup (f : Startup → Startup) : (onStartup f s).startup = f s.startup := rfl
@[simp] theorem onStartup_mon (f : Startup → Startup) : (onStartup f s).mon = s.mon := rfl
@[simp] theorem onStartup_tone (f : Startup → Startup) : (onStartup f s).tone = s.tone := rfl
@[simp] theorem onStartup_area (f : Startup → Startup) : (onStartup f s).area = s.area := rfl
@[simp] theorem onStartup_store (f : Startup → Startup) : (onStartup f s).store = s.store := rfl
@[simp] theorem onStartup_scene (f : Startup → Startup) : (onStartup f s).scene = s.scene := rfl
@[simp] theorem onStartup_sw (f : Startup → Startup) : (onStartup f s).sw = s.sw := rfl
@[simp] theorem onStartup_tuner (f : Startup → Startup) : (onStartup f s).tuner = s.tuner := rfl
@[simp] theorem onStartup_clk (f : Startup → Startup) : (onStartup f s).clk = s.clk := rfl
@[simp] theorem onStartup_sat (f : Startup → Startup) : (onStartup f s).sat = s.sat := rfl
@[simp] theorem onStartup_link (f : Startup → Startup) : (onStartup f s).link = s.link := rfl
@[simp] theorem onStartup_freeCount (f : Startup → Startup) : (onStartup f s).freeCount = s.freeCount := rfl
@[simp] theorem onStartup_onStartup (f g : Startup → Startup) : onStartup f (onStartup g s) = onStartup (fun c => f (g c)) s := rfl
@[simp] theorem onStartup_id : onStartup (fun c => c) s = s := rfl

/-! ## `onBuffer` -/

@[simp] theorem onBuffer_pending (f : Buffer → Buffer) : (onBuffer f s).pending = s.pending := rfl
@[simp] theorem onBuffer_startup (f : Buffer → Buffer) : (onBuffer f s).startup = s.startup := rfl
@[simp] theorem onBuffer_mon (f : Buffer → Buffer) : (onBuffer f s).mon = s.mon := rfl
@[simp] theorem onBuffer_tone (f : Buffer → Buffer) : (onBuffer f s).tone = s.tone := rfl
@[simp] theorem onBuffer_area (f : Buffer → Buffer) : (onBuffer f s).area = s.area := rfl
@[simp] theorem onBuffer_store (f : Buffer → Buffer) : (onBuffer f s).store = s.store := rfl
@[simp] theorem onBuffer_scene (f : Buffer → Buffer) : (onBuffer f s).scene = { s.scene with buffer := f s.scene.buffer } := rfl
@[simp] theorem onBuffer_sw (f : Buffer → Buffer) : (onBuffer f s).sw = s.sw := rfl
@[simp] theorem onBuffer_tuner (f : Buffer → Buffer) : (onBuffer f s).tuner = s.tuner := rfl
@[simp] theorem onBuffer_clk (f : Buffer → Buffer) : (onBuffer f s).clk = s.clk := rfl
@[simp] theorem onBuffer_sat (f : Buffer → Buffer) : (onBuffer f s).sat = s.sat := rfl
@[simp] theorem onBuffer_link (f : Buffer → Buffer) : (onBuffer f s).link = s.link := rfl
@[simp] theorem onBuffer_freeCount (f : Buffer → Buffer) : (onBuffer f s).freeCount = s.freeCount := rfl

/-! ## `onLinkAt` -/

@[simp] theorem onLinkAt_pending (l : Fin 4) (f : Link → Link) : (onLinkAt l f s).pending = s.pending := rfl
@[simp] theorem onLinkAt_startup (l : Fin 4) (f : Link → Link) : (onLinkAt l f s).startup = s.startup := rfl
@[simp] theorem onLinkAt_mon (l : Fin 4) (f : Link → Link) : (onLinkAt l f s).mon = s.mon := rfl
@[simp] theorem onLinkAt_tone (l : Fin 4) (f : Link → Link) : (onLinkAt l f s).tone = s.tone := rfl
@[simp] theorem onLinkAt_area (l : Fin 4) (f : Link → Link) : (onLinkAt l f s).area = s.area := rfl
@[simp] theorem onLinkAt_store (l : Fin 4) (f : Link → Link) : (onLinkAt l f s).store = s.store := rfl
@[simp] theorem onLinkAt_scene (l : Fin 4) (f : Link → Link) : (onLinkAt l f s).scene = s.scene := rfl
@[simp] theorem onLinkAt_sw (l : Fin 4) (f : Link → Link) : (onLinkAt l f s).sw = s.sw := rfl
@[simp] theorem onLinkAt_tuner (l : Fin 4) (f : Link → Link) : (onLinkAt l f s).tuner = s.tuner := rfl
@[simp] theorem onLinkAt_clk (l : Fin 4) (f : Link → Link) : (onLinkAt l f s).clk = s.clk := rfl
@[simp] theorem onLinkAt_sat (l : Fin 4) (f : Link → Link) : (onLinkAt l f s).sat = s.sat := rfl
@[simp] theorem onLinkAt_link (l : Fin 4) (f : Link → Link) : (onLinkAt l f s).link = { s.link with links := modAt s.link.links l.val f } := rfl
@[simp] theorem onLinkAt_freeCount (l : Fin 4) (f : Link → Link) : (onLinkAt l f s).freeCount = s.freeCount := rfl

/-! ## `onSatAt` -/

@[simp] theorem onSatAt_pending (i : Nat) (f : Sat → Sat) : (onSatAt i f s).pending = s.pending := rfl
@[simp] theorem onSatAt_startup (i : Nat) (f : Sat → Sat) : (onSatAt i f s).startup = s.startup := rfl
@[simp] theorem onSatAt_mon (i : Nat) (f : Sat → Sat) : (onSatAt i f s).mon = s.mon := rfl
@[simp] theorem onSatAt_tone (i : Nat) (f : Sat → Sat) : (onSatAt i f s).tone = s.tone := rfl
@[simp] theorem onSatAt_area (i : Nat) (f : Sat → Sat) : (onSatAt i f s).area = s.area := rfl
@[simp] theorem onSatAt_store (i : Nat) (f : Sat → Sat) : (onSatAt i f s).store = s.store := rfl
@[simp] theorem onSatAt_scene (i : Nat) (f : Sat → Sat) : (onSatAt i f s).scene = s.scene := rfl
@[simp] theorem onSatAt_sw (i : Nat) (f : Sat → Sat) : (onSatAt i f s).sw = s.sw := rfl
@[simp] theorem onSatAt_tuner (i : Nat) (f : Sat → Sat) : (onSatAt i f s).tuner = s.tuner := rfl
@[simp] theorem onSatAt_clk (i : Nat) (f : Sat → Sat) : (onSatAt i f s).clk = s.clk := rfl
@[simp] theorem onSatAt_sat (i : Nat) (f : Sat → Sat) : (onSatAt i f s).sat = { s.sat with sats := modAt s.sat.sats i f } := rfl
@[simp] theorem onSatAt_link (i : Nat) (f : Sat → Sat) : (onSatAt i f s).link = s.link := rfl
@[simp] theorem onSatAt_freeCount (i : Nat) (f : Sat → Sat) : (onSatAt i f s).freeCount = s.freeCount := rfl

/-! ## `setInst` -/

@[simp] theorem setInst_pending (pos : Nat) (i : Option Inst) : (setInst pos i s).pending = s.pending := rfl
@[simp] theorem setInst_startup (pos : Nat) (i : Option Inst) : (setInst pos i s).startup = s.startup := rfl
@[simp] theorem setInst_mon (pos : Nat) (i : Option Inst) : (setInst pos i s).mon = s.mon := rfl
@[simp] theorem setInst_tone (pos : Nat) (i : Option Inst) : (setInst pos i s).tone = { s.tone with chain := modAt s.tone.chain pos fun p => { p with inst := i } } := rfl
@[simp] theorem setInst_area (pos : Nat) (i : Option Inst) : (setInst pos i s).area = s.area := rfl
@[simp] theorem setInst_store (pos : Nat) (i : Option Inst) : (setInst pos i s).store = s.store := rfl
@[simp] theorem setInst_scene (pos : Nat) (i : Option Inst) : (setInst pos i s).scene = s.scene := rfl
@[simp] theorem setInst_sw (pos : Nat) (i : Option Inst) : (setInst pos i s).sw = s.sw := rfl
@[simp] theorem setInst_tuner (pos : Nat) (i : Option Inst) : (setInst pos i s).tuner = s.tuner := rfl
@[simp] theorem setInst_clk (pos : Nat) (i : Option Inst) : (setInst pos i s).clk = s.clk := rfl
@[simp] theorem setInst_sat (pos : Nat) (i : Option Inst) : (setInst pos i s).sat = s.sat := rfl
@[simp] theorem setInst_link (pos : Nat) (i : Option Inst) : (setInst pos i s).link = s.link := rfl
@[simp] theorem setInst_freeCount (pos : Nat) (i : Option Inst) : (setInst pos i s).freeCount = s.freeCount := rfl

/-! ## `raise` -/

@[simp] theorem raise_pending (k : NoticeKind) : (raise k s).pending = s.pending := rfl
@[simp] theorem raise_startup (k : NoticeKind) : (raise k s).startup = s.startup := rfl
@[simp] theorem raise_mon (k : NoticeKind) : (raise k s).mon = s.mon := rfl
@[simp] theorem raise_tone (k : NoticeKind) : (raise k s).tone = s.tone := rfl
@[simp] theorem raise_area (k : NoticeKind) : (raise k s).area = s.area := rfl
@[simp] theorem raise_store (k : NoticeKind) : (raise k s).store = s.store := rfl
@[simp] theorem raise_scene (k : NoticeKind) : (raise k s).scene = s.scene := rfl
@[simp] theorem raise_sw (k : NoticeKind) : (raise k s).sw = s.sw := rfl
@[simp] theorem raise_tuner (k : NoticeKind) : (raise k s).tuner = s.tuner := rfl
@[simp] theorem raise_clk (k : NoticeKind) : (raise k s).clk = s.clk := rfl
@[simp] theorem raise_sat (k : NoticeKind) : (raise k s).sat = s.sat := rfl
@[simp] theorem raise_freeCount (k : NoticeKind) : (raise k s).freeCount = s.freeCount := rfl

/-! ## `raiseOn` -/

@[simp] theorem raiseOn_pending (k : NoticeKind) (l : Fin 4) : (raiseOn k l s).pending = s.pending := rfl
@[simp] theorem raiseOn_startup (k : NoticeKind) (l : Fin 4) : (raiseOn k l s).startup = s.startup := rfl
@[simp] theorem raiseOn_mon (k : NoticeKind) (l : Fin 4) : (raiseOn k l s).mon = s.mon := rfl
@[simp] theorem raiseOn_tone (k : NoticeKind) (l : Fin 4) : (raiseOn k l s).tone = s.tone := rfl
@[simp] theorem raiseOn_area (k : NoticeKind) (l : Fin 4) : (raiseOn k l s).area = s.area := rfl
@[simp] theorem raiseOn_store (k : NoticeKind) (l : Fin 4) : (raiseOn k l s).store = s.store := rfl
@[simp] theorem raiseOn_scene (k : NoticeKind) (l : Fin 4) : (raiseOn k l s).scene = s.scene := rfl
@[simp] theorem raiseOn_sw (k : NoticeKind) (l : Fin 4) : (raiseOn k l s).sw = s.sw := rfl
@[simp] theorem raiseOn_tuner (k : NoticeKind) (l : Fin 4) : (raiseOn k l s).tuner = s.tuner := rfl
@[simp] theorem raiseOn_clk (k : NoticeKind) (l : Fin 4) : (raiseOn k l s).clk = s.clk := rfl
@[simp] theorem raiseOn_sat (k : NoticeKind) (l : Fin 4) : (raiseOn k l s).sat = s.sat := rfl
@[simp] theorem raiseOn_freeCount (k : NoticeKind) (l : Fin 4) : (raiseOn k l s).freeCount = s.freeCount := rfl

/-! ## Packets on a link (R174, R176) -/

@[simp] theorem endPacket_seat (x : Link) : (endPacket x).seat = x.seat := rfl
@[simp] theorem endPacket_rx (x : Link) : (endPacket x).rx = x.rx := rfl
@[simp] theorem endPacket_txRate (x : Link) : (endPacket x).txRate = x.nextRate := rfl
@[simp] theorem endPacket_nextRate (x : Link) : (endPacket x).nextRate = x.nextRate := rfl
@[simp] theorem endPacket_outstanding (x : Link) : (endPacket x).outstanding = x.outstanding := rfl
@[simp] theorem endPacket_places (x : Link) : (endPacket x).places = x.places := rfl
@[simp] theorem endPacket_tx (x : Link) : (endPacket x).tx = none := rfl
@[simp] theorem endPacket_flags (x : Link) : (endPacket x).flags = x.flags := rfl

@[simp] theorem beginReply_seat (p : ReplyPlace) (r : List ReplyPlace) (x : Link) :
    (beginReply p r x).seat = x.seat := rfl
@[simp] theorem beginReply_rx (p : ReplyPlace) (r : List ReplyPlace) (x : Link) :
    (beginReply p r x).rx = x.rx := rfl
@[simp] theorem beginReply_txRate (p : ReplyPlace) (r : List ReplyPlace) (x : Link) :
    (beginReply p r x).txRate = x.txRate := rfl
@[simp] theorem beginReply_nextRate (p : ReplyPlace) (r : List ReplyPlace) (x : Link) :
    (beginReply p r x).nextRate = if p.tag = .ownSeat then x.seat.rate else x.nextRate := rfl
@[simp] theorem beginReply_outstanding (p : ReplyPlace) (r : List ReplyPlace) (x : Link) :
    (beginReply p r x).outstanding = if p.tag = .busy then x.outstanding else none := rfl
@[simp] theorem beginReply_places (p : ReplyPlace) (r : List ReplyPlace) (x : Link) :
    (beginReply p r x).places = r := rfl
@[simp] theorem beginReply_tx (p : ReplyPlace) (r : List ReplyPlace) (x : Link) :
    (beginReply p r x).tx = some p := rfl
@[simp] theorem beginReply_flags (p : ReplyPlace) (r : List ReplyPlace) (x : Link) :
    (beginReply p r x).flags = x.flags := rfl

/-! ## The figures of admission (R18) -/

@[simp] theorem figures_live : (figures s).live = liveCost s := rfl
@[simp] theorem figures_total : (figures s).total = liveCost s + sumNat (s.tone.lanes.map laneCost) := rfl

/-! ## `passSamples` -/

@[simp] theorem passSamples_pending (k : Nat) : (passSamples k s).pending = s.pending := rfl
@[simp] theorem passSamples_startup (k : Nat) : (passSamples k s).startup = s.startup := rfl
@[simp] theorem passSamples_mon (k : Nat) : (passSamples k s).mon = s.mon := rfl
@[simp] theorem passSamples_tone (k : Nat) : (passSamples k s).tone = s.tone := rfl
@[simp] theorem passSamples_area (k : Nat) : (passSamples k s).area = s.area := rfl
@[simp] theorem passSamples_store (k : Nat) : (passSamples k s).store = s.store := rfl
@[simp] theorem passSamples_scene (k : Nat) : (passSamples k s).scene = s.scene := rfl
@[simp] theorem passSamples_sw (k : Nat) : (passSamples k s).sw = s.sw := rfl
@[simp] theorem passSamples_sat (k : Nat) : (passSamples k s).sat = s.sat := rfl
@[simp] theorem passSamples_link (k : Nat) : (passSamples k s).link = s.link := rfl
@[simp] theorem passSamples_freeCount (k : Nat) : (passSamples k s).freeCount = s.freeCount := rfl

end Sys2Proof.Machine
end

