-- ==== Sys2Proof/Laws/Ops.lean ====
section
/-! SUPPORT. One lemma for each shared operation, saying what it can do: lists, links, requests, replies, notices, changes
to audio state, ramps, and the DRAM words. -/

namespace Sys2Proof.Machine

/-! ## Lists -/

/-- `modAt` keeps the length. -/
@[simp] theorem length_modAt {α : Type} (l : List α) (i : Nat) (f : α → α) : (modAt l i f).length = l.length := by
  unfold modAt; split <;> simp

/-- An element after `modAt`. -/
theorem getElem?_modAt {α : Type} (l : List α) (i k : Nat) (f : α → α) :
    (modAt l i f)[k]? = if k = i then l[k]?.map f else l[k]? := by
  unfold modAt
  split
  · next a h =>
    by_cases hk : k = i
    · subst hk
      have hl := (List.getElem?_eq_some_iff.1 h).1
      rw [List.getElem?_set_self hl, h]; simp
    · simp [hk, Ne.symm hk]
  · next h => by_cases hk : k = i <;> simp_all

/-- `modAt` twice at one place. -/
theorem modAt_modAt {α : Type} (l : List α) (i : Nat) (f g : α → α) :
    modAt (modAt l i g) i f = modAt l i (fun a => f (g a)) := by
  apply List.ext_getElem?; intro k
  simp only [getElem?_modAt]; split <;> simp [Function.comp_def]

/-- `modAt` at two places in either order. -/
theorem modAt_comm {α : Type} (l : List α) {i j : Nat} (h : i ≠ j) (f g : α → α) :
    modAt (modAt l i f) j g = modAt (modAt l j g) i f := by
  apply List.ext_getElem?; intro k
  simp only [getElem?_modAt]; split <;> split <;> simp_all

/-- `modAt` by the identity. -/
theorem modAt_id {α : Type} (l : List α) (i : Nat) : modAt l i (fun a => a) = l := by
  apply List.ext_getElem?; intro k
  simp only [getElem?_modAt]; split <;> simp

/-- A map kept by the update is kept by `modAt`. -/
theorem map_modAt {α β : Type} (g : α → β) (f : α → α) (h : ∀ a, g (f a) = g a) (l : List α) (i : Nat) :
    (modAt l i f).map g = l.map g := by
  apply List.ext_getElem?; intro k
  simp only [List.getElem?_map, getElem?_modAt]; split <;> simp [Function.comp_def, h]

/-- `modAt` and a map that commute element by element. -/
theorem modAt_map {α : Type} (g f : α → α) (h : ∀ a, f (g a) = g (f a)) (l : List α) (i : Nat) :
    modAt (l.map g) i f = (modAt l i f).map g := by
  apply List.ext_getElem?; intro k
  simp only [List.getElem?_map, getElem?_modAt]; split <;> simp [Function.comp_def, h]

/-! ## Links -/

/-- The updated link. -/
theorem linkOf_onLinkAt (l : Fin 4) (f : Link → Link) (s : State) (h : s.link.links.length = 4) :
    linkOf (onLinkAt l f s) l = f (linkOf s l) := by
  have hl : l.val < s.link.links.length := by omega
  simp only [linkOf, onLinkAt_link, List.getD_eq_getElem?_getD, getElem?_modAt, if_true]
  simp [hl]

/-- Another link. -/
theorem linkOf_onLinkAt_ne {l k : Fin 4} (f : Link → Link) (s : State) (h : k ≠ l) :
    linkOf (onLinkAt l f s) k = linkOf s k := by
  have : k.val ≠ l.val := fun e => h (Fin.ext e)
  simp [linkOf, List.getD_eq_getElem?_getD, getElem?_modAt, this]

/-- What a link shows is kept where the update keeps it, there or not. -/
theorem linkOf_onLinkAt_keep {β : Type} (g : Link → β) (l k : Fin 4) (f : Link → Link) (s : State)
    (h : ∀ a, g (f a) = g a) : g (linkOf (onLinkAt l f s) k) = g (linkOf s k) := by
  simp only [linkOf, onLinkAt_link, List.getD_eq_getElem?_getD, getElem?_modAt]
  split
  · cases s.link.links[k.val]? <;> simp [h]
  · rfl

/-- Two updates of one link are one. -/
theorem onLinkAt_onLinkAt (l : Fin 4) (f g : Link → Link) (s : State) :
    onLinkAt l f (onLinkAt l g s) = onLinkAt l (fun a => f (g a)) s := by
  simp [onLinkAt, onLink, modAt_modAt]

/-- The number of links. -/
@[simp] theorem length_onLinkAt (l : Fin 4) (f : Link → Link) (s : State) :
    (onLinkAt l f s).link.links.length = s.link.links.length := by simp

/-- An update of one link depends on the other parts of the state in nothing. -/
theorem onLinkAt_congr (l : Fin 4) (f : Link → Link) {s t : State} (h : s = t) : onLinkAt l f s = onLinkAt l f t := by
  rw [h]

/-! ## Notices (R182) -/

/-- What a link shows besides its flags is kept by a notice that becomes pending. -/
theorem linkOf_raise {β : Type} (g : Link → β) (h : ∀ a f, g { a with flags := f } = g a) (k : NoticeKind) (l : Fin 4)
    (s : State) : g (linkOf (raise k s) l) = g (linkOf s l) := by
  simp only [linkOf, raise, onLink_link, List.getD_eq_getElem?_getD, List.getElem?_map]
  cases s.link.links[l.val]? <;> simp [h]

/-- The flags of a link after a notice became pending: the kind's bit where the mask marks it, nothing else. -/
theorem flags_raise (k : NoticeKind) (l : Fin 4) (s : State) (h : s.link.links.length = 4) :
    (linkOf (raise k s) l).flags = (linkOf s l).flags ||| ((linkOf s l).seat.mask &&& noticeBit k) := by
  have hl : l.val < s.link.links.length := by omega
  simp [linkOf, raise, List.getD_eq_getElem?_getD, hl]

/-- The number of links. -/
@[simp] theorem length_raise (k : NoticeKind) (s : State) : (raise k s).link.links.length = s.link.links.length := by
  simp [raise]

/-- The outstanding request of a link is kept by a notice. -/
@[simp] theorem outstanding_raise (k : NoticeKind) (l : Fin 4) (s : State) :
    (linkOf (raise k s) l).outstanding = (linkOf s l).outstanding := linkOf_raise (·.outstanding) (fun _ _ => rfl) k l s

/-- A link's seat is kept by a notice. -/
@[simp] theorem seat_raise (k : NoticeKind) (l : Fin 4) (s : State) :
    (linkOf (raise k s) l).seat = (linkOf s l).seat := linkOf_raise (·.seat) (fun _ _ => rfl) k l s

/-- A notice and an update of a link that leaves seat and flags alone, in either order. -/
theorem raise_onLinkAt (k : NoticeKind) (l : Fin 4) (f : Link → Link) (s : State)
    (h : ∀ a, f { a with flags := a.flags ||| (a.seat.mask &&& noticeBit k) } =
      { f a with flags := (f a).flags ||| ((f a).seat.mask &&& noticeBit k) }) :
    onLinkAt l f (raise k s) = raise k (onLinkAt l f s) := by
  simp only [onLinkAt, raise, onLink]
  rw [modAt_map]
  intro a; exact h a

/-! ## Replies (R173) -/

/-- The reply of an outstanding request that no break orphaned fills a reply place. -/
theorem answer_eq_filled (p : Pkt) (kind : Nat) (st : Status) (c : List Byte) (x : State)
    (h : (linkOf x p.link).outstanding = some ⟨kind, false⟩) : answer p.link st c x = filled p kind st c x := by
  simp [answer, answerTagged, h, filled]

/-- The state of the owner has the request outstanding. -/
theorem outstanding_heard {p : Pkt} {cls : Nat} {s : State} (h : Ready p cls s) (kind : Nat) :
    (linkOf (heard p kind s) p.link).outstanding = some ⟨kind, false⟩ := by
  rw [heard, linkOf_onLinkAt _ _ _ h.four]

/-- An owner that keeps its link's outstanding request answers by filling the reply place. -/
theorem answer_heard {p : Pkt} {cls : Nat} {s : State} (h : Ready p cls s) (kind : Nat) (st : Status) (c : List Byte)
    (y : State) (hy : (linkOf y p.link).outstanding = (linkOf (heard p kind s) p.link).outstanding) :
    answer p.link st c y = filled p kind st c y :=
  answer_eq_filled p kind st c y (hy.trans (outstanding_heard h kind))

/-! ## The state an owner acts on -/

/-- `pending` is as what was due left it. -/
theorem heard_pending (p : Pkt) (kind : Nat) (s : State) : (heard p kind s).pending = (prelude s).pending := by
  rw [heard, onLinkAt_pending]
/-- `startup` is as what was due left it. -/
theorem heard_startup (p : Pkt) (kind : Nat) (s : State) : (heard p kind s).startup = (prelude s).startup := by
  rw [heard, onLinkAt_startup]
/-- `mon` is as what was due left it. -/
theorem heard_mon (p : Pkt) (kind : Nat) (s : State) : (heard p kind s).mon = (prelude s).mon := by
  rw [heard, onLinkAt_mon]
/-- `tone` is as what was due left it. -/
theorem heard_tone (p : Pkt) (kind : Nat) (s : State) : (heard p kind s).tone = (prelude s).tone := by
  rw [heard, onLinkAt_tone]
/-- `area` is as what was due left it. -/
theorem heard_area (p : Pkt) (kind : Nat) (s : State) : (heard p kind s).area = (prelude s).area := by
  rw [heard, onLinkAt_area]
/-- `store` is as what was due left it. -/
theorem heard_store (p : Pkt) (kind : Nat) (s : State) : (heard p kind s).store = (prelude s).store := by
  rw [heard, onLinkAt_store]
/-- `scene` is as what was due left it. -/
theorem heard_scene (p : Pkt) (kind : Nat) (s : State) : (heard p kind s).scene = (prelude s).scene := by
  rw [heard, onLinkAt_scene]
/-- `sw` is as what was due left it. -/
theorem heard_sw (p : Pkt) (kind : Nat) (s : State) : (heard p kind s).sw = (prelude s).sw := by
  rw [heard, onLinkAt_sw]
/-- `tuner` is as what was due left it. -/
theorem heard_tuner (p : Pkt) (kind : Nat) (s : State) : (heard p kind s).tuner = (prelude s).tuner := by
  rw [heard, onLinkAt_tuner]
/-- `clk` is as what was due left it. -/
theorem heard_clk (p : Pkt) (kind : Nat) (s : State) : (heard p kind s).clk = (prelude s).clk := by
  rw [heard, onLinkAt_clk]
/-- `sat` is as what was due left it. -/
theorem heard_sat (p : Pkt) (kind : Nat) (s : State) : (heard p kind s).sat = (prelude s).sat := by
  rw [heard, onLinkAt_sat]
/-- `freeCount` is as what was due left it. -/
theorem heard_freeCount (p : Pkt) (kind : Nat) (s : State) : (heard p kind s).freeCount = (prelude s).freeCount := by
  rw [heard, onLinkAt_freeCount]
/-- `pending` is as what was due left it. -/
theorem passed_pending (p : Pkt) (s : State) : (passed p s).pending = (prelude s).pending := by
  rw [passed, onLinkAt_pending]
/-- `startup` is as what was due left it. -/
theorem passed_startup (p : Pkt) (s : State) : (passed p s).startup = (prelude s).startup := by
  rw [passed, onLinkAt_startup]
/-- `mon` is as what was due left it. -/
theorem passed_mon (p : Pkt) (s : State) : (passed p s).mon = (prelude s).mon := by
  rw [passed, onLinkAt_mon]
/-- `tone` is as what was due left it. -/
theorem passed_tone (p : Pkt) (s : State) : (passed p s).tone = (prelude s).tone := by
  rw [passed, onLinkAt_tone]
/-- `area` is as what was due left it. -/
theorem passed_area (p : Pkt) (s : State) : (passed p s).area = (prelude s).area := by
  rw [passed, onLinkAt_area]
/-- `store` is as what was due left it. -/
theorem passed_store (p : Pkt) (s : State) : (passed p s).store = (prelude s).store := by
  rw [passed, onLinkAt_store]
/-- `scene` is as what was due left it. -/
theorem passed_scene (p : Pkt) (s : State) : (passed p s).scene = (prelude s).scene := by
  rw [passed, onLinkAt_scene]
/-- `sw` is as what was due left it. -/
theorem passed_sw (p : Pkt) (s : State) : (passed p s).sw = (prelude s).sw := by
  rw [passed, onLinkAt_sw]
/-- `tuner` is as what was due left it. -/
theorem passed_tuner (p : Pkt) (s : State) : (passed p s).tuner = (prelude s).tuner := by
  rw [passed, onLinkAt_tuner]
/-- `clk` is as what was due left it. -/
theorem passed_clk (p : Pkt) (s : State) : (passed p s).clk = (prelude s).clk := by
  rw [passed, onLinkAt_clk]
/-- `sat` is as what was due left it. -/
theorem passed_sat (p : Pkt) (s : State) : (passed p s).sat = (prelude s).sat := by
  rw [passed, onLinkAt_sat]
/-- `freeCount` is as what was due left it. -/
theorem passed_freeCount (p : Pkt) (s : State) : (passed p s).freeCount = (prelude s).freeCount := by
  rw [passed, onLinkAt_freeCount]
/-- A reply leaves `pending` alone. -/
@[simp] theorem filled_pending (p : Pkt) (kind : Nat) (st : Status) (c : List Byte) (x : State) :
    (filled p kind st c x).pending = x.pending := rfl
/-- A reply leaves `startup` alone. -/
@[simp] theorem filled_startup (p : Pkt) (kind : Nat) (st : Status) (c : List Byte) (x : State) :
    (filled p kind st c x).startup = x.startup := rfl
/-- A reply leaves `mon` alone. -/
@[simp] theorem filled_mon (p : Pkt) (kind : Nat) (st : Status) (c : List Byte) (x : State) :
    (filled p kind st c x).mon = x.mon := rfl
/-- A reply leaves `tone` alone. -/
@[simp] theorem filled_tone (p : Pkt) (kind : Nat) (st : Status) (c : List Byte) (x : State) :
    (filled p kind st c x).tone = x.tone := rfl
/-- A reply leaves `area` alone. -/
@[simp] theorem filled_area (p : Pkt) (kind : Nat) (st : Status) (c : List Byte) (x : State) :
    (filled p kind st c x).area = x.area := rfl
/-- A reply leaves `store` alone. -/
@[simp] theorem filled_store (p : Pkt) (kind : Nat) (st : Status) (c : List Byte) (x : State) :
    (filled p kind st c x).store = x.store := rfl
/-- A reply leaves `scene` alone. -/
@[simp] theorem filled_scene (p : Pkt) (kind : Nat) (st : Status) (c : List Byte) (x : State) :
    (filled p kind st c x).scene = x.scene := rfl
/-- A reply leaves `sw` alone. -/
@[simp] theorem filled_sw (p : Pkt) (kind : Nat) (st : Status) (c : List Byte) (x : State) :
    (filled p kind st c x).sw = x.sw := rfl
/-- A reply leaves `tuner` alone. -/
@[simp] theorem filled_tuner (p : Pkt) (kind : Nat) (st : Status) (c : List Byte) (x : State) :
    (filled p kind st c x).tuner = x.tuner := rfl
/-- A reply leaves `clk` alone. -/
@[simp] theorem filled_clk (p : Pkt) (kind : Nat) (st : Status) (c : List Byte) (x : State) :
    (filled p kind st c x).clk = x.clk := rfl
/-- A reply leaves `sat` alone. -/
@[simp] theorem filled_sat (p : Pkt) (kind : Nat) (st : Status) (c : List Byte) (x : State) :
    (filled p kind st c x).sat = x.sat := rfl
/-- A reply leaves `freeCount` alone. -/
@[simp] theorem filled_freeCount (p : Pkt) (kind : Nat) (st : Status) (c : List Byte) (x : State) :
    (filled p kind st c x).freeCount = x.freeCount := rfl
/-- The audio clock's state is as what was due left it. -/
theorem present_heard (p : Pkt) (kind : Nat) (s : State) : present (heard p kind s) = present (prelude s) := by
  rw [present, heard_mon, present]

/-! ## Requests (R170, R172) -/

/-- The receiver's packet end and the request that begins, together. -/
theorem begin_heard (p : Pkt) (kind : Nat) (x : State) :
    beginRequest p.link kind (onRx p.link (fun _ => rxHunt) x)
      = onLinkAt p.link (fun r => { r with rx := rxHunt, outstanding := some ⟨kind, false⟩ }) x := by
  simp [beginRequest, onRx, onLinkAt_onLinkAt]

/-- The seat of a link is kept by the begin of a request. -/
theorem seat_heard (p : Pkt) (kind : Nat) (s : State) (l : Fin 4) :
    (linkOf (heard p kind s) l).seat = (linkOf (prelude s) l).seat :=
  linkOf_onLinkAt_keep (·.seat) _ _ _ _ fun _ => rfl

/-- Start-up's state is kept by an update of one link. -/
theorem running_onLinkAt (l : Fin 4) (f : Link → Link) (s : State) : running (onLinkAt l f s) = running s := rfl

/-- The tier of a class is kept by an update of one link. -/
theorem classTier_onLinkAt (l : Fin 4) (f : Link → Link) (s : State) (cls : Nat) :
    classTier (onLinkAt l f s) cls = classTier s cls := rfl

/-- The checks of R172 let a request through to its owner. -/
theorem dispatch_admits (p : Pkt) (cls kind : Nat) (always own : Bool) (owner : State → State) (x : State)
    (form : p.form = .exact) (hears : (linkOf x p.link).rx.st ≠ .waitHigh) (free : (linkOf x p.link).outstanding = none)
    (runs : running x = true) (tier : classTier x cls ≤ (linkOf x p.link).seat.tier) :
    dispatch p kind cls always own owner x
      = owner (onLinkAt p.link (fun r => { r with rx := rxHunt, outstanding := some ⟨kind, false⟩ }) x) := by
  have ho : (linkOf (onRx p.link (fun _ => rxHunt) x) p.link).outstanding = none :=
    (linkOf_onLinkAt_keep (fun r => r.outstanding) p.link p.link (fun r => { r with rx := rxHunt }) x
      (fun _ => rfl)).trans free
  have hr : running (onRx p.link (fun _ => rxHunt) x) = true := runs
  have hs : ¬ (linkOf (onLinkAt p.link (fun r => { r with rx := rxHunt, outstanding := some ⟨kind, false⟩ }) x)
      p.link).seat.tier < classTier x cls := by
    rw [linkOf_onLinkAt_keep (fun r => r.seat) p.link p.link _ x (by intro _; rfl)]; exact Nat.not_lt.2 tier
  simp only [dispatch, if_neg hears, ho, hr, if_true, begin_heard]
  simp [checkedRequest, hs, form, classTier_onLinkAt]

/-- A request that R172 lets through reaches its owner. -/
theorem dispatch_ready {p : Pkt} {cls : Nat} {s : State} (h : Ready p cls s) (kind : Nat) (always own : Bool)
    (owner : State → State) : dispatch p kind cls always own owner (prelude s) = owner (heard p kind s) := by
  rw [dispatch_admits p cls kind always own owner _ h.form h.hears h.free h.runs h.tier, heard]

/-- A request row that R172 lets through. -/
theorem request_ready {p : Pkt} {cls : Nat} {s : State} (h : Ready p cls s) (kind : Nat) (owner : State → State) :
    request p kind cls owner s = .next (owner (heard p kind s)) := by
  simp [request, outside, h.live, dispatch_ready h]

/-- A status request row that R172 lets through. -/
theorem statusRequest_ready {p : Pkt} {s : State} (h : Ready p 0 s) (kind : Nat) (content : State → List Byte) :
    statusRequest p kind content s = .next (filled p kind .ok (content (heard p kind s)) (heard p kind s)) := by
  rw [statusRequest, request_ready h, answer_heard h _ _ _ _ rfl]

/-- An edit row that R172 and the preset number let through. -/
theorem edit_ready {p : Pkt} {cls expected : Nat} {r : Record} {s : State} (h : EditReady p cls expected r s) (kind : Nat)
    (body : State → State) : edit p kind cls expected body s = .next (body (heard p kind s)) := by
  have hs : (heard p kind s).scene.buffer.preset = presetOf expected := by rw [heard, onLinkAt_scene, h.same]
  simp [edit, outside, h.live, dispatch_ready h.toReady, hs, h.form]

/-- The body of an edit sees the buffer's record. -/
theorem withRecord_heard {p : Pkt} {cls expected : Nat} {r : Record} {s : State} (h : EditReady p cls expected r s)
    (kind : Nat) (l : Fin 4) (f : Record → State → State) :
    withRecord l f (heard p kind s) = f r (heard p kind s) := by
  have : (heard p kind s).scene.buffer.record = some r := by rw [heard, onLinkAt_scene, h.record]
  simp [withRecord, this]

/-- A TAP or CONTROL that R181 does not discard reaches its owner. -/
theorem fireAndForget_taken {p : Pkt} {s : State} (h : Taken p s) (owner : State → State) :
    fireAndForget p owner s = .next (owner (passed p s)) := by
  rw [fireAndForget, outside, h.live, if_pos rfl, passed]
  obtain ⟨-, hf, hh, hr, ht⟩ := h
  generalize prelude s = x at *
  have e : (linkOf (onLinkAt p.link (fun r => { r with rx := rxHunt }) x) p.link).seat = (linkOf x p.link).seat :=
    linkOf_onLinkAt_keep (·.seat) _ _ _ _ (by intro _; rfl)
  simp [hh, onRx, running_onLinkAt, hr, hf, e, classTier_onLinkAt, Nat.not_lt.2 ht]

/-- A row of an outside event of a part that runs. -/
theorem outside_live {s : State} (h : live s = true) (f : State → State) : outside f s = .next (f (prelude s)) := by
  simp [outside, h]

/-- A row of a due event of a part that runs. -/
theorem inside_live {s : State} (h : live s = true) (f : State → State) : inside f s = .next (f s) := by
  simp [inside, h]

/-! ## The transmitter's rate (R176) -/

/-- A packet's end keeps the law of the rate that is due. -/
theorem rateDue_endPacket {x : Link} (h : rateDue x) : rateDue (endPacket x) := h

/-- A break leaves the seat's rate due. -/
theorem rateDue_orphan (x : Link) : rateDue (orphan x) := .inr rfl

/-- A link that takes another's SEAT_SET, or a stored seat, keeps the law. -/
theorem rateDue_takeSeat (seat : Seat) (x : Link) : rateDue (takeSeat false seat x) := by
  cases h : ownReplyWaits x
  · exact .inr (by simp [takeSeat, h])
  · exact .inl h

/-- The seat of a link's own SEAT_SET is taken without the transmitter: its reply comes first. -/
theorem takeSeat_own (seat : Seat) (x : Link) :
    (takeSeat true seat x).txRate = x.txRate ∧ (takeSeat true seat x).nextRate = x.nextRate := by simp [takeSeat]

/-- The reply that a transmitter begins keeps the law: the link's own SEAT_SET brings the seat's rate. -/
theorem rateDue_beginReply {p : ReplyPlace} {rest : List ReplyPlace} {x : Link} (e : x.places = p :: rest) (h : rateDue x) :
    rateDue (beginReply p rest x) := by
  by_cases hp : p.tag = .ownSeat
  · exact .inr (by simp [beginReply, hp])
  · rcases h with h | h
    · exact .inl (by simpa [ownReplyWaits, beginReply, e, hp] using h)
    · exact .inr (by simpa [beginReply, hp] using h)

/-! ## Changes to audio state (R2, R3) -/

/-- A change waits for the boundary while the audio clock is present. -/
theorem hand_present (c : Change) (s : State) (h : present s = true) :
    hand c s = { s with tone := { s.tone with changes := s.tone.changes ++ [c] } } := by simp [hand, h, onTone]

/-- A change is taken up at once while the audio clock is not present. -/
theorem hand_lost (c : Change) (s : State) (h : present s = false) : hand c s = applyChange true c s := by simp [hand, h]

/-! ## Ramps (R38, R39) -/

/-- The last step lands on the target. -/
theorem rampStep_last (r : Ramp) (h : r.n = 1) : rampStep r = ⟨r.target, r.target, 0⟩ := by
  simp [rampStep, h]

/-- At rest nothing moves. -/
theorem rampStep_rest (r : Ramp) (h : r.n = 0) : rampStep r = r := by simp [rampStep, h]

/-- The target and the count. -/
@[simp] theorem rampStep_target (r : Ramp) : (rampStep r).target = r.target := by unfold rampStep; split <;> rfl
/-- The count falls by one until 0. -/
@[simp] theorem rampStep_n (r : Ramp) : (rampStep r).n = r.n - 1 := by
  unfold rampStep; split
  · omega
  · rfl

/-! ## DRAM words (R42, R45) -/

/-- The canonical form: the first word is not 0 and lies below every later one. -/
theorem dramWf_cons {a : Nat} {v : Word32} {t : List (Nat × Word32)} :
    dramWf ((a, v) :: t) = true ↔ v ≠ 0 ∧ (∀ c ∈ t, a < c.1) ∧ dramWf t = true := by
  induction t generalizing a v with
  | nil => simp [dramWf]
  | cons c t ih =>
    obtain ⟨b, w⟩ := c
    have hb := @ih b w
    constructor
    · intro h
      simp only [dramWf, Bool.and_eq_true, bne_iff_ne, decide_eq_true_eq] at h
      obtain ⟨⟨hv, hab⟩, ht⟩ := h
      refine ⟨hv, ?_, ht⟩
      intro c hc
      rcases List.mem_cons.1 hc with rfl | hc
      · exact hab
      · exact Nat.lt_trans hab ((hb.1 ht).2.1 c hc)
    · rintro ⟨hv, hall, ht⟩
      simp only [dramWf, Bool.and_eq_true, bne_iff_ne, decide_eq_true_eq]
      exact ⟨⟨hv, hall (b, w) (by simp)⟩, ht⟩

/-- Every address listed after a write was listed before or is the one written. -/
theorem mem_dramWrite {d : List (Nat × Word32)} {a : Nat} {v : Word32} {c : Nat × Word32} (h : c ∈ dramWrite d a v) :
    c ∈ d ∨ c.1 = a := by
  induction d with
  | nil => simp only [dramWrite] at h; split at h <;> simp_all
  | cons e t ih =>
    obtain ⟨b, w⟩ := e
    simp only [dramWrite] at h
    split at h
    · split at h
      · exact .inl h
      · rcases List.mem_cons.1 h with rfl | h
        · exact .inr rfl
        · exact .inl h
    · split at h
      · next hab =>
        split at h
        · exact .inl (List.mem_cons_of_mem _ h)
        · rcases List.mem_cons.1 h with rfl | h
          · exact .inr hab.symm
          · exact .inl (List.mem_cons_of_mem _ h)
      · rcases List.mem_cons.1 h with rfl | h
        · exact .inl (by simp)
        · rcases ih h with h | h
          · exact .inl (List.mem_cons_of_mem _ h)
          · exact .inr h

/-- A write keeps the canonical form. -/
theorem dramWf_dramWrite (d : List (Nat × Word32)) (a : Nat) (v : Word32) (h : dramWf d = true) :
    dramWf (dramWrite d a v) = true := by
  induction d with
  | nil => simp only [dramWrite]; split <;> simp_all [dramWf]
  | cons e t ih =>
    obtain ⟨b, w⟩ := e
    have ⟨hw, hall, ht⟩ := dramWf_cons.1 h
    simp only [dramWrite]
    split
    · next hab =>
      split
      · exact h
      · next hv =>
        refine dramWf_cons.2 ⟨hv, ?_, h⟩
        intro c hc
        rcases List.mem_cons.1 hc with rfl | hc
        · exact hab
        · exact Nat.lt_trans hab (hall c hc)
    · split
      · split
        · exact ht
        · next hv => exact dramWf_cons.2 ⟨hv, hall, ht⟩
      · refine dramWf_cons.2 ⟨hw, ?_, ih ht⟩
        intro c hc
        rcases mem_dramWrite hc with hc | hc
        · exact hall c hc
        · omega

/-- Writes of consecutive words keep the canonical form. -/
theorem dramWf_dramWriteAll (ws : List Word32) (d : List (Nat × Word32)) (a : Nat) (h : dramWf d = true) :
    dramWf (dramWriteAll d a ws) = true := by
  induction ws generalizing d a with
  | nil => exact h
  | cons v t ih => exact ih _ _ (dramWf_dramWrite d a v h)

/-- Any selection of the listed words keeps the canonical form. -/
theorem dramWf_filter (f : Nat × Word32 → Bool) (d : List (Nat × Word32)) (h : dramWf d = true) :
    dramWf (d.filter f) = true := by
  induction d with
  | nil => rfl
  | cons e t ih =>
    obtain ⟨b, w⟩ := e
    have ⟨hw, hall, ht⟩ := dramWf_cons.1 h
    simp only [List.filter_cons]
    split
    · exact dramWf_cons.2 ⟨hw, fun c hc => hall c (List.mem_filter.1 hc).1, ih ht⟩
    · exact ih ht

/-- A clear keeps the canonical form. -/
theorem dramWf_dramClear (d : List (Nat × Word32)) (lo hi : Nat) (h : dramWf d = true) :
    dramWf (dramClear d lo hi) = true := dramWf_filter _ d h

/-- The write of a line sample keeps the canonical form. -/
theorem dramWf_lineWrite (d : List (Nat × Word32)) (areas : List Nat) (j : Nat) (x : Stereo) (h : dramWf d = true) :
    dramWf (lineWrite d areas j x) = true := dramWf_dramWrite _ _ _ (dramWf_dramWrite _ _ _ h)

/-- An address below every listed one reads 0. -/
theorem dramRead_below (d : List (Nat × Word32)) (a : Nat) (h : ∀ c ∈ d, a < c.1) : dramRead d a = 0 := by
  cases d with
  | nil => rfl
  | cons e t =>
    obtain ⟨b, w⟩ := e
    have := h (b, w) (by simp)
    simp only at this
    simp [dramRead, this, Nat.ne_of_lt this]

/-- A read after a write: the word written there, every other word as before. -/
theorem dramRead_dramWrite (d : List (Nat × Word32)) (a b : Nat) (v : Word32) (h : dramWf d = true) :
    dramRead (dramWrite d a v) b = if b = a then v else dramRead d b := by
  induction d with
  | nil =>
    simp only [dramWrite]
    split
    · simp_all [dramRead]
    · simp [dramRead]
  | cons e t ih =>
    obtain ⟨c, w⟩ := e
    have ⟨_, hall, ht⟩ := dramWf_cons.1 h
    simp only [dramWrite]
    split
    · next hac =>
      split
      · next hv =>
        by_cases hb : b = a
        · subst hb; simp [dramRead, hac, Nat.ne_of_lt hac, hv]
        · simp [hb]
      · simp only [dramRead]
        by_cases hb : b = a
        · simp [hb]
        · by_cases h2 : b < a
          · have : b < c := Nat.lt_trans h2 hac
            simp [hb, h2, this, Nat.ne_of_lt this]
          · simp [hb, h2]
    · split
      · next hac =>
        subst hac
        split
        · next hv =>
          by_cases hb : b = a
          · subst hb; simp [dramRead_below t b hall, hv]
          · by_cases h2 : b < a
            · have : dramRead t b = 0 := dramRead_below t b fun c hc => Nat.lt_trans h2 (hall c hc)
              simp [dramRead, hb, h2, this]
            · simp [dramRead, hb, h2]
        · by_cases hb : b = a <;> simp [dramRead, hb]
      · next h1 h2 =>
        simp only [dramRead, ih ht]
        by_cases hb : b = a
        · subst hb; simp [h1, h2]
        · simp [hb]

/-- A clear makes the words of its range read 0 and keeps every other. -/
theorem dramRead_filter (f : Nat → Bool) (d : List (Nat × Word32)) (a : Nat) (h : dramWf d = true) :
    dramRead (d.filter fun c => f c.1) a = if f a then dramRead d a else 0 := by
  induction d with
  | nil => simp [dramRead]
  | cons e t ih =>
    obtain ⟨b, w⟩ := e
    have ⟨_, hall, ht⟩ := dramWf_cons.1 h
    simp only [List.filter_cons]
    by_cases hb : f b
    · simp only [hb, if_true, dramRead, ih ht]
      by_cases h1 : a = b
      · subst h1; simp [hb]
      · by_cases h2 : a < b <;> simp [h1, h2]
    · simp only [hb, Bool.false_eq_true, if_false, ih ht, dramRead]
      by_cases h1 : a = b
      · subst h1; simp [hb]
      · by_cases h2 : a < b
        · have : dramRead t a = 0 := dramRead_below t a fun c hc => Nat.lt_trans h2 (hall c hc)
          simp [h1, h2, this]
        · simp [h1, h2]

/-- A clear makes the words of its range read 0 and keeps every other. -/
theorem dramRead_dramClear (d : List (Nat × Word32)) (lo hi a : Nat) (h : dramWf d = true) :
    dramRead (dramClear d lo hi) a = if lo ≤ a ∧ a < hi then 0 else dramRead d a := by
  unfold dramClear
  rw [dramRead_filter (fun k => !(decide (lo ≤ k) && decide (k < hi))) d a h]
  by_cases h1 : lo ≤ a ∧ a < hi <;> simp [h1]

/-- A read after writes of consecutive words. -/
theorem dramRead_dramWriteAll (ws : List Word32) (d : List (Nat × Word32)) (a b : Nat) (h : dramWf d = true) :
    dramRead (dramWriteAll d a ws) b = if a ≤ b then ws.getD (b - a) (dramRead d b) else dramRead d b := by
  induction ws generalizing d a with
  | nil => simp [dramWriteAll]
  | cons v t ih =>
    simp only [dramWriteAll]
    rw [ih _ _ (dramWf_dramWrite d a v h), dramRead_dramWrite d a b v h]
    rcases Nat.lt_trichotomy b a with h1 | h1 | h1
    · have : ¬ a + 1 ≤ b := by omega
      have h2 : ¬ a ≤ b := by omega
      simp [this, h2, Nat.ne_of_lt h1]
    · subst h1; simp
    · have h2 : a + 1 ≤ b := h1
      have h3 : a ≤ b := by omega
      have h4 : b - a = (b - (a + 1)) + 1 := by omega
      have h5 : b ≠ a := by omega
      simp [h2, h3, h4, h5]

/-- The DRAM of the state right after reset has the canonical form. -/
theorem dramOk_reset : dramOk State.reset = true := rfl

/-- Changes handed one after another while the audio clock is present join the waiting changes in order. -/
theorem hand_foldl_present {α : Type} (g : α → Change) (l : List α) : ∀ s : State, present s = true →
    l.foldl (fun s p => hand (g p) s) s = { s with tone := { s.tone with changes := s.tone.changes ++ l.map g } } := by
  induction l with
  | nil => intro s _; simp
  | cons a t ih =>
    intro s h
    have h1 : hand (g a) s = { s with tone := { s.tone with changes := s.tone.changes ++ [g a] } } := by
      simp [hand, h, onTone]
    rw [List.foldl_cons, h1, ih _ (by simpa [present] using h)]
    simp

/-- The start of a fade-out does to the state what `fadesOut` says (R101 to R103, R110, R112). -/
theorem startFadeOut_eq (f : Inflight) (len : Nat) (x : State) :
    startFadeOut f len x = fadesOut f (incomingChain x f) len x := by
  generalize hc : incomingChain x f = chain
  cases h : present x
  · have hm : (x.mon.state == .present) = false := h
    unfold startFadeOut fadesOut
    simp only [h, hm, hc, Bool.false_eq_true, if_false, List.foldl_nil, admitted, List.zip_nil_left, List.drop_nil]
    rw [incomingChain] at hc
    by_cases hl : chainNeed chain ≤ freeAreas x.area <;>
      by_cases hj : (joinLines 0 chain x.area).1 = [] <;>
        simp [hand, present, onTone, onSw, hm, lineJoinStep, joinDue, incomingChain, applyChange, takeGain, hl, hc, hj]
  · have hm : (x.mon.state == .present) = true := h
    unfold startFadeOut fadesOut
    simp only [h, hm, hc, if_true]
    rw [hand_foldl_present, hand_foldl_present]
    · rw [incomingChain] at hc
      by_cases hl : chainNeed chain ≤ freeAreas x.area <;>
        by_cases hj : (joinLines 0 chain x.area).1 = [] <;>
          simp [hand, present, onTone, onSw, hm, lineJoinStep, joinDue, incomingChain, hl, hc, hj]
    · simp [hand, present, onTone, onSw, hm]
    · rw [hand_foldl_present] <;> simp [hand, present, onTone, onSw, hm]

/-- What handing a change does, said without `hand` (R2, R3). -/
theorem handedOver_eq (c : Change) (x : State) : handedOver c x = hand c x := by
  unfold handedOver hand present
  by_cases h : x.mon.state = .present <;> simp [h, onTone]

/-- What a push does, said without the operations of the Satellite Controller (R155, R156). -/
theorem pushed_eq (cls : Mark) (i r v : Nat) (z : State) : pushed cls i r v z = satPush cls i r v z := by
  have h : ∀ f : Sat → Sat, (∀ a, (f a).state = a.state) → (satOf (onSatAt i f z) i).state = (satOf z i).state := by
    intro f hf
    simp only [satOf, onSatAt, onSat, List.getD_eq_getElem?_getD, getElem?_modAt, if_true]
    cases z.sat.sats[i]? <;> simp [hf]
  unfold satPush satFilled satSetState
  rw [h (fun x => { x with desired := x.desired.set r v, marks := modAt x.marks r (enterMark cls) }) fun _ => rfl]
  by_cases hs : (satOf z i).state = .inStep
  · simp only [hs, pushed, if_true, reduceCtorEq, if_false]; rfl
  · simp only [hs, pushed, if_false]; rfl

/-- What handing an effective value does, said without the owners' operations (R63 to R65). -/
theorem handed_eq (t : Target) (v : Int) (z : State) : handed t v z = handValue t v z := by
  unfold handed handValue levelChanged
  cases t with
  | param p i => cases h : liveOf z p <;> simp [h, handedOver_eq]
  | bypass p => cases h : liveOf z p <;> simp [h, handedOver_eq]
  | level =>
    cases engine z with
    | none => simp [handedOver_eq, onSw]
    | some p => cases p <;> simp [handedOver_eq, onSw]
  | sat i r => simp [pushed_eq]

/-- Cues that hold no STOP fire before the rest of the list (R148). -/
theorem fireList_append (l r : List Cue) : ∀ z : State, (∀ x ∈ l, x.action ≠ .stop) →
    fireList (l ++ r) z = fireList r (l.foldl (fun z x => fireCue x z) z) := by
  induction l with
  | nil => intros; rfl
  | cons a t ih =>
    intro z h
    simp only [List.cons_append, fireList, List.foldl_cons]
    rw [if_neg (h a (by simp)), ih _ fun x hx => h x (by simp [hx])]

end Sys2Proof.Machine
end

