-- ==== Sys2Proof/Laws/PerInstr.lean ====
section
/-! SUPPORT. A fact of each command as syntax, one lemma per constructor: the payload of a well-formed request fits one
packet, whose length byte counts the kind byte and at most 249 payload bytes (12.1). -/

namespace Sys2Proof.Laws

/-- Two bytes for each element. -/
theorem length_flatMap_two {α : Type} (f : α → List Byte) (h : ∀ a, (f a).length = 2) (l : List α) :
    (l.flatMap f).length = 2 * l.length := by
  induction l with
  | nil => rfl
  | cons a t ih => simp [List.flatMap_cons, h, ih]; omega

/-- A two-byte field has two bytes. -/
@[simp] theorem length_be2 (n : Nat) : (Machine.be2 n).length = 2 := rfl
/-- A four-byte field has four bytes. -/
@[simp] theorem length_be4 (n : Nat) : (Machine.be4 n).length = 4 := rfl
/-- A signed two-byte field has two bytes. -/
@[simp] theorem length_be2i (x : Int) : (Machine.be2i x).length = 2 := rfl
/-- A signed four-byte field has four bytes. -/
@[simp] theorem length_be4i (x : Int) : (Machine.be4i x).length = 4 := rfl
/-- The two-byte fields of a list. -/
@[simp] theorem length_flatMap_be2 (l : List Nat) : (l.flatMap Machine.be2).length = 2 * l.length :=
  length_flatMap_two _ length_be2 l
/-- The signed two-byte fields of a list. -/
@[simp] theorem length_flatMap_be2i (l : List Int) : (l.flatMap Machine.be2i).length = 2 * l.length :=
  length_flatMap_two _ length_be2i l
/-- A padded payload. -/
@[simp] theorem length_padTo (n : Nat) (b : List Byte) : (padTo n b).length = max b.length n := by
  simp [padTo]; omega

/-- The payload of a well-formed request fits one packet. -/
def PacketFits.Statement (i : Instr) : Prop :=
  i.wf = true → ∀ k b, encodeRequest i = some (k, b) → b.length ≤ 249

/-- The statement for every command: the payloads of fixed size by computation, the others by their element counts. -/
theorem packet_fits (i : Instr) : PacketFits.Statement i := by
  intro h k b hb
  cases i <;> simp only [encodeRequest, Option.some.injEq, Prod.mk.injEq, reduceCtorEq] at hb <;>
    obtain ⟨-, rfl⟩ := hb
  case sceneEditSetName =>
    simp [Instr.wf] at h
    simp
    omega
  case presetEditName =>
    simp [Instr.wf] at h
    simp
    omega
  case ampDataShaperRun =>
    simp [Instr.wf] at h
    simp
    omega
  case mapEditAdd =>
    simp [Instr.wf, entryOk] at h
    simp [entryField, targetField]
    omega
  case mapEditReplace =>
    simp [Instr.wf, entryOk] at h
    simp [entryField, targetField]
    omega
  case cueInsert =>
    simp [Instr.wf] at h
    simp
    omega
  case areaWrite =>
    simp [Instr.wf] at h
    simp
    omega
  all_goals simp [targetField]

/-- powerOn. -/
theorem PacketFits.powerOn : PacketFits.Statement (.powerOn) := packet_fits _
/-- resetAssert. -/
theorem PacketFits.resetAssert (lowUs : Nat) : PacketFits.Statement (.resetAssert lowUs) := packet_fits _
/-- resetRelease. -/
theorem PacketFits.resetRelease : PacketFits.Statement (.resetRelease) := packet_fits _
/-- restartEntry. -/
theorem PacketFits.restartEntry : PacketFits.Statement (.restartEntry) := packet_fits _
/-- setupReadCompletion. -/
theorem PacketFits.setupReadCompletion : PacketFits.Statement (.setupReadCompletion) := packet_fits _
/-- imageCopyCompletion. -/
theorem PacketFits.imageCopyCompletion : PacketFits.Statement (.imageCopyCompletion) := packet_fits _
/-- startPresetReadCompletion. -/
theorem PacketFits.startPresetReadCompletion : PacketFits.Statement (.startPresetReadCompletion) := packet_fits _
/-- frameBoundary. -/
theorem PacketFits.frameBoundary (c : Captured) : PacketFits.Statement (.frameBoundary c) := packet_fits _
/-- gateClosed. -/
theorem PacketFits.gateClosed (pos : Nat) : PacketFits.Statement (.gateClosed pos) := packet_fits _
/-- bypassWeightZero. -/
theorem PacketFits.bypassWeightZero (pos : Nat) : PacketFits.Statement (.bypassWeightZero pos) := packet_fits _
/-- resolveFadeEnd. -/
theorem PacketFits.resolveFadeEnd (pos : Nat) : PacketFits.Statement (.resolveFadeEnd pos) := packet_fits _
/-- crossFadeEnd. -/
theorem PacketFits.crossFadeEnd (place : Place) : PacketFits.Statement (.crossFadeEnd place) := packet_fits _
/-- tailTimerExpiry. -/
theorem PacketFits.tailTimerExpiry (l : Fin 4) : PacketFits.Statement (.tailTimerExpiry l) := packet_fits _
/-- laneQuiet. -/
theorem PacketFits.laneQuiet (l : Fin 4) : PacketFits.Statement (.laneQuiet l) := packet_fits _
/-- cutFadeEnd. -/
theorem PacketFits.cutFadeEnd (l : Fin 4) : PacketFits.Statement (.cutFadeEnd l) := packet_fits _
/-- chainGainAtRest. -/
theorem PacketFits.chainGainAtRest : PacketFits.Statement (.chainGainAtRest) := packet_fits _
/-- watchdogExpiry. -/
theorem PacketFits.watchdogExpiry : PacketFits.Statement (.watchdogExpiry) := packet_fits _
/-- clockReturned. -/
theorem PacketFits.clockReturned : PacketFits.Statement (.clockReturned) := packet_fits _
/-- fillCompletion. -/
theorem PacketFits.fillCompletion (area : Fin 32) : PacketFits.Statement (.fillCompletion area) := packet_fits _
/-- lapseTimerExpiry. -/
theorem PacketFits.lapseTimerExpiry (link : Fin 4) : PacketFits.Statement (.lapseTimerExpiry link) := packet_fits _
/-- lineJoin. -/
theorem PacketFits.lineJoin : PacketFits.Statement (.lineJoin) := packet_fits _
/-- storeReadStart. -/
theorem PacketFits.storeReadStart : PacketFits.Statement (.storeReadStart) := packet_fits _
/-- presetReadCompletion. -/
theorem PacketFits.presetReadCompletion : PacketFits.Statement (.presetReadCompletion) := packet_fits _
/-- presetStoreCompletion. -/
theorem PacketFits.presetStoreCompletion : PacketFits.Statement (.presetStoreCompletion) := packet_fits _
/-- presetEraseCompletion. -/
theorem PacketFits.presetEraseCompletion : PacketFits.Statement (.presetEraseCompletion) := packet_fits _
/-- imageStoreCompletion. -/
theorem PacketFits.imageStoreCompletion : PacketFits.Statement (.imageStoreCompletion) := packet_fits _
/-- setupStoreCompletion. -/
theorem PacketFits.setupStoreCompletion : PacketFits.Statement (.setupStoreCompletion) := packet_fits _
/-- deferredLaneMove. -/
theorem PacketFits.deferredLaneMove : PacketFits.Statement (.deferredLaneMove) := packet_fits _
/-- swap. -/
theorem PacketFits.swap : PacketFits.Statement (.swap) := packet_fits _
/-- switchPromotion. -/
theorem PacketFits.switchPromotion : PacketFits.Statement (.switchPromotion) := packet_fits _
/-- guardTimerExpiry. -/
theorem PacketFits.guardTimerExpiry : PacketFits.Statement (.guardTimerExpiry) := packet_fits _
/-- noSignalTimerExpiry. -/
theorem PacketFits.noSignalTimerExpiry : PacketFits.Statement (.noSignalTimerExpiry) := packet_fits _
/-- publicationTimerExpiry. -/
theorem PacketFits.publicationTimerExpiry : PacketFits.Statement (.publicationTimerExpiry) := packet_fits _
/-- beatEvent. -/
theorem PacketFits.beatEvent : PacketFits.Statement (.beatEvent) := packet_fits _
/-- tclkPulse. -/
theorem PacketFits.tclkPulse : PacketFits.Statement (.tclkPulse) := packet_fits _
/-- pulseTimerExpiry. -/
theorem PacketFits.pulseTimerExpiry : PacketFits.Statement (.pulseTimerExpiry) := packet_fits _
/-- satGrant. -/
theorem PacketFits.satGrant : PacketFits.Statement (.satGrant) := packet_fits _
/-- writeAnswered. -/
theorem PacketFits.writeAnswered : PacketFits.Statement (.writeAnswered) := packet_fits _
/-- statusWriteAnswered. -/
theorem PacketFits.statusWriteAnswered : PacketFits.Statement (.statusWriteAnswered) := packet_fits _
/-- pollAnswered. -/
theorem PacketFits.pollAnswered (status : Byte) : PacketFits.Statement (.pollAnswered status) := packet_fits _
/-- passThroughAnswered. -/
theorem PacketFits.passThroughAnswered (data : Byte) : PacketFits.Statement (.passThroughAnswered data) := packet_fits _
/-- transactionFailed. -/
theorem PacketFits.transactionFailed : PacketFits.Statement (.transactionFailed) := packet_fits _
/-- deferredHide. -/
theorem PacketFits.deferredHide (sat : Fin 8) : PacketFits.Statement (.deferredHide sat) := packet_fits _
/-- pollTimerExpiry. -/
theorem PacketFits.pollTimerExpiry : PacketFits.Statement (.pollTimerExpiry) := packet_fits _
/-- refreshTimerExpiry. -/
theorem PacketFits.refreshTimerExpiry : PacketFits.Statement (.refreshTimerExpiry) := packet_fits _
/-- linkGapTimeout. -/
theorem PacketFits.linkGapTimeout (link : Fin 4) (before : List Byte) (after : List Byte) : PacketFits.Statement (.linkGapTimeout link before after) := packet_fits _
/-- framingError. -/
theorem PacketFits.framingError (link : Fin 4) (before : List Byte) : PacketFits.Statement (.framingError link before) := packet_fits _
/-- checkByteFailure. -/
theorem PacketFits.checkByteFailure (link : Fin 4) (bytes : List Byte) : PacketFits.Statement (.checkByteFailure link bytes) := packet_fits _
/-- unknownKind. -/
theorem PacketFits.unknownKind (link : Fin 4) (kind : Nat) : PacketFits.Statement (.unknownKind link kind) := packet_fits _
/-- linkBreak. -/
theorem PacketFits.linkBreak (link : Fin 4) : PacketFits.Statement (.linkBreak link) := packet_fits _
/-- breakLineHigh. -/
theorem PacketFits.breakLineHigh (link : Fin 4) : PacketFits.Statement (.breakLineHigh link) := packet_fits _
/-- transmitEnd. -/
theorem PacketFits.transmitEnd (link : Fin 4) : PacketFits.Statement (.transmitEnd link) := packet_fits _
/-- identify. -/
theorem PacketFits.identify (p : Pkt) : PacketFits.Statement (.identify p) := packet_fits _
/-- getStatus. -/
theorem PacketFits.getStatus (p : Pkt) : PacketFits.Statement (.getStatus p) := packet_fits _
/-- linkStatus. -/
theorem PacketFits.linkStatus (p : Pkt) : PacketFits.Statement (.linkStatus p) := packet_fits _
/-- subscribe. -/
theorem PacketFits.subscribe (p : Pkt) (mask : Nat) : PacketFits.Statement (.subscribe p mask) := packet_fits _
/-- areaStatus. -/
theorem PacketFits.areaStatus (p : Pkt) : PacketFits.Statement (.areaStatus p) := packet_fits _
/-- mapStatus. -/
theorem PacketFits.mapStatus (p : Pkt) : PacketFits.Statement (.mapStatus p) := packet_fits _
/-- bufferStatus. -/
theorem PacketFits.bufferStatus (p : Pkt) : PacketFits.Statement (.bufferStatus p) := packet_fits _
/-- switchStatus. -/
theorem PacketFits.switchStatus (p : Pkt) : PacketFits.Statement (.switchStatus p) := packet_fits _
/-- tunerStatus. -/
theorem PacketFits.tunerStatus (p : Pkt) : PacketFits.Statement (.tunerStatus p) := packet_fits _
/-- showStatus. -/
theorem PacketFits.showStatus (p : Pkt) : PacketFits.Statement (.showStatus p) := packet_fits _
/-- cueList. -/
theorem PacketFits.cueList (p : Pkt) (start : Nat) : PacketFits.Statement (.cueList p start) := packet_fits _
/-- satStatus. -/
theorem PacketFits.satStatus (p : Pkt) (sat : Nat) : PacketFits.Statement (.satStatus p sat) := packet_fits _
/-- readPreset. -/
theorem PacketFits.readPreset (p : Pkt) (preset : Nat) (chunk : Nat) : PacketFits.Statement (.readPreset p preset chunk) := packet_fits _
/-- readBuffer. -/
theorem PacketFits.readBuffer (p : Pkt) (source : Nat) (chunk : Nat) : PacketFits.Statement (.readBuffer p source chunk) := packet_fits _
/-- switch. -/
theorem PacketFits.switch (p : Pkt) (preset : Nat) (scene : Nat) (flags : Nat) : PacketFits.Statement (.switch p preset scene flags) := packet_fits _
/-- recall. -/
theorem PacketFits.recall (p : Pkt) (index : Nat) (flags : Nat) : PacketFits.Statement (.recall p index flags) := packet_fits _
/-- dropStash. -/
theorem PacketFits.dropStash (p : Pkt) (index : Nat) : PacketFits.Statement (.dropStash p index) := packet_fits _
/-- tunerMode. -/
theorem PacketFits.tunerMode (p : Pkt) (mode : Nat) : PacketFits.Statement (.tunerMode p mode) := packet_fits _
/-- tunerSetSource. -/
theorem PacketFits.tunerSetSource (p : Pkt) (source : Nat) : PacketFits.Statement (.tunerSetSource p source) := packet_fits _
/-- tunerSetReference. -/
theorem PacketFits.tunerSetReference (p : Pkt) (tenthsHz : Nat) : PacketFits.Statement (.tunerSetReference p tenthsHz) := packet_fits _
/-- tunerSetHysteresis. -/
theorem PacketFits.tunerSetHysteresis (p : Pkt) (exponent : Nat) : PacketFits.Statement (.tunerSetHysteresis p exponent) := packet_fits _
/-- tunerSetReadingKind. -/
theorem PacketFits.tunerSetReadingKind (p : Pkt) (kind : Nat) (set : Nat) : PacketFits.Statement (.tunerSetReadingKind p kind set) := packet_fits _
/-- tunerSetString. -/
theorem PacketFits.tunerSetString (p : Pkt) (set : Nat) (index : Nat) (note : Nat) (offset : Int) : PacketFits.Statement (.tunerSetString p set index note offset) := packet_fits _
/-- tap. -/
theorem PacketFits.tap (p : Pkt) : PacketFits.Statement (.tap p) := packet_fits _
/-- control. -/
theorem PacketFits.control (p : Pkt) (source : Nat) (value : Nat) : PacketFits.Statement (.control p source value) := packet_fits _
/-- tempoSet. -/
theorem PacketFits.tempoSet (p : Pkt) (value : Nat) : PacketFits.Statement (.tempoSet p value) := packet_fits _
/-- setParam. -/
theorem PacketFits.setParam (p : Pkt) (expected : Nat) (kind : Nat) (pos : Nat) (index : Nat) (value : Nat) : PacketFits.Statement (.setParam p expected kind pos index value) := packet_fits _
/-- sceneEditSetOverride. -/
theorem PacketFits.sceneEditSetOverride (p : Pkt) (expected : Nat) (scene : Nat) (target : RawTarget) (value : Nat) : PacketFits.Statement (.sceneEditSetOverride p expected scene target value) := packet_fits _
/-- sceneEditRemoveOverride. -/
theorem PacketFits.sceneEditRemoveOverride (p : Pkt) (expected : Nat) (scene : Nat) (target : RawTarget) : PacketFits.Statement (.sceneEditRemoveOverride p expected scene target) := packet_fits _
/-- sceneEditSetLevel. -/
theorem PacketFits.sceneEditSetLevel (p : Pkt) (expected : Nat) (scene : Nat) (level : Nat) : PacketFits.Statement (.sceneEditSetLevel p expected scene level) := packet_fits _
/-- sceneEditSetRamp. -/
theorem PacketFits.sceneEditSetRamp (p : Pkt) (expected : Nat) (scene : Nat) (length : Nat) : PacketFits.Statement (.sceneEditSetRamp p expected scene length) := packet_fits _
/-- sceneEditSetName. -/
theorem PacketFits.sceneEditSetName (p : Pkt) (expected : Nat) (scene : Nat) (name : List Nat) : PacketFits.Statement (.sceneEditSetName p expected scene name) := packet_fits _
/-- sceneEditAdd. -/
theorem PacketFits.sceneEditAdd (p : Pkt) (expected : Nat) (scene : Nat) : PacketFits.Statement (.sceneEditAdd p expected scene) := packet_fits _
/-- sceneEditRemove. -/
theorem PacketFits.sceneEditRemove (p : Pkt) (expected : Nat) (scene : Nat) : PacketFits.Statement (.sceneEditRemove p expected scene) := packet_fits _
/-- presetEditName. -/
theorem PacketFits.presetEditName (p : Pkt) (expected : Nat) (name : List Nat) : PacketFits.Statement (.presetEditName p expected name) := packet_fits _
/-- presetEditFadeOut. -/
theorem PacketFits.presetEditFadeOut (p : Pkt) (expected : Nat) (length : Nat) : PacketFits.Statement (.presetEditFadeOut p expected length) := packet_fits _
/-- presetEditFadeIn. -/
theorem PacketFits.presetEditFadeIn (p : Pkt) (expected : Nat) (length : Nat) : PacketFits.Statement (.presetEditFadeIn p expected length) := packet_fits _
/-- presetEditTempo. -/
theorem PacketFits.presetEditTempo (p : Pkt) (expected : Nat) (tempo : Nat) : PacketFits.Statement (.presetEditTempo p expected tempo) := packet_fits _
/-- ampDataShaperRun. -/
theorem PacketFits.ampDataShaperRun (p : Pkt) (expected : Nat) (pos : Nat) (start : Nat) (points : List Int) : PacketFits.Statement (.ampDataShaperRun p expected pos start points) := packet_fits _
/-- ampDataToneSet. -/
theorem PacketFits.ampDataToneSet (p : Pkt) (expected : Nat) (pos : Nat) (filter : Nat) (knobSet : Nat) (b0 : Int) (b1 : Int) (b2 : Int) (a1 : Int) (a2 : Int) : PacketFits.Statement (.ampDataToneSet p expected pos filter knobSet b0 b1 b2 a1 a2) := packet_fits _
/-- satImageSet. -/
theorem PacketFits.satImageSet (p : Pkt) (expected : Nat) (sat : Nat) (reg : Nat) (value : Nat) : PacketFits.Statement (.satImageSet p expected sat reg value) := packet_fits _
/-- satImageClear. -/
theorem PacketFits.satImageClear (p : Pkt) (expected : Nat) (sat : Nat) (reg : Nat) : PacketFits.Statement (.satImageClear p expected sat reg) := packet_fits _
/-- mapEditAdd. -/
theorem PacketFits.mapEditAdd (p : Pkt) (expected : Nat) (entry : RawEntry) : PacketFits.Statement (.mapEditAdd p expected entry) := packet_fits _
/-- mapEditReplace. -/
theorem PacketFits.mapEditReplace (p : Pkt) (expected : Nat) (number : Nat) (entry : RawEntry) : PacketFits.Statement (.mapEditReplace p expected number entry) := packet_fits _
/-- mapEditRemove. -/
theorem PacketFits.mapEditRemove (p : Pkt) (expected : Nat) (number : Nat) : PacketFits.Statement (.mapEditRemove p expected number) := packet_fits _
/-- chainEditInsert. -/
theorem PacketFits.chainEditInsert (p : Pkt) (expected : Nat) (pos : Nat) (stype : Nat) (lclass : Nat) (policy : Nat) : PacketFits.Statement (.chainEditInsert p expected pos stype lclass policy) := packet_fits _
/-- chainEditRemove. -/
theorem PacketFits.chainEditRemove (p : Pkt) (expected : Nat) (pos : Nat) : PacketFits.Statement (.chainEditRemove p expected pos) := packet_fits _
/-- chainEditMove. -/
theorem PacketFits.chainEditMove (p : Pkt) (expected : Nat) (src : Nat) (dst : Nat) : PacketFits.Statement (.chainEditMove p expected src dst) := packet_fits _
/-- chainEditRetype. -/
theorem PacketFits.chainEditRetype (p : Pkt) (expected : Nat) (pos : Nat) (stype : Nat) (lclass : Nat) (policy : Nat) : PacketFits.Statement (.chainEditRetype p expected pos stype lclass policy) := packet_fits _
/-- chainEditSetClass. -/
theorem PacketFits.chainEditSetClass (p : Pkt) (expected : Nat) (pos : Nat) (lclass : Nat) : PacketFits.Statement (.chainEditSetClass p expected pos lclass) := packet_fits _
/-- chainEditSetPolicy. -/
theorem PacketFits.chainEditSetPolicy (p : Pkt) (expected : Nat) (pos : Nat) (policy : Nat) : PacketFits.Statement (.chainEditSetPolicy p expected pos policy) := packet_fits _
/-- chainEditRebuild. -/
theorem PacketFits.chainEditRebuild (p : Pkt) (expected : Nat) : PacketFits.Statement (.chainEditRebuild p expected) := packet_fits _
/-- storePreset. -/
theorem PacketFits.storePreset (p : Pkt) (preset : Nat) (source : Nat) : PacketFits.Statement (.storePreset p preset source) := packet_fits _
/-- erasePreset. -/
theorem PacketFits.erasePreset (p : Pkt) (preset : Nat) : PacketFits.Statement (.erasePreset p preset) := packet_fits _
/-- showStart. -/
theorem PacketFits.showStart (p : Pkt) : PacketFits.Statement (.showStart p) := packet_fits _
/-- showHold. -/
theorem PacketFits.showHold (p : Pkt) : PacketFits.Statement (.showHold p) := packet_fits _
/-- showContinue. -/
theorem PacketFits.showContinue (p : Pkt) : PacketFits.Statement (.showContinue p) := packet_fits _
/-- showStop. -/
theorem PacketFits.showStop (p : Pkt) : PacketFits.Statement (.showStop p) := packet_fits _
/-- showLocate. -/
theorem PacketFits.showLocate (p : Pkt) (bar : Nat) (beat : Nat) (chase : Nat) : PacketFits.Statement (.showLocate p bar beat chase) := packet_fits _
/-- cueInsert. -/
theorem PacketFits.cueInsert (p : Pkt) (bar : Nat) (beat : Nat) (action : Nat) (args : List Nat) : PacketFits.Statement (.cueInsert p bar beat action args) := packet_fits _
/-- cueDelete. -/
theorem PacketFits.cueDelete (p : Pkt) (number : Nat) (bar : Nat) (beat : Nat) : PacketFits.Statement (.cueDelete p number bar beat) := packet_fits _
/-- satWrite. -/
theorem PacketFits.satWrite (p : Pkt) (sat : Nat) (reg : Nat) (value : Nat) : PacketFits.Statement (.satWrite p sat reg value) := packet_fits _
/-- satRead. -/
theorem PacketFits.satRead (p : Pkt) (sat : Nat) (reg : Nat) : PacketFits.Statement (.satRead p sat reg) := packet_fits _
/-- satClear. -/
theorem PacketFits.satClear (p : Pkt) (sat : Nat) : PacketFits.Statement (.satClear p sat) := packet_fits _
/-- tempoSource. -/
theorem PacketFits.tempoSource (p : Pkt) (source : Nat) : PacketFits.Statement (.tempoSource p source) := packet_fits _
/-- tempoLock. -/
theorem PacketFits.tempoLock (p : Pkt) (lock : Nat) : PacketFits.Statement (.tempoLock p lock) := packet_fits _
/-- clockSetupDefaultTempo. -/
theorem PacketFits.clockSetupDefaultTempo (p : Pkt) (value : Nat) : PacketFits.Statement (.clockSetupDefaultTempo p value) := packet_fits _
/-- clockSetupPulsesPerBeat. -/
theorem PacketFits.clockSetupPulsesPerBeat (p : Pkt) (value : Nat) : PacketFits.Statement (.clockSetupPulsesPerBeat p value) := packet_fits _
/-- clockSetupBeatsPerBar. -/
theorem PacketFits.clockSetupBeatsPerBar (p : Pkt) (value : Nat) : PacketFits.Statement (.clockSetupBeatsPerBar p value) := packet_fits _
/-- panic. -/
theorem PacketFits.panic (p : Pkt) : PacketFits.Statement (.panic p) := packet_fits _
/-- unpanic. -/
theorem PacketFits.unpanic (p : Pkt) : PacketFits.Statement (.unpanic p) := packet_fits _
/-- satSetupHoldAuto. -/
theorem PacketFits.satSetupHoldAuto (p : Pkt) (value : Nat) : PacketFits.Statement (.satSetupHoldAuto p value) := packet_fits _
/-- satSetupRefresh. -/
theorem PacketFits.satSetupRefresh (p : Pkt) (value : Nat) : PacketFits.Statement (.satSetupRefresh p value) := packet_fits _
/-- satSetupHide. -/
theorem PacketFits.satSetupHide (p : Pkt) (sat : Nat) (value : Nat) : PacketFits.Statement (.satSetupHide p sat value) := packet_fits _
/-- areaJoin. -/
theorem PacketFits.areaJoin (p : Pkt) (taps : Nat) : PacketFits.Statement (.areaJoin p taps) := packet_fits _
/-- areaWrite. -/
theorem PacketFits.areaWrite (p : Pkt) (words : List Int) : PacketFits.Statement (.areaWrite p words) := packet_fits _
/-- areaUnjoin. -/
theorem PacketFits.areaUnjoin (p : Pkt) : PacketFits.Statement (.areaUnjoin p) := packet_fits _
/-- imageSave. -/
theorem PacketFits.imageSave (p : Pkt) (slot : Nat) : PacketFits.Statement (.imageSave p slot) := packet_fits _
/-- setupSave. -/
theorem PacketFits.setupSave (p : Pkt) : PacketFits.Statement (.setupSave p) := packet_fits _
/-- setupSetMasterLevel. -/
theorem PacketFits.setupSetMasterLevel (p : Pkt) (level : Nat) : PacketFits.Statement (.setupSetMasterLevel p level) := packet_fits _
/-- setupSetStartPreset. -/
theorem PacketFits.setupSetStartPreset (p : Pkt) (preset : Nat) (scene : Nat) : PacketFits.Statement (.setupSetStartPreset p preset scene) := packet_fits _
/-- restart. -/
theorem PacketFits.restart (p : Pkt) : PacketFits.Statement (.restart p) := packet_fits _
/-- seatSet. -/
theorem PacketFits.seatSet (p : Pkt) (link : Nat) (seat : RawSeat) : PacketFits.Statement (.seatSet p link seat) := packet_fits _
/-- accessSet. -/
theorem PacketFits.accessSet (p : Pkt) (cls : Nat) (tier : Nat) : PacketFits.Statement (.accessSet p cls tier) := packet_fits _
/-- afsEdge. -/
theorem PacketFits.afsEdge (intervalNs : Nat) : PacketFits.Statement (.afsEdge intervalNs) := packet_fits _
/-- powerLoss. -/
theorem PacketFits.powerLoss : PacketFits.Statement (.powerLoss) := packet_fits _
/-- invalidLengthByte. -/
theorem PacketFits.invalidLengthByte (link : Fin 4) (length : Byte) : PacketFits.Statement (.invalidLengthByte link length) := packet_fits _

end Sys2Proof.Laws
end

