-- ==== Sys2Proof/Laws/Switch.lean ====
section
/-! SUPPORT. What the Switch Engine's shared operations do, in the terms of the claims (Safety.lean): telling an outcome, the end
of a switch, an abandoned load, the guard check. -/

namespace Sys2Proof.Machine

/-- The outcome told to an origin (R97, R149). -/
theorem tellOrigin_eq_told (q : SwRequest) (o : SwOutcome) (b : Bool) (x : State) : tellOrigin q o b x = told q o b x := by
  unfold tellOrigin told
  cases q.origin with
  | link l => cases q.target <;> simp [reportedTarget, onSw]
  | cue t => simp [cueOutcome, onClk, List.any_eq_true]

/-- The guard after a completion (R95). -/
theorem openGuard_eq (q : SwRequest) (x : State) :
    openGuard q x = { x with sw := { x.sw with guard := guardAfter q x.sw.guard } } := by
  unfold openGuard guardAfter isCue
  cases q.origin with
  | link l => simp
  | cue t =>
    by_cases h : q.guard = 0
    · simp [h]
    · simp [h, onSw, Nat.pos_of_ne_zero h]

/-- A failure (R99, R100). -/
theorem failSwitch_eq (q : SwRequest) (o : SwOutcome) (x : State) : failSwitch q o x = switchFailed q o x := by
  simp [failSwitch, switchFailed, tellOrigin_eq_told, endInflight, onSw, onTone]

/-- A completion (R95, R97, R98, R115). -/
theorem completeSwitch_eq (q : SwRequest) (x : State) :
    completeSwitch q x = raise .scene (told q .done false { x with
      tone := { x.tone with chainRested := false }
      sw := { x.sw with inflight := none, laneReports := [], guard := guardAfter q x.sw.guard } }) := by
  simp [completeSwitch, tellOrigin_eq_told, endInflight, openGuard_eq, onSw, onTone]

/-- An abandoned load (R99). -/
theorem abandonLoad_eq (x : State) : abandonLoad x = loadAbandoned x := by
  simp only [abandonLoad, loadAbandoned, onStore] <;>
    (rcases x.store.op with _ | (_ | _ | _ | _ | ⟨_ | _, _⟩ | _) <;> rfl)

/-- A precedence that no open guard lies above passes the guard check (R95). -/
theorem guardBlocks_eq_false {x : State} {p : Nat} (h : ∀ g ms, x.sw.guard = some (g, ms) → g ≤ p) :
    guardBlocks x p = false := by
  unfold guardBlocks
  cases e : x.sw.guard with
  | none => rfl
  | some g => simpa using h g.1 g.2 e

/-- A precedence below an open guard's does not (R95). -/
theorem guardBlocks_eq_true {x : State} {p g ms : Nat} (e : x.sw.guard = some (g, ms)) (h : p < g) : guardBlocks x p = true := by
  simp [guardBlocks, e, h]

/-- With a switch in flight, or with none pending, nothing is promoted (R98). -/
theorem promotionStep_of_busy {x : State} (h : x.sw.inflight ≠ none ∨ x.sw.pending = none) : promotionStep x = x := by
  unfold promotionStep
  cases e : x.sw.inflight with
  | some f => rfl
  | none => rcases h with h | h
            · exact absurd e h
            · simp [h]

end Sys2Proof.Machine
end

