-- ==== Sys2Proof/Tests/Slice0.lean ====
section
/-! SUPPORT. Tests: ill-formed commands that WellFormed refuses, packets and worked cases of the spec, one small step for each
command, and for each statement with hypotheses a concrete state and operands that meet them. Expected values are those the
rules give by hand; no test is a statement for the provers. -/

open Sys2Proof Sys2Proof.Machine

namespace Sys2Proof.Tests

set_option Elab.async false

/-! ## Well-formedness: each check refuses an ill-formed command -/

/-- An exact request from link 3, whose factory seat holds tier SETUP. -/
def ctl : Pkt := ⟨3, .exact⟩

/-- Is every command of a list refused by `Instr.wf`? -/
def allIll (l : List Instr) : Bool := l.all fun i => !i.wf

/-- A frame of the same sample everywhere, `n` samples long on the first channel. -/
def frame (n : Nat) (x : Int) : Captured :=
  ⟨List.replicate n x, List.replicate 32 x, List.replicate 32 x, List.replicate 32 x⟩

theorem test_wf_frame : allIll [.frameBoundary (frame 31 0), .frameBoundary (frame 33 0), .frameBoundary (frame 32 8388608),
    .frameBoundary (frame 32 (-8388609)), .frameBoundary ⟨List.replicate 32 0, [], List.replicate 32 0, List.replicate 32 0⟩,
    .frameBoundary ⟨List.replicate 32 0, List.replicate 32 0, [], List.replicate 32 0⟩,
    .frameBoundary ⟨List.replicate 32 0, List.replicate 32 0, List.replicate 32 0, []⟩] = true := by decide +kernel

theorem test_wf_positions : allIll [.gateClosed 12, .bypassWeightZero 12, .resolveFadeEnd 12, .crossFadeEnd (.live 12)] = true := by
  decide +kernel

theorem test_wf_link_events : allIll [.unknownKind 0 256, .unknownKind 0 1, .unknownKind 0 0x38, .invalidLengthByte 0 1,
    .invalidLengthByte 0 250] = true := by decide +kernel

theorem test_wf_reads : allIll [.subscribe ctl 65536, .cueList ctl 256, .satStatus ctl 256, .readPreset ctl 256 0,
    .readPreset ctl 0 256, .readBuffer ctl 256 0, .readBuffer ctl 0 256] = true := by decide +kernel

theorem test_wf_switches : allIll [.switch ctl 256 0 0, .switch ctl 0 256 0, .switch ctl 0 0 256, .recall ctl 256 0,
    .recall ctl 0 256, .dropStash ctl 256] = true := by decide +kernel

theorem test_wf_tuner : allIll [.tunerMode ctl 256, .tunerSetSource ctl 256, .tunerSetReference ctl 65536,
    .tunerSetHysteresis ctl 256, .tunerSetReadingKind ctl 256 0, .tunerSetReadingKind ctl 0 256,
    .tunerSetString ctl 256 0 0 0, .tunerSetString ctl 0 256 0 0, .tunerSetString ctl 0 0 256 0,
    .tunerSetString ctl 0 0 0 32768, .tunerSetString ctl 0 0 0 (-32769)] = true := by decide +kernel

theorem test_wf_control_and_param : allIll [.control ctl 256 0, .control ctl 0 65536, .tempoSet ctl 65536,
    .setParam ctl 256 0 0 0 0, .setParam ctl 0 256 0 0 0, .setParam ctl 0 0 256 0 0, .setParam ctl 0 0 0 256 0,
    .setParam ctl 0 0 0 0 65536] = true := by decide +kernel

theorem test_wf_scene_edits : allIll [.sceneEditSetOverride ctl 256 0 ⟨0, 0, 0⟩ 0, .sceneEditSetOverride ctl 0 256 ⟨0, 0, 0⟩ 0,
    .sceneEditSetOverride ctl 0 0 ⟨256, 0, 0⟩ 0, .sceneEditSetOverride ctl 0 0 ⟨0, 256, 0⟩ 0,
    .sceneEditSetOverride ctl 0 0 ⟨0, 0, 256⟩ 0, .sceneEditSetOverride ctl 0 0 ⟨0, 0, 0⟩ 65536,
    .sceneEditRemoveOverride ctl 256 0 ⟨0, 0, 0⟩, .sceneEditRemoveOverride ctl 0 256 ⟨0, 0, 0⟩,
    .sceneEditRemoveOverride ctl 0 0 ⟨256, 0, 0⟩, .sceneEditSetLevel ctl 256 0 0, .sceneEditSetLevel ctl 0 256 0,
    .sceneEditSetLevel ctl 0 0 65536, .sceneEditSetRamp ctl 256 0 0, .sceneEditSetRamp ctl 0 256 0, .sceneEditSetRamp ctl 0 0 256,
    .sceneEditSetName ctl 256 0 (List.replicate 8 65), .sceneEditSetName ctl 0 256 (List.replicate 8 65),
    .sceneEditSetName ctl 0 0 (List.replicate 7 65), .sceneEditSetName ctl 0 0 (List.replicate 8 256), .sceneEditAdd ctl 256 0,
    .sceneEditAdd ctl 0 256, .sceneEditRemove ctl 256 0, .sceneEditRemove ctl 0 256] = true := by decide +kernel

theorem test_wf_preset_edits : allIll [.presetEditName ctl 256 (List.replicate 16 65), .presetEditName ctl 0 (List.replicate 15 65),
    .presetEditName ctl 0 (List.replicate 16 256), .presetEditFadeOut ctl 256 1, .presetEditFadeOut ctl 0 256,
    .presetEditFadeIn ctl 256 1, .presetEditFadeIn ctl 0 256, .presetEditTempo ctl 256 0, .presetEditTempo ctl 0 65536,
    .ampDataShaperRun ctl 256 0 0 [0], .ampDataShaperRun ctl 0 256 0 [0], .ampDataShaperRun ctl 0 0 256 [0],
    .ampDataShaperRun ctl 0 0 0 [], .ampDataShaperRun ctl 0 0 0 (List.replicate 34 0), .ampDataShaperRun ctl 0 0 0 [32768],
    .ampDataToneSet ctl 256 0 0 0 0 0 0 0 0, .ampDataToneSet ctl 0 256 0 0 0 0 0 0 0, .ampDataToneSet ctl 0 0 256 0 0 0 0 0 0,
    .ampDataToneSet ctl 0 0 0 256 0 0 0 0 0, .ampDataToneSet ctl 0 0 0 0 2147483648 0 0 0 0,
    .ampDataToneSet ctl 0 0 0 0 0 0 0 0 (-2147483649)] = true := by decide +kernel

theorem test_wf_image_and_map_edits : allIll [.satImageSet ctl 256 0 0 0, .satImageSet ctl 0 256 0 0, .satImageSet ctl 0 0 256 0,
    .satImageSet ctl 0 0 0 256, .satImageClear ctl 256 0 0, .satImageClear ctl 0 256 0, .satImageClear ctl 0 0 256,
    .mapEditAdd ctl 256 ⟨0, ⟨2, 0, 0⟩, List.replicate 9 0⟩, .mapEditAdd ctl 0 ⟨256, ⟨2, 0, 0⟩, List.replicate 9 0⟩,
    .mapEditAdd ctl 0 ⟨0, ⟨256, 0, 0⟩, List.replicate 9 0⟩, .mapEditAdd ctl 0 ⟨0, ⟨2, 0, 0⟩, List.replicate 8 0⟩,
    .mapEditAdd ctl 0 ⟨0, ⟨2, 0, 0⟩, List.replicate 9 65536⟩, .mapEditReplace ctl 256 0 ⟨0, ⟨2, 0, 0⟩, List.replicate 9 0⟩,
    .mapEditReplace ctl 0 256 ⟨0, ⟨2, 0, 0⟩, List.replicate 9 0⟩, .mapEditReplace ctl 0 0 ⟨0, ⟨2, 0, 0⟩, []⟩,
    .mapEditRemove ctl 256 0, .mapEditRemove ctl 0 256] = true := by decide +kernel

theorem test_wf_chain_edits : allIll [.chainEditInsert ctl 256 0 0 0 0, .chainEditInsert ctl 0 256 0 0 0,
    .chainEditInsert ctl 0 0 256 0 0, .chainEditInsert ctl 0 0 0 256 0, .chainEditInsert ctl 0 0 0 0 256, .chainEditRemove ctl 256 0,
    .chainEditRemove ctl 0 256, .chainEditMove ctl 256 0 0, .chainEditMove ctl 0 256 0, .chainEditMove ctl 0 0 256,
    .chainEditRetype ctl 256 0 0 0 0, .chainEditRetype ctl 0 256 0 0 0, .chainEditRetype ctl 0 0 256 0 0,
    .chainEditRetype ctl 0 0 0 256 0, .chainEditRetype ctl 0 0 0 0 256, .chainEditSetClass ctl 256 0 0,
    .chainEditSetClass ctl 0 256 0, .chainEditSetClass ctl 0 0 256, .chainEditSetPolicy ctl 256 0 0, .chainEditSetPolicy ctl 0 256 0,
    .chainEditSetPolicy ctl 0 0 256, .chainEditRebuild ctl 256] = true := by decide +kernel

theorem test_wf_store_and_show : allIll [.storePreset ctl 256 0, .storePreset ctl 0 256, .erasePreset ctl 256,
    .showLocate ctl 65536 1 0, .showLocate ctl 1 256 0, .showLocate ctl 1 1 256, .cueInsert ctl 65536 1 0 [0, 0, 0, 0, 0],
    .cueInsert ctl 1 256 0 [0, 0, 0, 0, 0], .cueInsert ctl 1 1 256 [0, 0, 0, 0, 0], .cueInsert ctl 1 1 0 [0, 0, 0, 0],
    .cueInsert ctl 1 1 0 [0, 0, 0, 0, 256], .cueDelete ctl 256 1 1, .cueDelete ctl 0 65536 1, .cueDelete ctl 0 1 256] = true := by
  decide +kernel

theorem test_wf_satellites_and_clock : allIll [.satWrite ctl 256 0 0, .satWrite ctl 0 256 0, .satWrite ctl 0 0 256,
    .satRead ctl 256 0, .satRead ctl 0 256, .satClear ctl 256, .tempoSource ctl 256, .tempoLock ctl 256,
    .clockSetupDefaultTempo ctl 65536, .clockSetupPulsesPerBeat ctl 65536, .clockSetupBeatsPerBar ctl 65536,
    .satSetupHoldAuto ctl 256, .satSetupRefresh ctl 256, .satSetupHide ctl 256 0, .satSetupHide ctl 0 256] = true := by decide +kernel

theorem test_wf_uploads_and_setup : allIll [.areaJoin ctl 65536, .areaWrite ctl [], .areaWrite ctl (List.replicate 121 0),
    .areaWrite ctl [32768], .imageSave ctl 256, .setupSetMasterLevel ctl 65536, .setupSetStartPreset ctl 256 0,
    .setupSetStartPreset ctl 0 256, .seatSet ctl 256 ⟨0, 0, 0, 0, 0⟩, .seatSet ctl 0 ⟨256, 0, 0, 0, 0⟩,
    .seatSet ctl 0 ⟨0, 256, 0, 0, 0⟩, .seatSet ctl 0 ⟨0, 0, 256, 0, 0⟩, .seatSet ctl 0 ⟨0, 0, 0, 256, 0⟩,
    .seatSet ctl 0 ⟨0, 0, 0, 0, 65536⟩, .accessSet ctl 256 0, .accessSet ctl 0 256] = true := by decide +kernel

/-! ## Packets (R170, R194, 12.1, 12.2, 12.7), written out byte by byte -/

/-- IDENTIFY has kind 01h and no payload: 5Ah, length 1, 01h, check FEh. -/
theorem test_packet_identify : receive 1 [0x5A, 0x01, 0x01, 0xFE] rxHunt = (rxHunt, [.identify ⟨1, .exact⟩]) := by decide +kernel

/-- CONTROL has kind 13h, source 1, value 2: source 3, value 512; the sum 04h + 13h + 03h + 02h + 00h is 1Ch, check E4h. -/
theorem test_packet_control : receive 2 [0x5A, 0x04, 0x13, 0x03, 0x02, 0x00, 0xE4] rxHunt =
    (rxHunt, [.control ⟨2, .exact⟩ 3 512]) := by decide +kernel

/-- SWITCH has kind 0Fh, preset 1, scene 1, flags 1: preset 40, scene B, EXIT_TUNER; 04h + 0Fh + 28h + 01h + 02h is 3Eh. -/
theorem test_packet_switch : receive 0 [0x5A, 0x04, 0x0F, 0x28, 0x01, 0x02, 0xC2] rxHunt =
    (rxHunt, [.switch ⟨0, .exact⟩ 40 1 2]) := by decide +kernel

/-- A wrong check byte yields nothing; the packet after it is read. -/
theorem test_packet_bad_check : receive 1 [0x5A, 0x01, 0x01, 0xFF, 0x5A, 0x01, 0x02, 0xFD] rxHunt =
    (rxHunt, [.getStatus ⟨1, .exact⟩]) := by decide +kernel

/-- A SWITCH with a payload byte missing is malformed (R172 check 6). -/
theorem test_packet_short_switch : receive 0 [0x5A, 0x03, 0x0F, 0x28, 0x01, 0xC5] rxHunt =
    (rxHunt, [.switch ⟨0, .badLength⟩ 40 1 0]) := by decide +kernel

/-- The encoder of CONTROL gives the packet of 12.7. -/
theorem test_encode_control : wireOf (.control ctl 3 512) = some [0x5A, 0x04, 0x13, 0x03, 0x02, 0x00, 0xE4] := by decide +kernel

/-- The table gives no row any bits: a table word spells no command, and `withFetchWord` changes nothing. -/
theorem test_table_words (nbits w : Nat) (s : State) : decodeTableWord nbits w = none ∧ s.withFetchWord nbits w = s :=
  ⟨rfl, rfl⟩

/-! ## Worked cases of chapters 2, 4, 7 and 8 -/

/-- 2.5: pre-gain, shaper between points 18 and 19, output level, port. -/
theorem test_worked_amp : ampPre 10240 33554432 = 83886080 ∧
    ampShape ((List.replicate 33 0).set 18 3686 |>.set 19 5079) 83886080 = 71802880 ∧ mulQ15 71802880 26214 = 57441427 ∧
    portOut 57441427 = 3590089 := by decide +kernel

/-- 2.6.1 and 2.6.2: the clamp, one short of the upper point, and the smallest negative input. -/
theorem test_worked_amp_limits : ampPre 65535 67108864 = 536870911 ∧
    ampShape ((List.replicate 33 0).set 31 8000 |>.set 32 8100) 536870911 = 132710399 ∧
    ampShape ((List.replicate 33 0).set 15 (-600)) (-1) = -1 := by decide +kernel

/-- 2.6.3: a falling coefficient at knob 60. -/
theorem test_worked_knob : ampCoeff 1200000000 1000000001 60 2 = 1120000000 := by decide +kernel

/-- 2.6.4: a tone filter in saturation. -/
theorem test_worked_filter : biquadStep ⟨1073741824, 0, 0, -1610612736, 0⟩ ⟨0, 0, 1900000000, 0⟩ 500000000 =
    (⟨500000000, 0, 2147483647, 1900000000⟩, 2147483647) := by decide +kernel

/-- 2.6.5: the sag gain and envelope of three samples. -/
theorem test_worked_sag : sagStep 3277 0 0 134217728 = 13422592 ∧ sagGain 16384 13422592 = 31130 ∧
    mulQ15 134217728 31130 = 127508480 ∧ sagStep 3277 0 13422592 134217728 = 25502842 ∧ sagGain 16384 25502842 = 29655 ∧
    sagGain 16384 268435456 = 8192 := by decide +kernel

/-- R60: the floor of a falling segment; 4.6: entries 0 and 1 of the pedal at 600. -/
theorem test_worked_curves : evalCurve [0, 0, 200, 100, 0, 0, 0, 0, 0] 300 (0, 1000) = 165 ∧
    evalCurve [4096, 5120, 6144, 8192, 10240, 14336, 20480, 28672, 40960] 600 (0, 65535) = 13056 ∧
    evalCurve [0, 0, 0, 0, 127, 255, 255, 255, 255] 600 (0, 255) = 215 := by decide +kernel

/-- 7.8: a crossing a quarter of the way: timestamp 256,000,064 and an accepted period of 111,709. -/
theorem test_worked_crossing :
    let t := takeStamp 256000064 { Tuner.entry with prevStamp := some 255888355 }
    t.ring = [111709] ∧ t.prevStamp = some 256000064 ∧ t.noSignal = true ∧ t.state = .seeking := by decide +kernel

/-- 7.9: the estimator on the open A string, to the third outlier. -/
theorem test_worked_estimator :
    let t0 : Tuner := { Tuner.entry with mode := .watch, stringSet := some 0 }
    let t5 := [111700, 111720, 111705, 111712, 111698].foldl (fun t p => acceptPeriod p t) t0
    let t9 := [55850, 111715, 55852, 55858].foldl (fun t p => acceptPeriod p t) t5
    t5.state = .locked ∧ ringMedian t5.ring = 111705 ∧ t9.ring.length = 6 ∧ t9.outliers = 2 ∧
      (acceptPeriod 55855 t9).ring = [55855] ∧ (acceptPeriod 55855 t9).state = .seeking := by decide +kernel

/-- 7.9: the value C of M = 111,705, and the nearest string of set 0. -/
theorem test_worked_reading : tunerCents 111705 4400 = -23999 ∧
    nearestString (-23999) 0 ([40, 45, 50, 55, 59, 64].map fun n => ⟨n, 0⟩) = some (1, 1) := by decide +kernel

/-- 8.6 and 8.7: the tapped tempo of two intervals, and the beats of two tempos. -/
theorem test_worked_tempo : (roundHalfUp 28800000 (sumNat [24000, 24100] / 2)) = 1198 ∧ beatLen 1200 = 6144000 ∧
    beatLen 1240 = 5945806 := by decide +kernel

/-- R170: 5Ah on the line is a low start bit, its bits from the lowest on, a high stop bit; a low stop bit is no byte. -/
theorem test_worked_levels : byteLevels 0x5A = [false, false, true, false, true, true, false, true, false, true] ∧
    levelsByte [false, false, true, false, true, true, false, true, false, true] = some 0x5A ∧
    levelsByte [false, false, true, false, true, true, false, true, false, false] = none ∧
    breakLevels (List.replicate 9 false) = false := by decide +kernel

/-- R196: the write of 80h to register 16 of satellite 6, and a read of its register 3 with its answer A5h. -/
theorem test_worked_sdat : sdatFrame ⟨6, 16, .routine, false, 0x80, none⟩ =
      [false, true, true, false, true, false, false, false, false, true, false, false, false, false, false, false, false] ∧
    sdatFrame ⟨6, 3, .pass, true, 0, some 1⟩ = [true, true, true, false, false, false, false, true, true] ∧
    sdatAnswer true [false, true, false, true, false, false, true, false, true] = some 0xA5 ∧ sdatAnswer false [true] = none := by
  decide +kernel

/-- R14: a new length waits for the cross-fade that runs and replaces the one that waits; one equal to the goal changes nothing;
R3: in a clock loss it lands, and a length that does not change keeps the cross-fade. -/
theorem test_worked_lengths :
    let i := fun (t : Int) => { buildInst (defaultSlot .delay .short .cut) [4] with
      params := [.rest t, .rest 0], proc := .delay 7 480 (some 960) (some 1440) none ⟨9, 32768, 3⟩ false }
    (retime false (i 40)).proc = .delay 7 480 (some 960) (some 1920) none ⟨9, 32768, 3⟩ false ∧
    (retime false (i 20)).proc = .delay 7 480 (some 960) none none ⟨9, 32768, 3⟩ false ∧
    (retime true (i 30)).proc = .delay 7 480 (some 960) (some 1440) none ⟨9, 32768, 3⟩ false ∧
    (retime true (i 40)).proc = .delay 7 1920 none none none (.rest 0) false := by decide +kernel

/-- R30: at bypass weight 0 an AMP's pre-gain and level ramps stand still, those of a VOLUME go on. -/
theorem test_worked_frozen_ramps :
    let i := fun (t : SlotType) (w : Ramp) => { buildInst (defaultSlot t .plain .cut) [] with params := [⟨0, 80, 8⟩], weight := w }
    (stepInst (i .amp (.rest 0))).params = [⟨0, 80, 8⟩] ∧ (stepInst (i .amp (.rest 32768))).params = [⟨10, 80, 7⟩] ∧
    (stepInst (i .volume (.rest 0))).params = [⟨10, 80, 7⟩] := by decide +kernel

/-! ## Small states and what a command leaves -/

/-- A running part: supply and audio clock present, one VOLUME at unity, every gain open, preset 0 in the buffer. -/
def up : State :=
  { State.reset with
    startup := ⟨.running, false, none, [], true, false, false⟩
    mon := ⟨.present, 0, true⟩
    store := { State.reset.store with op := none }
    tone := { Tone.entry with
      chain := [⟨.volume, some (buildInst (defaultSlot .volume .plain .cut) [])⟩]
      chainGain := .rest 32768, master := .rest 32768, mute := .rest 32768, holders := ⟨false, false, false, false⟩ }
    scene := { SceneCtl.entry with buffer := ⟨some 0, 0, some fallbackRecord, 1, false⟩, counter := 1 } }

/-- The buffer's record with another chain. -/
def withChain (c : List SlotRec) : State := onRecord (fun r => { r with chain := c }) up

/-- A second scene, a copy of the first with level 16384 and a ramp of 4 frames. -/
def twoScenes : State := onRecord (fun r => { r with scenes := r.scenes ++ [⟨[0x42], 16384, 4, []⟩] }) up

/-- One AMP in the buffer. -/
def ampChain : State := withChain [defaultSlot .amp .plain .cut]

/-- The part without its audio clock. -/
def lost : State := { up with mon := ⟨.lost, 0, false⟩ }

/-- The next state, or the state itself where the command stops. -/
def after (c : Instr) (s : State) : State :=
  match exec c s with
  | .next t => t
  | .fault _ => s
  | .refused _ => s

/-- Status and content of the replies that wait on the control seat's link. -/
def said (s : State) : List (List Byte) := (linkOf s 3).places.map (·.pkt.payload)

/-- The part in start-up with an operation of the store. -/
def starting (ph : StartPhase) (op : StoreOp) : State :=
  { up with startup := { up.startup with phase := ph }, store := { up.store with op := some op } }

/-- A live instance at position 0 with a processing state. -/
def withProc (t : SlotType) (w : Ramp) (p : Proc) (params : List Ramp) : State :=
  onTone (fun x => { x with chain := [⟨t, some ⟨t, .plain, .cut, params, false, w, p, []⟩⟩] }) up

/-- Lane 1 in a state, with the instance of a DELAY. -/
def withLane (st : LaneState) (tail : Ramp) (timer : Int) (quiet : Nat) : State :=
  onTone (fun x => { x with
    lanes := x.lanes.set 1 ⟨st, some (buildInst (defaultSlot .delay .short .keep) [4]), 0, true, .rest 0, tail, timer, quiet⟩
    order := [1] }) (onArea (fun m => { m with areas := m.areas.set 4 (.line (.lane 1) true false) }) up)

/-- A switch of link 1 to preset 5, scene 0, in a phase. -/
def inFlight (ph : Phase) (k : SwKind) (l : Option Loaded) : State :=
  onSw (fun w => { w with
    inflight := some ⟨⟨.preset 5 0, false, false, false, .link 1, 2, 0⟩, k, ph, l, [], [], [], .complete, [], false⟩ }) up

/-- The fallback record as a loaded preset 5. -/
def loaded5 : Loaded := ⟨fallbackRecord, some 5, 0, none⟩

/-- One satellite in a state with marks, automatic writes held, so that no grant is due. -/
def withSat (i : Nat) (st : SatState) (marks : List Mark) : State :=
  onSat (fun c => { c with holdAuto := true }) (onSatAt i (fun x => { x with state := st, marks := marks }) up)

/-- No mark, or one ROUTINE mark on register 5. -/
def noMark : List Mark := List.replicate 16 .absent
def mark5 : List Mark := noMark.set 5 .routine

/-- A transaction in flight. -/
def transacting (t : Trans) (s : State) : State := onSat (fun c => { c with inFlight := some t }) s

/-- Link 3 uploads into area 0: `rem` of 512 words are still to come. -/
def uploading (rem : Nat) (saving timer : Bool) : State :=
  onArea (fun m => { m with
    areas := m.areas.set 0 (.loading 3 256 rem saving timer), uploads := m.uploads.set 3 ⟨some 0, .none⟩ }) up

/-- A show in a transport state at 2:3 with four beats to the bar. -/
def show23 (t : Transport) : State := onClk (fun c => { c with transport := t, bar := 2, beat := 3 }) up

/-- A cue at 2:4. -/
def cue24 (a : CueAction) : Cue := ⟨2, 4, a, false, .none, 7⟩

/-! ## Supply, reset, start-up (R56, R114, R180, R189, R190) -/

theorem test_powerOn : let t := (after .powerOn State.reset);
    t.startup.powered = true ∧ t.startup.phase = .booting ∧ t.store.op = some (.startRead .setup) := by decide +kernel
theorem test_powerOn_reset_low : let t := (after .powerOn (after .powerLoss (after (.resetAssert 10) up)));
    t.startup.powered = true ∧ t.startup.resetHeld = true ∧ live t = false ∧ t.store.op = none ∧
      (after .resetRelease t).store.op = some (.startRead .setup) := by decide +kernel

theorem test_resetAssert : (after (.resetAssert 10) up).startup.resetHeld = true ∧
    (after (.resetAssert 10) up).scene.buffer.record = none ∧ after (.resetAssert 9) up = up := by decide +kernel
theorem test_resetRelease : let t := (after .resetRelease { up with startup := { up.startup with resetHeld := true } });
    t.startup.resetHeld = false ∧ t.store.op = some (.startRead .setup) := by decide +kernel
theorem test_restartEntry : let t := (after .restartEntry { up with startup := { up.startup with restartDue := true } });
    t.startup.phase = .booting ∧ t.store.op = some (.startRead .setup) ∧ t.tone.holders.startup = true := by decide +kernel
theorem test_setupReadCompletion : let t := (after .setupReadCompletion (starting .booting (.startRead .setup)));
    t.startup.factory = true ∧ t.startup.phase = .firstLoad ∧ t.store.op = some (.startRead (.preset 0)) := by decide +kernel
theorem test_setupReadCompletion_joins :
    let marked := Setup.factory.imageMask.map fun _ => true
    let s := onStore (fun c => { c with setup := .good { Setup.factory with imageMask := marked }
                                        images := (c.images.set 1 .bad).set 2 (.good 256 [7, 9]) }) (starting .booting (.startRead .setup))
    let t := (after .setupReadCompletion s);
    t.area.areas[0]? = some (.image (some 2) 256 0) ∧ t.area.table.getD 2 none = none ∧ t.area.failed.getD 1 false = true ∧
      t.area.dram = [] ∧ t.startup.phase = .images ∧ t.store.op = some (.startRead (.image 2)) := by decide +kernel
theorem test_imageCopyCompletion : let t := (after .imageCopyCompletion (onArea (fun m => { m with
        areas := m.areas.set 0 (.image (some 2) 256 0) }) (onStore (fun c => { c with
        images := c.images.set 2 (.good 256 [7, 9]) }) (starting .images (.startRead (.image 2))))));
    t.area.areas[0]? = some (.image (some 2) 256 0) ∧ t.area.table.getD 2 none = some (0, 256) ∧
      t.area.dram = [(0, 7), (1, 9)] ∧ t.startup.phase = .firstLoad := by decide +kernel
theorem test_startPresetReadCompletion : let t := (after .startPresetReadCompletion
      (onTone (fun x => { x with holders := ⟨false, false, true, false⟩ }) (starting .firstLoad (.startRead (.preset 0)))));
    t.startup.phase = .running ∧ t.scene.buffer.preset = none ∧ t.scene.buffer.record = some fallbackRecord ∧
      t.tone.holders.startup = false ∧ t.tone.changes.getLast? = some (.muteRise 16) := by decide +kernel
theorem test_powerLoss : let t := (after .powerLoss { up with store := { up.store with op := some (.presetErase (some 1) 3) } });
    t.startup.powered = false ∧ t.store.library[3]? = some ⟨true, none, 0⟩ := by decide +kernel

/-! ## Tone Engine and Clock Monitor (R1, R7, R8, R10, R14, R22 to R25, R104, R192, R193) -/

theorem test_frameBoundary : (after (.frameBoundary (frame 32 1000)) up).tone.mainOut = List.replicate 32 (1000, 1000) := by
  decide +kernel
theorem test_frameBoundary_short : exec (.frameBoundary (frame 31 0)) up = .fault .shortFrame := rfl
theorem test_gateClosed : instAt (after (.gateClosed 0) (withProc .gate (.rest 32768) (.gate (.rest 0) 5 .closing) [])) 0 =
    some ⟨.gate, .plain, .cut, [], false, .rest 32768, .gate (.rest 0) 5 .closed, []⟩ := by decide +kernel
theorem test_bypassWeightZero : (instAt (after (.bypassWeightZero 0)
      (withProc .cab (.rest 0) (.cab none true [] ⟨100, 32768, 3⟩ .rising) [.rest 0])) 0).map (·.proc) =
    some (.cab none true [] (.rest 32768) .steady) := by decide +kernel
theorem test_resolveFadeEnd : (instAt (after (.resolveFadeEnd 0)
      (withProc .cab (.rest 32768) (.cab none true [] (.rest 0) .falling) [.rest 4])) 0).map (·.proc) =
    some (.cab none true [] ⟨0, 32768, 4⟩ .rising) := by decide +kernel
theorem test_crossFadeEnd : (instAt (after (.crossFadeEnd (.live 0))
      (withProc .delay (.rest 32768) (.delay 7 100 (some 50) none none (.rest 32768) false) [])) 0).map (·.proc) =
    some (.delay 7 50 none none none (.rest 0) false) := by decide +kernel
theorem test_tailTimerExpiry : ((after (.tailTimerExpiry 1) (withLane .ringing (.rest 32768) 32 0)).tone.lanes[1]?).map
    (fun l => (l.st, l.tail)) = some (.cutting, ⟨32768, 0, 8⟩) := by decide +kernel
theorem test_laneQuiet : ((after (.laneQuiet 1) (withLane .ringing (.rest 32768) 9000 2048)).tone.lanes[1]?).map
    (fun l => (l.st, l.tail)) = some (.cutting, ⟨32768, 0, 8⟩) := by decide +kernel
theorem test_cutFadeEnd : let t := (after (.cutFadeEnd 1) (withLane .cutting (.rest 0) 0 0));
    t.tone.lanes[1]? = some Lane.clear ∧ t.tone.order = [] ∧ t.area.areas[4]? = some .free := by decide +kernel
theorem test_chainGainAtRest : let t := (after .chainGainAtRest
      (onTone (fun x => { x with chainRested := true }) (inFlight .fadingIn .preset none)));
    t.sw.inflight = none ∧ t.sw.outcomes[1]? = some ⟨some 5, some 0, .done⟩ := by decide +kernel
theorem test_watchdogExpiry : let t := (after .watchdogExpiry up);
    t.mon = ⟨.lost, 0, false⟩ ∧ t.tone.holders.clock = true ∧ t.tone.mute = .rest 0 := by decide +kernel
theorem test_clockReturned : let t := (after .clockReturned { up with
      mon := ⟨.returning, 512, true⟩, tone := { up.tone with holders := ⟨false, false, false, true⟩ } });
    t.mon.state = .present ∧ t.tone.changes = [.muteZero, .muteRise 32] := by decide +kernel
theorem test_afsEdge : (after (.afsEdge 26000) { up with mon := ⟨.returning, 7, true⟩ }).mon = ⟨.returning, 8, true⟩ ∧
    (after (.afsEdge 26001) { up with mon := ⟨.returning, 7, true⟩ }).mon = ⟨.returning, 0, true⟩ := by decide +kernel

/-! ## Areas and the Preset Store (R43, R44, R49 to R54, R73 to R78, R188) -/

theorem test_fillCompletion : (after (.fillCompletion 4)
      (onArea (fun m => { m with areas := m.areas.set 4 (.line (.live 0) false false), dram := [(1048576, 5)] }) up)).area.areas[4]? =
    some (.line (.live 0) true false) := by decide +kernel
theorem test_lapseTimerExpiry : let t := (after (.lapseTimerExpiry 3) (uploading 10 false true));
    t.area.areas[0]? = some .free ∧ t.area.uploads[3]? = some ⟨none, .lapsed⟩ ∧ (linkOf t 3).flags = 0x80 := by decide +kernel
theorem test_lineJoin : let t := (after .lineJoin (onSw (fun w => { w with
      inflight := w.inflight.map fun f => { f with join := .waiting } }) (inFlight .fadingOut .preset
        (some ⟨{ fallbackRecord with chain := [defaultSlot .delay .long .cut] }, some 5, 0, none⟩))));
    t.area.areas.take 3 = [.line (.incoming 0) false false, .line (.incoming 0) false true, .free] ∧
      t.sw.inflight.map (·.joined) = some [(0, [0, 1])] := by decide +kernel
theorem test_storeReadStart : (after .storeReadStart (onStore (fun c => { c with waitLinks := [⟨1, 9, 0⟩] }) up)).store.op =
    some (.presetRead (.link 1 0) 9) := by decide +kernel
theorem test_presetReadCompletion : let t := (after .presetReadCompletion (onLinkAt 3 (fun l => { l with
      outstanding := some ⟨0x0D, false⟩ }) { up with store := { up.store with op := some (.presetRead (.link 3 0) 9) } }));
    t.store.op = none ∧ said t = [[0x20]] := by decide +kernel
theorem test_presetStoreCompletion : let t := (after .presetStoreCompletion (onBuffer (fun b => { b with dirty := true })
      { up with store := { up.store with op := some (.presetStore (some 3) 9 fallbackRecord 1) } }));
    t.store.last = some (.presetStore, some 9) ∧ t.scene.buffer.dirty = false ∧ t.scene.buffer.preset = some 9 ∧
      (t.store.library[9]?).map (·.content) = some (some fallbackRecord) := by decide +kernel
theorem test_presetEraseCompletion : let t := (after .presetEraseCompletion
      { up with store := { up.store with op := some (.presetErase (some 3) 0) } });
    t.store.last = some (.presetErase, some 0) ∧ t.scene.buffer.dirty = true := by decide +kernel
theorem test_imageStoreCompletion : let t := (after .imageStoreCompletion
      { uploading 0 true false with store := { up.store with op := some (.imageStore (some 3) 6 0 256 [1]) } });
    t.area.areas[0]? = some (.image (some 6) 256 0) ∧ t.area.uploads[3]? = some ⟨none, .saved⟩ ∧
      t.store.images[6]? = some (.good 256 [1]) := by decide +kernel
theorem test_imageStoreCompletion_after_break : let t := (after .imageStoreCompletion
      { onLinkAt 3 (fun x => { x with outstanding := some ⟨0x32, true⟩ }) (uploading 0 true false) with
        store := { up.store with op := some (.imageStore (some 3) 6 0 256 [1]) } });
    (linkOf t 3).flags = noticeBit .area ||| noticeBit .store ∧ (linkOf t 3).outstanding = none := by decide +kernel
theorem test_setupStoreCompletion : let t := (after .setupStoreCompletion { up with
      startup := { up.startup with factory := true }, store := { up.store with op := some (.setupStore (some 3) Setup.factory) } });
    t.store.setup = .good Setup.factory ∧ t.startup.factory = false := by decide +kernel
theorem test_readPreset : (after (.readPreset ctl 127 0) up).store.op = some (.presetRead (.link 3 0) 127) ∧
    said (after (.readPreset ctl 128 0) up) = [[0x13]] := by decide +kernel
theorem test_readBuffer : ((said (after (.readBuffer ctl 255 0) up)).map (·.take 5)) = [[0x00, 0, 0, 0, 1]] ∧
    said (after (.readBuffer ctl 0 0) up) = [[0x13]] := by decide +kernel
theorem test_storePreset : (after (.storePreset ctl 127 255) up).store.op =
    some (.presetStore (some 3) 127 fallbackRecord 1) := by decide +kernel
theorem test_erasePreset : (after (.erasePreset ctl 127) up).store.op = some (.presetErase (some 3) 127) := by decide +kernel
theorem test_areaJoin : let t := (after (.areaJoin ctl 1024) up);
    t.area.areas[0]? = some (.loading 3 1024 2048 false true) ∧ said t = [[0x00, 0, 8, 0]] := by decide +kernel
theorem test_areaWrite : let t := (after (.areaWrite ctl [1, -1]) (uploading 512 false true));
    t.area.dram = [(0, 0x00010000), (1, 0xFFFF0000)] ∧ said t = [[0x00, 2, 1, 254]] := by decide +kernel
theorem test_areaUnjoin : let t := (after (.areaUnjoin ctl) (uploading 512 false true));
    t.area.areas[0]? = some .free ∧ t.area.uploads[3]? = some ⟨none, .unjoined⟩ := by decide +kernel
theorem test_imageSave : (after (.imageSave ctl 15) (uploading 0 false true)).area.areas[0]? =
    some (.loading 3 256 0 true false) ∧ said (after (.imageSave ctl 15) (uploading 1 false true)) = [[0x13]] := by decide +kernel
theorem test_setupSave : (after (.setupSave ctl) up).store.op = some (.setupStore (some 3) Setup.factory) := by decide +kernel

/-! ## The Switch Engine (R91, R92, R95, R96, R98, R104, R106) -/

theorem test_deferredLaneMove : let t := (after .deferredLaneMove (onTone (fun x => { x with chainGain := ⟨900, 0, 5⟩ })
      (onSw (fun w => { w with
        laneReports := [3, 1]
        inflight := w.inflight.map fun f => { f with deferred := [2] } }) (inFlight .fadingOut .preset none))));
    t.tone.changes = [.move 2 1 5] ∧ t.sw.inflight.map (·.assigned) = some [1] := by decide +kernel
theorem test_swap : let t := (after .swap (onSw (fun w => { w with inflight := w.inflight.map fun f => { f with dropped := true } })
      (inFlight .fadingOut .preset (some loaded5))));
    t.scene.buffer = ⟨some 5, 0, some fallbackRecord, 2, false⟩ ∧
      t.tone.changes.getLast? = some (.gainTarget .chain 32768 8) := by decide +kernel
theorem test_switchPromotion : let t := (after .switchPromotion (onSw (fun w => { w with
      pending := some ⟨.preset 5 0, false, false, false, .link 1, 2, 0⟩ }) up));
    t.sw.pending = none ∧ t.store.op = some (.presetRead (.switch false) 5) := by decide +kernel
theorem test_guardTimerExpiry : (after .guardTimerExpiry (onSw (fun w => { w with guard := some (2, 500) }) up)).sw.guard = none := by
  decide +kernel
theorem test_switch : let t := (after (.switch ctl 127 0 0) up);
    t.store.op = some (.presetRead (.switch false) 127) ∧ said t = [[0x00]] ∧
      t.sw.outcomes[3]? = some ⟨some 127, some 0, .taken⟩ := by decide +kernel
theorem test_switch_refused : said (after (.switch ctl 128 0 0) up) = [[0x13]] ∧ said (after (.switch ctl 0 1 0) up) = [[0x13]] ∧
    said (after (.switch ctl 127 0 0) (onSw (fun w => { w with guard := some (4, 500) }) up)) = [[0x31]] := by decide +kernel
theorem test_recall : (after (.recall ctl 0 0) (onScene (fun c => { c with stash := [⟨some 9, 0, fallbackRecord, 1⟩] })
      (inFlight .fadingIn .preset none))).sw.pending.map (·.target) = some (.stash ⟨some 9, 0, fallbackRecord, 1⟩) := by
  decide +kernel
theorem test_dropStash : (after (.dropStash ctl 0) (onScene (fun c => { c with
    stash := [⟨some 9, 0, fallbackRecord, 1⟩] }) up)).scene.stash = [] := by decide +kernel

/-! ## Tuner (R118, R119, R126, R129) -/

theorem test_noSignalTimerExpiry : let t := (after .noSignalTimerExpiry (onTuner (fun t => { t with
      mode := .watch, ring := [111700], noSignal := true, state := .seeking }) up));
    t.tuner.ring = [] ∧ t.tuner.state = .silent ∧ (linkOf t 1).flags = 0x0004 := by decide +kernel
theorem test_publicationTimerExpiry : (linkOf (after .publicationTimerExpiry (onTuner (fun t => { t with
    mode := .watch, publish := true, state := .seeking }) up)) 1).flags = 0x0004 := by decide +kernel
theorem test_tunerMode : let t := (after (.tunerMode ctl 2) up);
    t.tuner.mode = .mute ∧ t.tone.holders.tuner = true ∧ t.tone.changes = [.muteFall] ∧ said t = [[0x00, 2]] := by decide +kernel
theorem test_tunerSetSource : let t := (after (.tunerSetSource ctl 1) (onTuner (fun t => { t with ring := [9000] }) up));
    t.tuner.sourceB = true ∧ t.tuner.ring = [] := by decide +kernel
theorem test_tunerSetReference : (after (.tunerSetReference ctl 4299) up).tuner.reference = 4300 ∧
    said (after (.tunerSetReference ctl 4299) up) = [[0x01]] ∧ said (after (.tunerSetReference ctl 4300) up) = [[0x00]] := by
  decide +kernel
theorem test_tunerSetHysteresis : (after (.tunerSetHysteresis ctl 13) up).tuner.exponent = 12 ∧
    said (after (.tunerSetHysteresis ctl 13) up) = [[0x01]] := by decide +kernel
theorem test_tunerSetReadingKind : (after (.tunerSetReadingKind ctl 1 3) up).tuner.stringSet = some 3 ∧
    said (after (.tunerSetReadingKind ctl 1 4) up) = [[0x13]] := by decide +kernel
theorem test_tunerSetString : let t := (after (.tunerSetString ctl 3 4 90 (-501)) up);
    (t.tuner.strings.getD 3 []).getLast? = some ⟨89, -500⟩ ∧ said t = [[0x01]] := by decide +kernel
theorem test_tunerSetString_remove : ((after (.tunerSetString ctl 3 0 255 0) up).tuner.strings.getD 3 []).length = 3 ∧
    said (after (.tunerSetString ctl 3 5 60 0) up) = [[0x13]] := by decide +kernel

/-! ## Show Clock (R133 to R148) -/

theorem test_tempoSet : let t := (after (.tempoSet ctl 3001) up);
    t.clk.tempo = 3000 ∧ said t = [[0x01, 0x0B, 0xB8, 0]] := by decide +kernel
theorem test_tempoSource : let t := (after (.tempoSource ctl 2) up);
    t.clk.source = .external ∧ t.clk.pulseTimer = true ∧ said t = [[0x00, 2]] := by decide +kernel
theorem test_tempoLock : (after (.tempoLock ctl 1) up).clk.lock = true ∧ said (after (.tempoLock ctl 2) up) = [[0x13]] := by
  decide +kernel
theorem test_clockSetupDefaultTempo : (after (.clockSetupDefaultTempo ctl 299) up).clk.defTempo = 300 := by decide +kernel
theorem test_clockSetupPulsesPerBeat : (after (.clockSetupPulsesPerBeat ctl 49) up).clk.ppb = 48 := by decide +kernel
theorem test_clockSetupBeatsPerBar : (after (.clockSetupBeatsPerBar ctl 16) up).clk.bpb = 16 ∧
    said (after (.clockSetupBeatsPerBar ctl 17) up) = [[0x13]] ∧ said (after (.clockSetupBeatsPerBar ctl 0) up) = [[0x13]] ∧
    said (after (.clockSetupBeatsPerBar ctl 3) (onClk (fun c => { c with cues := [cue24 .stop] }) up)) = [[0x36]] := by decide +kernel
theorem test_tap : let t := (after (.tap ctl) (onClk (fun c => { c with
      source := .tap, pos := 1048100, tapLast := some 1024000, taps := [24000] }) up));
    t.clk.tempo = 1198 ∧ t.clk.taps = [24000, 24100] := by decide +kernel
theorem test_showStart : let t := (after (.showStart ctl) (show23 .stopped));
    t.clk.transport = .running ∧ t.clk.bar = 1 ∧ t.clk.beat = 1 ∧ t.clk.countdown = 6144000 ∧ said t = [[0x00, 2, 0, 1, 1, 0xFF, 0xFF]] := by
  decide +kernel
theorem test_showHold : said (after (.showHold ctl) (show23 .running)) = [[0x00, 3, 0, 2, 3, 0xFF, 0xFF]] := by decide +kernel
theorem test_showContinue : said (after (.showContinue ctl) (show23 .held)) = [[0x00, 2, 0, 2, 3, 0xFF, 0xFF]] := by decide +kernel
theorem test_showStop : said (after (.showStop ctl) (show23 .running)) = [[0x00, 0, 0, 1, 1, 0xFF, 0xFF]] := by decide +kernel
theorem test_showLocate : said (after (.showLocate ctl 9999 4 0) (show23 .stopped)) = [[0x00, 3, 0x27, 0x0F, 4, 0xFF, 0xFF]] ∧
    said (after (.showLocate ctl 1 5 0) (show23 .stopped)) = [[0x13]] := by decide +kernel
theorem test_cueInsert : let t := (after (.cueInsert ctl 2 4 0 [40, 1, 2, 0x07, 0xD1]) up);
    t.clk.cues = [⟨2, 4, .switch 40 1 2 2000, false, .none, 0⟩] ∧ said t = [[0x01, 0]] := by decide +kernel
theorem test_cueDelete : let s := onClk (fun c => { c with cues := [cue24 .stop] }) up;
    (after (.cueDelete ctl 0 2 4) s).clk.cues = [] ∧ said (after (.cueDelete ctl 0 2 3) s) = [[0x13]] := by decide +kernel
theorem test_beatEvent : let t := (after .beatEvent (onClk (fun c => { c with countdown := 256 }) (show23 .running)));
    t.clk.beat = 4 ∧ t.clk.countdown = 6144000 ∧ t.clk.beatCount = 1 := by decide +kernel
theorem test_beatEvent_stop_cue : let t := (after .beatEvent (onClk (fun c => { c with
      countdown := 256, cues := [cue24 .stop] }) (show23 .running)));
    t.clk.transport = .stopped ∧ t.clk.bar = 1 ∧ t.clk.cues = [⟨2, 4, .stop, false, .done, 7⟩] := by decide +kernel
theorem test_tclkPulse : let t := (after .tclkPulse (onClk (fun c => { c with
      source := .external, ppb := 1, pos := 24000, pulseLast := some 0 }) (show23 .running)));
    t.clk.beat = 4 ∧ t.clk.tempo = 1200 ∧ t.clk.pulses = [24000] := by decide +kernel
theorem test_pulseTimerExpiry : let t := (after .pulseTimerExpiry (onClk (fun c => { c with
      source := .external, pulseTimer := true }) (show23 .running)));
    t.clk.source = .internal ∧ t.clk.transport = .held := by decide +kernel

/-- R139: a TEMPO cue that fires at the beat event sets the beat that begins there. -/
theorem test_worked_beat_order : let t := beatStep (onClk (fun c => { c with countdown := 0, cues := [cue24 (.tempo 1240)] })
      (show23 .running));
    t.clk.tempo = 1240 ∧ t.clk.countdown = 5945806 ∧ t.clk.bc = 5945806 ∧ t.clk.beat = 4 := by decide +kernel

/-! ## Satellites (R152 to R166) -/

theorem test_satGrant : (after .satGrant (onSat (fun c => { c with holdAuto := false })
    (withSat 2 .behind mark5))).sat.inFlight = some ⟨2, 5, .routine, false, 0, none⟩ := by decide +kernel
theorem test_writeAnswered : let t := (after .writeAnswered (transacting ⟨2, 5, .routine, false, 0, none⟩ (withSat 2 .behind mark5)));
    (satOf t 2).state = .inStep ∧ (satOf t 2).marks = noMark ∧ t.sat.inFlight = none := by decide +kernel
theorem test_statusWriteAnswered : (satOf (after .statusWriteAnswered
    (transacting ⟨2, 16, .routine, false, 0x80, none⟩ (withSat 2 .restoring noMark))) 2).state = .inStep := by decide +kernel
theorem test_pollAnswered : let t := (after (.pollAnswered 0x7A) (transacting ⟨2, 16, .poll, true, 0, none⟩ (withSat 2 .inStep noMark)));
    (satOf t 2).last = some 0x4A ∧ (satOf t 2).latch = some 10 ∧ (satOf t 2).state = .inStep := by decide +kernel
theorem test_passThroughAnswered : said (after (.passThroughAnswered 0x2C) (onLinkAt 3 (fun l => { l with
    outstanding := some ⟨0x28, false⟩ }) (transacting ⟨2, 3, .pass, true, 0, some 3⟩ (withSat 2 .inStep noMark)))) =
    [[0x00, 0x2C]] := by decide +kernel
theorem test_transactionFailed : let t := (after .transactionFailed (onSatAt 2 (fun x => { x with failures := 2 })
      (transacting ⟨2, 5, .routine, false, 0, none⟩ (withSat 2 .behind mark5))));
    (satOf t 2).state = .absent ∧ (satOf t 2).failures = 3 := by decide +kernel
theorem test_deferredHide : let t := (after (.deferredHide 2) (onSat (fun c => { c with hideWaits := [(3, 2)] })
      (onLinkAt 3 (fun l => { l with outstanding := some ⟨0x2E, false⟩ }) (withSat 2 .inStep noMark))));
    (satOf t 2).hidden = true ∧ t.sat.hideWaits = [] ∧ said t = [[0x00]] := by decide +kernel
theorem test_pollTimerExpiry : ((after .pollTimerExpiry (onSatAt 2 (fun x => { x with hidden := true })
    (onSat (fun c => { c with pollTimer := true }) up))).sat.sats.map (·.pollWaits)) =
    [true, true, false, true, true, true, true, true] := by decide +kernel
theorem test_refreshTimerExpiry : let t := (after .refreshTimerExpiry (onSatAt 2 (fun x => { x with state := .inStep })
      (onSat (fun c => { c with refresh := true, refTimer := true }) up)));
    (satOf t 2).state = .behind ∧ (satOf t 2).marks = List.replicate 16 .routine ∧ (satOf t 1).marks = noMark := by decide +kernel
theorem test_satWrite : let t := (after (.satWrite ctl 2 5 200) (withSat 2 .inStep noMark));
    (satOf t 2).desired.getD 5 0 = 200 ∧ (satOf t 2).state = .behind ∧ t.sat.queue = [⟨3, 2, 5, true⟩] ∧
      t.scene.buffer.dirty = true ∧ t.scene.buffer.seq = 2 := by decide +kernel
theorem test_satRead : (after (.satRead ctl 7 16) (withSat 7 .inStep noMark)).sat.queue = [⟨3, 7, 16, false⟩] ∧
    said (after (.satRead ctl 7 17) up) = [[0x13]] ∧ said (after (.satRead ctl 7 0) (withSat 7 .absent noMark)) = [[0x40]] := by
  decide +kernel
theorem test_satClear : let t := (after (.satClear ctl 2) (onSatAt 2 (fun x => { x with latch := some 3, last := some 0x43 }) up));
    (satOf t 2).latch = none ∧ said t = [[0x00, 0x43]] := by decide +kernel
theorem test_satSetupHoldAuto : (after (.satSetupHoldAuto ctl 1) up).sat.holdAuto = true ∧
    said (after (.satSetupHoldAuto ctl 2) up) = [[0x13]] := by decide +kernel
theorem test_satSetupRefresh : (after (.satSetupRefresh ctl 1) up).sat.refresh = true := by decide +kernel
theorem test_satSetupHide : (satOf (after (.satSetupHide ctl 7 1) up) 7).hidden = true ∧
    said (after (.satSetupHide ctl 8 1) up) = [[0x13]] := by decide +kernel

/-! ## Links, panic, setup values (R169 to R186) -/

theorem test_linkGapTimeout : (linkOf (after (.linkGapTimeout 0 [0x5A, 4, 0x13] [0x5A]) up) 0).rx = ⟨.length, 0, []⟩ := by
  decide +kernel
theorem test_framingError : (linkOf (after (.framingError 0 [0x5A, 4, 0x13]) up) 0).rx = rxHunt := by decide +kernel
theorem test_checkByteFailure : (linkOf (after (.checkByteFailure 0 [0x5A, 1, 1, 0xFF]) up) 0).rx = rxHunt := by decide +kernel
theorem test_invalidLengthByte : (linkOf (after (.invalidLengthByte 0 251) (onRx 0 (fun _ => ⟨.length, 0, []⟩) up)) 0).rx = rxHunt := by
  decide +kernel
theorem test_unknownKind : said (after (.unknownKind 3 0x39) up) = [[0x13, 0x39]] := by decide +kernel
theorem test_linkBreak : let t := (after (.linkBreak 3) (onLinkAt 3 (fun l => { l with outstanding := some ⟨0x0D, false⟩ }) up));
    (linkOf t 3).outstanding = some ⟨0x0D, true⟩ ∧ (linkOf t 3).rx.st = .waitHigh := by decide +kernel
theorem test_breakLineHigh : (linkOf (after (.breakLineHigh 3) (onRx 3 (fun _ => ⟨.waitHigh, 0, []⟩) up)) 3).rx = rxHunt := by
  decide +kernel
theorem test_transmitEnd : let t := (after (.transmitEnd 3) (onLinkAt 3 (fun l => { l with
      tx := some ⟨.plain, ⟨0x81, []⟩⟩, flags := 0x0240 }) up));
    ((linkOf t 3).tx.map (·.pkt.kind)) = some 0xC6 ∧ (linkOf t 3).flags = 0x0200 := by decide +kernel
/-- R191: a notice waits until BOOTING has loaded the masks. -/
theorem test_transmitEnd_booting : let t := (after (.transmitEnd 3) { onLinkAt 3 (fun l => { l with
      tx := some ⟨.plain, ⟨0x81, []⟩⟩, flags := 0x0040 }) up with startup := { up.startup with phase := .booting } });
    (linkOf t 3).tx = none ∧ (linkOf t 3).flags = 0x0040 := by decide +kernel

theorem test_identify : said (after (.identify ctl) up) = [[0x00, 0x00, 0x40, 0x01, 3, 3, 3, 3]] := by decide +kernel
theorem test_getStatus : said (after (.getStatus ctl) up) =
    [[0x00, 3, 0, 0, 0, 0, 0, 0, 0, 0, 0, 0, 0, 1, 1, 0x04, 0xB0, 0, 0]] := by decide +kernel
theorem test_linkStatus : (said (after (.linkStatus ctl) up)).map (·.take 7) = [[0x00, 1, 1, 0, 0, 0x04, 0x0D]] := by decide +kernel
theorem test_subscribe : let t := (after (.subscribe ctl 0xFFFF) up);
    (linkOf t 3).seat.mask = 0x077D ∧ said t = [[0x00, 0x07, 0x7D]] := by decide +kernel
theorem test_areaStatus : (said (after (.areaStatus ctl) (uploading 512 false true))).map (·.take 7) = [[0x00, 3, 3, 0, 0, 2, 0]] := by
  decide +kernel
theorem test_mapStatus : (said (after (.mapStatus ctl) up)).map (·.length) = [34] := by decide +kernel
theorem test_bufferStatus : (said (after (.bufferStatus ctl) up)).map (·.take 3) = [[0x00, 0, 0]] := by decide +kernel
theorem test_switchStatus : (said (after (.switchStatus ctl) up)).map (·.take 2) = [[0x00, 0]] ∧
    (after (.switchStatus ctl) up).freeCount = 1 := by decide +kernel
theorem test_tunerStatus : (said (after (.tunerStatus ctl) up)).map (·.take 3) = [[0x00, 0, 0]] := by decide +kernel
theorem test_showStatus : (said (after (.showStatus ctl) (show23 .held))).map (·.headD 9) = [0x00] := by decide +kernel
theorem test_cueList : said (after (.cueList ctl 0) (onClk (fun c => { c with cues := [cue24 .stop] }) up)) =
    [[0x00, 1, 1, 0, 0, 2, 4, 4, 0, 0, 0, 0, 0, 0, 0xFF]] := by decide +kernel
theorem test_satStatus : (said (after (.satStatus ctl 255) up)).map (·.length) = [63] ∧
    (said (after (.satStatus ctl 7) up)).map (·.length) = [96] ∧ said (after (.satStatus ctl 8) up) = [[0x13]] := by decide +kernel
theorem test_panic : let t := (after (.panic ctl) (show23 .running));
    t.link.panic = true ∧ t.tone.holders.panic = true ∧ t.tone.changes = [.muteFall, .cutAll] ∧ t.clk.transport = .held := by
  decide +kernel
theorem test_unpanic : let t := (after (.unpanic ctl) { up with
      link := { up.link with panic := true }, tone := { up.tone with holders := ⟨false, true, false, false⟩ } });
    t.link.panic = false ∧ t.tone.changes = [.muteRise 16] ∧ said t = [[0x00, 0]] := by decide +kernel
theorem test_seatSet : (linkOf (after (.seatSet ctl 0 ⟨2, 3, 2, 1, 0xFFFF⟩) up) 0).seat = ⟨2, 3, .m3, true, 0x077D⟩ ∧
    said (after (.seatSet ctl 3 ⟨2, 3, 2, 1, 0⟩) up) = [[0x42]] := by decide +kernel
theorem test_accessSet : (after (.accessSet ctl 18 0) up).link.access.getD 18 9 = 0 ∧
    said (after (.accessSet ctl 19 0) up) = [[0x13]] := by decide +kernel
theorem test_setupSetMasterLevel : let t := (after (.setupSetMasterLevel ctl 32769) up);
    t.link.masterLevel = 32768 ∧ t.tone.changes = [.gainTarget .master 32768 16] ∧ said t = [[0x01]] := by decide +kernel
theorem test_setupSetStartPreset : (after (.setupSetStartPreset ctl 127 3) up).link.startPreset = 127 ∧
    said (after (.setupSetStartPreset ctl 128 0) up) = [[0x13]] := by decide +kernel
theorem test_restart : (linkOf (after (.restart ctl) up) 3).places = [⟨.restart, ⟨0xB5, [0]⟩⟩] := by decide +kernel

/-! ## Controls and edits (R57 to R68, R80 to R88) -/

/-- A map of one entry on source 3 with an ascending curve over the chain's first parameter. -/
def mapped : State := onScene (fun c => { c with driven := [0] })
  (onRecord (fun r => { r with map := [⟨3, .param 0 0, [0, 100, 200, 300, 400, 500, 600, 700, 800]⟩] }) up)

theorem test_control : let t := (after (.control ctl 3 2000) mapped);
    t.scene.controls.getD 3 0 = 1023 ∧ t.scene.driven = [799] ∧ t.tone.changes = [.param 0 0 799] := by decide +kernel
theorem test_control_dropped : after (.control ctl 16 5) up = up ∧ after (.control ctl 3 0) up = up := by decide +kernel
theorem test_setParam : let t := (after (.setParam ctl 0 0 0 0 32769) (onRecord (fun r => { r with chain := [{ defaultSlot .volume .plain .cut with params := [5] }] }) up));
    (t.scene.buffer.record.map fun r => r.chain.map (·.params)) = some [[32768]] ∧ t.tone.changes = [.param 0 0 32768] ∧
      said t = [[0x01]] ∧ t.scene.buffer.seq = 2 := by decide +kernel
theorem test_setParam_stale : said (after (.setParam ctl 1 0 0 0 0) up) = [[0x14]] ∧
    said (after (.setParam ctl 0 0 0 1 0) up) = [[0x13]] := by decide +kernel
theorem test_sceneEditSetOverride : let t := (after (.sceneEditSetOverride ctl 0 0 ⟨0, 0, 0⟩ 7) up);
    (t.scene.buffer.record.map fun r => r.scenes.map (·.overrides)) = some [[⟨.param 0 0, 7⟩]] ∧ t.tone.changes = [.param 0 0 7] := by
  decide +kernel
theorem test_sceneEditRemoveOverride : let t := (after (.sceneEditRemoveOverride ctl 0 0 ⟨0, 0, 0⟩)
      (onSceneAt 0 (fun c => { c with overrides := [⟨.param 0 0, 7⟩] }) up));
    (t.scene.buffer.record.map fun r => r.scenes.map (·.overrides)) = some [[]] ∧ t.tone.changes = [.param 0 0 32768] := by decide +kernel
theorem test_sceneEditSetLevel : let t := (after (.sceneEditSetLevel ctl 0 0 32769) (onSceneAt 0 (fun c => { c with level := 9 }) up));
    t.tone.changes = [.gainTarget .chain 32768 8] ∧ t.sw.level = 32768 ∧ said t = [[0x01]] := by decide +kernel
theorem test_sceneEditSetRamp : (((after (.sceneEditSetRamp ctl 0 0 0) up).scene.buffer.record).map fun r => r.scenes.map (·.ramp)) =
    some [1] := by decide +kernel
theorem test_sceneEditSetName : (((after (.sceneEditSetName ctl 0 0 [0x42, 0x63, 0, 0, 0, 0, 0, 0]) up).scene.buffer.record).map
    fun r => r.scenes.map (·.name)) = some [[0x42, 0x63]] ∧
    said (after (.sceneEditSetName ctl 0 0 [0, 0, 0, 0, 0, 0, 0, 0]) up) = [[0x13]] := by decide +kernel
theorem test_sceneEditAdd : (((after (.sceneEditAdd ctl 0 0) up).scene.buffer.record).map fun r => r.scenes.length) = some 2 ∧
    said (after (.sceneEditAdd ctl 0 1) up) = [[0x13]] := by decide +kernel
theorem test_sceneEditRemove : (((after (.sceneEditRemove ctl 0 1) twoScenes).scene.buffer.record).map fun r => r.scenes.length) = some 1 ∧
    said (after (.sceneEditRemove ctl 0 0) twoScenes) = [[0x13]] := by decide +kernel
theorem test_presetEditName : (((after (.presetEditName ctl 0 (List.replicate 16 0x7E)) up).scene.buffer.record).map (·.name)) =
    some (List.replicate 16 0x7E) := by decide +kernel
theorem test_presetEditFadeOut : (((after (.presetEditFadeOut ctl 0 65) up).scene.buffer.record).map (·.fadeOut)) = some 64 := by
  decide +kernel
theorem test_presetEditFadeIn : (((after (.presetEditFadeIn ctl 0 0) up).scene.buffer.record).map (·.fadeIn)) = some 1 := by
  decide +kernel
theorem test_presetEditTempo : (((after (.presetEditTempo ctl 0 299) up).scene.buffer.record).map (·.tempo)) = some (some 300) ∧
    (((after (.presetEditTempo ctl 0 0) up).scene.buffer.record).map (·.tempo)) = some none := by decide +kernel
theorem test_ampDataShaperRun : (((after (.ampDataShaperRun ctl 0 0 31 [5, 6]) ampChain).scene.buffer.record).map
    fun r => r.chain.map fun x => x.table.drop 30) = some [[28672, 5, 6]] ∧
    said (after (.ampDataShaperRun ctl 0 0 32 [5, 6]) ampChain) = [[0x13]] := by decide +kernel
theorem test_ampDataToneSet : (((after (.ampDataToneSet ctl 0 0 2 4 1 2 3 4 5) ampChain).scene.buffer.record).map
    fun r => r.chain.map fun x => x.sets.getLast?) = some [some ⟨1, 2, 3, 4, 5⟩] := by decide +kernel
theorem test_satImageSet : let t := (after (.satImageSet ctl 0 7 15 255) (withSat 7 .inStep noMark));
    (t.scene.buffer.record.map (·.images)) = some [⟨7, [(15, 255)]⟩] ∧ (satOf t 7).desired.getD 15 0 = 255 ∧
      (satOf t 7).state = .behind := by decide +kernel
theorem test_satImageClear : let t := (after (.satImageClear ctl 0 7 15) (onRecord (fun r => { r with images := [⟨7, [(15, 255)]⟩] }) up));
    (t.scene.buffer.record.map (·.images)) = some [] ∧ said (after (.satImageClear ctl 0 7 15) up) = [[0x13]] := by decide +kernel
theorem test_mapEditAdd : let t := (after (.mapEditAdd ctl 0 ⟨15, ⟨2, 0, 0⟩, List.replicate 9 32769⟩) up);
    (t.scene.buffer.record.map (·.map)) = some [⟨15, .level, List.replicate 9 32768⟩] ∧ t.scene.driven = [32768] ∧
      t.tone.changes = [.gainTarget .chain 32768 8] ∧ said t = [[0x01]] := by decide +kernel
theorem test_mapEditReplace : (after (.mapEditReplace ctl 0 0 ⟨3, ⟨0, 0, 0⟩, List.replicate 9 500⟩) mapped).scene.driven = [500] ∧
    said (after (.mapEditReplace ctl 0 1 ⟨3, ⟨0, 0, 0⟩, List.replicate 9 500⟩) mapped) = [[0x13]] := by decide +kernel
theorem test_mapEditRemove : let t := (after (.mapEditRemove ctl 0 0) mapped);
    (t.scene.buffer.record.map (·.map)) = some [] ∧ t.tone.changes = [.param 0 0 32768] := by decide +kernel

/-- The chain and the targets of 5.8, its tone and delay values at their defaults. -/
def chain58 : State := onScene (fun c => { c with driven := [0, 0, 0] }) (onRecord (fun r => { r with
  chain := [defaultSlot .gate .plain .cut, defaultSlot .amp .plain .cut, defaultSlot .cab .taps512 .cut,
    defaultSlot .delay .short .keep, defaultSlot .reverb .plain .keep, defaultSlot .volume .plain .cut]
  scenes := [⟨[0x41], 32768, 8, [⟨.param 3 4, 20000⟩, ⟨.bypass 4, 1⟩]⟩]
  map := [⟨0, .param 1 0, List.replicate 9 0⟩, ⟨0, .bypass 4, List.replicate 9 0⟩, ⟨0, .param 3 3, List.replicate 9 0⟩] }) up)

/-- 5.8: INSERT at 2, type MOD, and its renumbering. -/
theorem test_chainEditInsert : let t := (after (.chainEditInsert ctl 0 2 5 0 0) chain58);
    (t.scene.buffer.record.map fun r => r.map.map (·.target)) = some [.param 1 0, .bypass 5, .param 4 3] ∧
      (t.scene.buffer.record.map fun r => r.scenes.map fun c => c.overrides.map (·.target)) = some [[.param 4 4, .bypass 5]] ∧
      t.scene.posMap = some [some 0, some 1, none, some 2, some 3, some 4, some 5] ∧
      (t.scene.buffer.record.map fun r => chainCost r.chain) = some 620 ∧ engine t = some .fadingOut := by decide +kernel
/-- 5.8's deletion, on the chain before the insertion. -/
theorem test_chainEditRemove : let t := (after (.chainEditRemove ctl 0 4) chain58);
    (t.scene.buffer.record.map fun r => r.map.map (·.target)) = some [.param 1 0, .param 3 3] ∧
      (t.scene.buffer.record.map fun r => r.scenes.map fun c => c.overrides) = some [[⟨.param 3 4, 20000⟩]] ∧
      (t.scene.buffer.record.map fun r => chainCost r.chain) = some 350 := by decide +kernel
theorem test_chainEditMove : (((after (.chainEditMove ctl 0 3 1) chain58).scene.buffer.record).map
    fun r => r.chain.map (·.stype)) = some [.gate, .delay, .amp, .cab, .reverb, .volume] := by decide +kernel
theorem test_chainEditRetype : (((after (.chainEditRetype ctl 0 4 9 0 0) chain58).scene.buffer.record).map
    fun r => r.map.map (·.target)) = some [.param 1 0, .bypass 4, .param 3 3] := by decide +kernel
theorem test_chainEditSetClass : let t := (after (.chainEditSetClass ctl 0 3 1) chain58);
    (t.scene.buffer.record.map fun r => r.chain.map (·.lclass)) = some [.plain, .plain, .taps512, .long, .plain, .plain] ∧
      said (after (.chainEditSetClass ctl 0 0 0) chain58) = [[0x13]] := by decide +kernel
theorem test_chainEditSetPolicy : said (after (.chainEditSetPolicy ctl 0 0 1) chain58) = [[0x13]] ∧
    said (after (.chainEditSetPolicy ctl 0 3 0) chain58) = [[0x00]] := by decide +kernel
theorem test_chainEditRebuild : said (after (.chainEditRebuild ctl 0) (inFlight .ramping .scene none)) = [[0x10]] ∧
    (after (.chainEditRebuild ctl 0) up).sw.outcomes[3]? = some ⟨some 0, some 0, .taken⟩ := by decide +kernel

/-- R110: a REBUILD that needs the areas of which the first load's lines are still incoming is not failed. -/
theorem test_chainEditRebuild_incoming :
    let s := onArea (fun m => { m with areas := List.replicate 32 (.line (.incoming 0) true false) })
      (withChain [defaultSlot .reverb .plain .cut]);
    said (after (.chainEditRebuild ctl 0) s) = [[0x00]] ∧ engine (after (.chainEditRebuild ctl 0) s) = some .fadingOut := by
  decide +kernel

/-! ## Witnesses: for each statement with hypotheses, states and operands that meet them -/

/-- `Ready` as a test of a concrete state. -/
def readyB (p : Pkt) (cls : Nat) (s : State) : Bool :=
  live s && p.form == .exact && (prelude s).link.links.length == 4 && (linkOf (prelude s) p.link).rx.st != .waitHigh
    && (linkOf (prelude s) p.link).outstanding == none && running (prelude s)
    && decide (classTier (prelude s) cls ≤ (linkOf (prelude s) p.link).seat.tier)

theorem ready_of {p : Pkt} {cls : Nat} {s : State} (h : readyB p cls s = true) : Ready p cls s := by
  simp only [readyB, Bool.and_eq_true, beq_iff_eq, bne_iff_ne, decide_eq_true_eq] at h
  exact ⟨h.1.1.1.1.1.1, h.1.1.1.1.1.2, h.1.1.1.1.2, h.1.1.1.2, h.1.1.2, h.1.2, h.2⟩

/-- `Ready` of each state of a list. -/
theorem ready_all {p : Pkt} {cls : Nat} {l : List State} (h : l.all (readyB p cls) = true) : ∀ s ∈ l, Ready p cls s :=
  fun s hs => ready_of (List.all_eq_true.mp h s hs)

/-- `Taken` as a test of each state of a list. -/
theorem taken_all {p : Pkt} {l : List State} (h : (l.all fun s => live s && decide (p.form = .exact) &&
    (linkOf (prelude s) p.link).rx.st != .waitHigh && running (prelude s) &&
    decide (classTier (prelude s) 4 ≤ (linkOf (prelude s) p.link).seat.tier)) = true) : ∀ s ∈ l, Taken p s := by
  intro s hs
  have := List.all_eq_true.mp h s hs
  simp only [Bool.and_eq_true, bne_iff_ne, decide_eq_true_eq] at this
  exact ⟨this.1.1.1.1, this.1.1.1.2, this.1.1.2, this.1.2, this.2⟩

/-- `EditReady` as a test of a concrete state. -/
theorem edit_of {p : Pkt} {cls e : Nat} {r : Record} {s : State}
    (h : (readyB p cls s && decide (presetOf e = (prelude s).scene.buffer.preset) &&
      decide ((prelude s).scene.buffer.record = some r)) = true) : EditReady p cls e r s := by
  simp only [Bool.and_eq_true, decide_eq_true_eq] at h
  exact ⟨ready_of h.1.1, h.1.2, h.2⟩

theorem witness_ready_every_class : ∀ cls ∈ List.range 21, Ready ctl cls up := by
  intro cls h
  have : (List.range 21).all (fun c => readyB ctl c up) = true := by decide +kernel
  exact ready_of (List.all_eq_true.mp this cls h)

theorem witness_taken : Taken ctl up := ⟨by decide +kernel, rfl, by decide +kernel, by decide +kernel, by decide +kernel⟩

theorem witness_StepRunsFrontCommand : ({ up with pending := [.powerOn, .powerLoss] } : State).pending = [.powerOn, .powerLoss] := rfl

theorem witness_IdleAndDeadPartsStay : up.pending = [] ∧ live up = true ∧ State.reset.pending = [] ∧
    live { up with startup := { up.startup with powered := false } } = false ∧
    (Instr.tclkPulse ≠ .powerOn ∧ Instr.tclkPulse ≠ .resetRelease ∧ Instr.tclkPulse ≠ .powerLoss) ∧
    live { up with startup := { up.startup with resetHeld := true } } = false := by decide +kernel

theorem witness_ExecKeepsQueue : exec .powerOn up = .next (after .powerOn up) := rfl

theorem witness_EveryCommandAnswersNext : fullFrame (frame 31 0) = false ∧ fullFrame (frame 33 0) = false ∧
    fullFrame (frame 32 8388607) = true := by decide +kernel

/-- A busy link, its BUSY place empty or full; start-up; a seat below the class; a wrong length. -/
theorem witness_RequestsMeetTheChecksInOrder :
    let c := Instr.switch ctl 127 3 7
    let out := onLinkAt 3 (fun l => { l with outstanding := some ⟨0x0D, false⟩ }) up
    let full := onLinkAt 3 (fun l => { l with
      outstanding := some ⟨0x0D, false⟩, tx := some ⟨.plain, ⟨0x81, []⟩⟩, places := [⟨.busy, ⟨0x80, [0x10, 1]⟩⟩] }) up
    let boot := { up with startup := { up.startup with phase := .images } }
    pktOf c = some ctl ∧ encodeRequest c = some (0x0F, [127, 3, 7]) ∧ live up = true ∧
    (linkOf (prelude out) 3).outstanding = some ⟨0x0D, false⟩ ∧ (linkOf (prelude out) 3).places = [] ∧
    (linkOf (prelude full) 3).places = [⟨.busy, ⟨0x80, [0x10, 1]⟩⟩] ∧ (linkOf (prelude full) 3).rx.st = .hunt ∧
    running (prelude boot) = false ∧ (linkOf (prelude boot) 3).outstanding = none ∧
    pktOf (.restart ⟨2, .exact⟩) = some ⟨2, .exact⟩ ∧ (linkOf (prelude up) 2).seat.tier < classTier (prelude up) (requestClass 0x35) ∧
    pktOf (.switch ⟨3, .badLength⟩ 0 0 0) = some ⟨3, .badLength⟩ ∧
    classTier (prelude up) (requestClass 0x0F) ≤ (linkOf (prelude up) 3).seat.tier := by decide +kernel

theorem witness_PacketsDecodeToTheirRequest : (Instr.control ctl 255 65535).wf = true ∧ pktOf (.control ctl 255 65535) = some ctl ∧
    wireOf (.control ctl 255 65535) = some [0x5A, 4, 0x13, 255, 255, 255, 0xEC] ∧ (Instr.unknownKind 0 0).wf = true ∧
    (Instr.unknownKind 0 0x39).wf = true ∧ (Instr.unknownKind 0 255).wf = true ∧
    ((byte 1 :: [(1 : Byte)] ++ [0]).foldl (· + ·) (0 : Byte)) ≠ 0 := by decide +kernel

/-- A silent and a sending transmitter; a packet with any payload; ten low levels. -/
theorem witness_PacketsDecodeToTheirRequest_levels : (Instr.unknownKind 0 255).wf = true ∧ (List.replicate 249 (0 : Byte)).length ≤ 249 ∧
    (linkOf up 3).tx = none ∧ (linkOf (onLinkAt 3 (fun l => { l with tx := some ⟨.plain, ⟨0x81, []⟩⟩ }) up) 3).tx =
      some ⟨.plain, ⟨0x81, []⟩⟩ ∧ 10 ≤ 10 ∧ 0 < 8 ∧ 7 < 8 := by decide +kernel

theorem witness_invariants : dramOk up = true ∧ seatInv up = true ∧ satInv up = true ∧ stashInv up = true ∧ controlInv up = true ∧
    (∃ t, step up = .next t) ∧ ∃ t, step { up with pending := [.powerOn] } = .next t :=
  ⟨rfl, by decide +kernel, by decide +kernel, by decide +kernel, by decide +kernel, ⟨_, rfl⟩, ⟨_, rfl⟩⟩

/-! ### Start-up -/

/-- An operation in flight, the lengths 9 and 10 µs, RESET_N held and not, supply and none. -/
theorem witness_SupplyAndResetEnterStartup :
    (starting .running (.presetStore (some 3) 127 fallbackRecord 1)).store.op = some (.presetStore (some 3) 127 fallbackRecord 1) ∧
    (starting .running (.presetErase none 0)).store.op = some (.presetErase none 0) ∧
    (starting .running (.imageStore none 15 0 256 [])).store.op = some (.imageStore none 15 0 256 []) ∧
    (starting .running (.setupStore none Setup.factory)).store.op = some (.setupStore none Setup.factory) ∧
    (starting .running (.presetRead (.link 0 0) 1)).store.op = some (.presetRead (.link 0 0) 1) ∧
    (starting .booting (.startRead .setup)).store.op = some (.startRead .setup) ∧ up.store.op = none ∧
    up.startup.powered = true ∧ up.startup.resetHeld = false ∧ 10 ≤ 10 ∧ 9 < 10 := by decide +kernel

/-- RESET_N low and high, each with supply and without. -/
theorem witness_SupplyAndResetEnterStartup_pin : ∀ b ∈ [true, false], ∀ c ∈ [true, false],
    let s : State := { up with startup := { up.startup with powered := b, resetHeld := c } }
    s.startup.powered = b ∧ s.startup.resetHeld = c ∧ s.store.op = none := by decide +kernel

theorem witness_RestartFollowsItsReply : Ready ctl 18 up ∧
    (let s := onLinkAt 3 (fun x => { x with tx := some ⟨.restart, ⟨0xB5, [0]⟩⟩ }) up
     live s = true ∧ (linkOf (prelude s) 3).tx = some ⟨.restart, ⟨0xB5, [0]⟩⟩) ∧
    (let s := starting .running (.presetErase (some 1) 127)
     live { s with startup := { s.startup with restartDue := true } } = true ∧ s.startup.restartDue = false) :=
  ⟨ready_of (by decide +kernel), by decide +kernel, by decide +kernel⟩

theorem witness_BootingTakesTheSetup :
    let s := starting .booting (.startRead .setup)
    let t := onStore (fun c => { c with
      setup := .good Setup.factory
      images := (c.images.set 0 .bad).set 15 (.good 256 [1]) }) s
    (prelude s).store.op = some (.startRead .setup) ∧ (prelude s).store.setup = .absent ∧ live s = true ∧
    (prelude t).store.op = some (.startRead .setup) ∧ (prelude t).store.setup = .good Setup.factory ∧
    (prelude t).link.links.length = 4 ∧ Setup.factory.seats.length = 4 ∧ Setup.factory.access.length = 21 ∧
    (prelude t).area.failed.length = 16 ∧ Setup.factory.imageMask.getD 15 false = true ∧ (prelude t).area.areas[0]? = some .free ∧
    (prelude t).store.images.getD 15 .absent = .good 256 [1] ∧ (prelude t).store.images.getD 0 .absent = .bad ∧
    (prelude up).store.op = none := by decide +kernel

theorem witness_ImageCopyTakesAnArea :
    let s := onArea (fun m => { m with areas := (m.areas.set 0 (.image none 512 1)).set 1 (.image (some 2) 256 0) })
      (onStore (fun c => { c with images := (c.images.set 2 (.good 256 [7])).set 15 (.good 256 [8]) })
        (starting .images (.startRead (.image 2))))
    live s = true ∧ (prelude s).store.op = some (.startRead (.image 2)) ∧ (prelude s).store.images.getD 2 .absent = .good 256 [7] ∧
    (prelude s).area.areas[0]? = some (.image none 512 1) ∧ (prelude s).area.areas[1]? = some (.image (some 2) 256 0) ∧
    (prelude s).area.areas[2]? = some .free ∧
    (prelude s).store.images.getD 15 .absent = .good 256 [8] ∧ (prelude s).area.mask.getD 15 false = true := by decide +kernel

theorem witness_FirstLoadReachesRunning :
    let s := onTone (fun x => { x with holders := ⟨false, false, true, false⟩ }) (starting .firstLoad (.startRead (.preset 127)))
    let place : LibPlace := ⟨true, some fallbackRecord, checkWord (recordBytes fallbackRecord)⟩
    let t := onStore (fun c => { c with library := c.library.set 127 place }) s
    live s = true ∧ (prelude s).store.op = some (.startRead (.preset 127)) ∧ readPlace (placeOf (prelude s) 127) = none ∧
    chainNeed fallbackRecord.chain = 0 ∧ present (prelude s) = true ∧ (prelude s).tone.holders = ⟨false, false, true, false⟩ ∧
    readPlace (placeOf (prelude t) 127) = some (some fallbackRecord) ∧ chainNeed fallbackRecord.chain ≤ freeAreas (prelude t).area ∧
    0 < chainNeed [defaultSlot .reverb .plain .keep] := by decide +kernel

/-- The start preset's read while the audio clock is lost. -/
theorem witness_FirstLoadReachesRunning_lost :
    let s := { onTone (fun x => { x with holders := ⟨false, false, true, true⟩ }) (starting .firstLoad (.startRead (.preset 0))) with
      mon := lost.mon }
    live s = true ∧ (prelude s).store.op = some (.startRead (.preset 0)) ∧ readPlace (placeOf (prelude s) 0) = none ∧
    present (prelude s) = false ∧ (prelude s).tone.holders = ⟨false, false, true, true⟩ ∧ fallbackRecord.tempo = none := by
  decide +kernel

/-- A first load of a record with a tempo and image values, its place in the library VALID; satellite 2 IN_STEP; with the clock
present or lost, the start-up holder alone or beside others, the tempo met by each source and by the lock. -/
def firstLoad (m : ClockMon) (h : Holders) (x : TempoSource) (lock : Bool) : State :=
  let r : Record := { fallbackRecord with tempo := some 900, images := setImage 2 15 9 (setImage 3 0 8 []) }
  let s := onStore (fun c => { c with library := c.library.set 9 ⟨true, some r, checkWord (recordBytes r)⟩ })
    (starting .firstLoad (.startRead (.preset 9)))
  { onSatAt 2 (fun x => { x with state := .inStep }) (onClk (fun c => { c with source := x, lock := lock, taps := [5] })
      (onTone (fun t => { t with holders := h }) s)) with mon := m }

theorem witness_FirstLoadReachesRunning_effects : ∀ s ∈ [firstLoad up.mon ⟨false, false, true, false⟩ .internal false,
      firstLoad up.mon ⟨true, false, true, false⟩ .tap false, firstLoad up.mon ⟨false, false, false, false⟩ .external false,
      firstLoad lost.mon ⟨false, false, true, true⟩ .internal false, firstLoad lost.mon ⟨false, false, true, false⟩ .internal true],
    live s = true ∧ (prelude s).store.op = some (.startRead (.preset 9)) ∧
    ((readPlace (placeOf (prelude s) 9)).map fun r => r.map fun r => (r.tempo, chainNeed r.chain)) = some (some (some 900, 0)) := by
  decide +kernel

/-- What it hands (R114, R191): the rebuild, the level, the rise; URGENT marks; the tempo; SCENE and SATELLITE on the subscribers. -/
theorem test_firstLoad : let t := after .startPresetReadCompletion (firstLoad up.mon ⟨false, false, true, false⟩ .internal false)
    t.startup.phase = .running ∧ t.tone.changes = [.rebuild (effectiveInsts [] t), .gainSet .chain 32768, .muteRise 16] ∧
    (satOf t 2).desired[15]? = some 9 ∧ (satOf t 2).marks[15]? = some .urgent ∧ (satOf t 2).state = .behind ∧
    (satOf t 3).marks[0]? = some .urgent ∧ t.clk.tempo = 900 ∧ (linkOf t 3).flags = noticeBit .scene ||| noticeBit .satellite ∧
    (after .startPresetReadCompletion (firstLoad up.mon ⟨false, false, true, false⟩ .internal true)).clk.tempo = 1200 := by
  decide +kernel

/-! ### Tone Engine and Clock Monitor -/

theorem witness_FrameBoundaryRunsTheFrame : live up = true ∧ fullFrame (frame 32 8388607) = true ∧ present (prelude up) = true ∧
    (prelude up).tone.changes = [] ∧ 32 - (prelude up).tone.framePhase < (((prelude up).clk.countdown + 255) / 256).toNat ∧
    present (prelude lost) = false ∧
    (prelude up).tone.chain = [⟨.volume, some ⟨.volume, .plain, .cut, [.rest 32768], false, .rest 32768, .volume, []⟩⟩] ∧
    (prelude up).tone.lanes = List.replicate 4 Lane.clear := by decide +kernel

/-- A beat inside the frame and at its last sample, a frame partly passed, changes that wait, and EXTERNAL. -/
theorem witness_FrameBoundaryRunsTheFrame_beats :
    let s := fun (n : Int) => onTone (fun t => { t with changes := [.gainTarget .chain 0 8, .muteFall] })
      (onClk (fun c => { c with countdown := n }) up)
    let part := onTone (fun t => { t with framePhase := 31 }) (s 512)
    let ext := onClk (fun c => { c with source := .external }) (s 256)
    (∀ x ∈ [s 256, s 8192], live x = true ∧ present (prelude x) = true ∧ (prelude x).clk.source ≠ .external ∧
      (((prelude x).clk.countdown + 255) / 256).toNat ≤ 32 - (prelude x).tone.framePhase ∧
      present (passToBoundary (32 - (prelude x).tone.framePhase) (prelude x)) = true ∧ (prelude x).tone.changes ≠ []) ∧
    32 - (prelude part).tone.framePhase < (((prelude part).clk.countdown + 255) / 256).toNat ∧ (prelude ext).clk.source = .external ∧
    present (passToBoundary 32 (prelude up)) = true ∧ (passToBoundary 32 (prelude up)).tone.chain = up.tone.chain ∧
    (passToBoundary 32 (prelude up)).tone.lanes = List.replicate 4 Lane.clear ∧ (passToBoundary 32 (prelude up)).tone.changes = [] ∧
    up.tone.mute.cur ≠ 0 ∧ Tone.entry.mute.cur = 0 ∧ Tone.entry.mute.target = 0 := by decide +kernel

/-- An instance of each processing state, its weight at 0 and not. -/
theorem witness_FrameBoundaryRunsTheFrame_steps :
    let of := fun (t : SlotType) (w : Ramp) => { buildInst (defaultSlot t (if t = .delay then .short else if t = .cab then .taps256 else .plain)
      .cut) [] with weight := w }
    (rampStep (⟨9, 0, 1⟩ : Ramp)).cur = 0 ∧ (rampStep (⟨0, 32768, 4⟩ : Ramp)).cur ≠ 0 ∧
    (∃ g k st, (of .gate (.rest 0)).proc = .gate g k st) ∧ (∃ i m h g ph, (of .cab (.rest 0)).proc = .cab i m h g ph) ∧
    (∃ w d n h s f c, (of .delay (.rest 0)).proc = .delay w d n h s f c) ∧ (∃ z n h f, (of .reverb (.rest 0)).proc = .reverb z n h f) ∧
    (of .volume (.rest 0)).proc = .volume :=
  ⟨by decide, by decide, ⟨_, _, _, rfl⟩, ⟨_, _, _, _, _, rfl⟩, ⟨_, _, _, _, _, _, _, rfl⟩, ⟨_, _, _, _, rfl⟩, rfl⟩

/-- A position in each of the forms the statement speaks of. -/
theorem witness_FadesEndAtTheirRest :
    let gate := withProc .gate (.rest 32768) (.gate (.rest 0) 5 .closing) []
    let cab := withProc .cab (.rest 0) (.cab none true [] ⟨9, 0, 1⟩ .falling) [.rest 15]
    let fall := withProc .cab (.rest 32768) (.cab none true [] (.rest 0) .falling) [.rest 0]
    let rise := withProc .cab (.rest 0) (.cab none true [] ⟨9, 32768, 1⟩ .rising) [.rest 0]
    let delay := withProc .delay (.rest 32768) (.delay 7 100 (some 50) (some 60) none (.rest 32768) false) []
    let rev := withProc .reverb (.rest 32768) (.reverb 5 (some 6) (some 7) (.rest 32768)) []
    (∀ s ∈ [gate, cab, fall, rise, delay, rev], live s = true ∧ (s.tone.chain[0]?).isSome = true) ∧
    (instAt cab 0).map (·.weight) = some (.rest 0) ∧ cab.area.table.getD 15 none = none ∧
    (instAt delay 0).map (·.proc) = some (.delay 7 100 (some 50) (some 60) none (.rest 32768) false) := by decide +kernel

/-- Cross-fades in a lane; lengths to take up with and without a running cross-fade and with a held change. -/
theorem witness_FadesEndAtTheirRest_lengths :
    let lane := onTone (fun x => { x with lanes := modAt x.lanes 1 fun l => { l with inst := l.inst.map fun i =>
      { i with proc := .delay 7 100 (some 50) (some 60) none (.rest 32768) false } } }) (withLane .ringing (.rest 32768) 9000 0)
    let i := buildInst (defaultSlot .delay .short .cut) [4]
    let aim := fun (next held : Option Nat) => (match next with | none => 100 | some n => held.getD n)
    live lane = true ∧ (lane.tone.lanes[1]?).bind (fun l => l.inst.map (·.proc)) =
      some (.delay 7 100 (some 50) (some 60) none (.rest 32768) false) ∧
    (parCur i 1 ≠ 1 ∧ some (48 * parCur i 0).toNat = some 48) ∧ 48 ≠ aim none none ∧ 48 ≠ aim (some 50) none ∧
    50 ≠ aim (some 50) (some 60) ∧ parCur { i with params := [.rest 1, .rest 1] } 1 = 1 := by decide +kernel

/-- Parameters and bypass to take up at a VOLUME, an AMP, a COMP, a DELAY, a CAB; at no position; with the clock lost. -/
theorem witness_FadesEndAtTheirRest_takeUp :
    let comp := withProc .comp (.rest 32768) (.comp 0 7 7) [.rest 0, .rest 20, .rest 5, .rest 50, .rest 4096]
    let amp := withProc .amp (.rest 32768) (.amp [] [] [] [] [] 0) []
    let cab := fun (w : Ramp) (ph : ResolvePhase) => withProc .cab w (.cab none true [] (.rest 32768) ph) [.rest 0, .rest 32768]
    (((comp.tone.chain[9]?).bind (·.inst)) = none ∧ (comp.tone.chain[0]?).isSome = true) ∧
    (paramSpecs .comp .plain)[2]?.isSome = true ∧ (paramSpecs .amp .plain)[1]?.isSome = true ∧
    (paramSpecs .delay .short)[1]?.isSome = true ∧ (paramSpecs .reverb .plain)[0]?.isSome = true ∧
    (paramSpecs .cab .plain)[0]?.isSome = true ∧ (paramSpecs .volume .plain)[1]? = none ∧ live amp = true ∧
    (instAt (cab (.rest 32768) .falling) 0).map (·.weight.cur) = some 32768 ∧
    (instAt (cab (.rest 0) .steady) 0).map (·.weight.cur) = some 0 ∧ up.area.table.getD 15 none = none ∧
    (onArea (fun m => { m with areas := m.areas.set 0 (.image (some 0) 256 0), table := m.table.set 0 (some (0, 256)) }) up).area.areas[0]? =
      some (.image (some 0) 256 0) := by decide +kernel

theorem witness_LanesEndByTheirCutFade :
    let r := withLane .ringing (.rest 32768) 32 2048
    let c := withLane .cutting (.rest 0) 0 0
    live r = true ∧ ((prelude r).tone.lanes[1]?).map (fun x => (x.st, x.timer, x.quiet)) = some (.ringing, 32, 2048) ∧
    ((prelude r).tone.lanes[0]?).map (·.st) = some .empty ∧ (c.tone.lanes[1]?).map (fun x => (x.st, x.tail)) = some (.cutting, .rest 0) ∧
    ((prelude (withLane .feeding (.rest 0) 33 2047)).tone.lanes[1]?).map (fun x => (x.st, x.timer, x.quiet)) = some (.feeding, 33, 2047) := by
  decide +kernel

/-- Lines to move, to evict, to cut, to drop and to free; chains to build; lanes at a boundary and their audio. -/
theorem witness_LanesEndByTheirCutFade_life :
    let i := buildInst (defaultSlot .delay .short .keep) [4]
    let s := onTone (fun x => { x with chain := [⟨.delay, some i⟩] })
      (onArea (fun m => { m with areas := m.areas.set 4 (.line (.live 0) true false) }) up)
    let sync := { i with params := i.params.set 1 (.rest 1) }
    let cab := buildInst (defaultSlot .cab .taps256 .cut) []
    s.tone.chain[0]? = some ⟨.delay, some i⟩ ∧ i.stype = .delay ∧ (laneOf s 3).st = .empty ∧ s.tone.lanes.length = 4 ∧
    (laneOf (withLane .feeding (.rest 32768) 9000 0) 1).st = .feeding ∧ (laneOf (withLane .cutting (.rest 0) 0 0) 1).st = .cutting ∧
    s.area.areas[4]? = some (.line (.live 0) true false) ∧ i.areas = [4] ∧ (∀ j ∈ s.tone.chain.filterMap (·.inst), j.stype = .delay) ∧
    parCur i 1 ≠ 1 ∧ parCur sync 1 = 1 ∧ (∃ a c d e f, cab.proc = .cab a c d e f) ∧
    (onArea (fun m => { m with areas := m.areas.set 0 (.image (some 0) 256 0) }) up).area.areas[0]? = some (.image (some 0) 256 0) ∧
    (33 : Int) - 32 = 1 ∧ (32 : Int) - 32 ≤ 0 ∧ (laneOf (withLane .ringing (.rest 32768) 9000 2048) 1).quiet = 2048 ∧
    (Lane.clear.inst = none ∧ Lane.clear.st = .empty) :=
  ⟨rfl, rfl, rfl, rfl, rfl, rfl, rfl, rfl, by decide +kernel, by decide +kernel, by decide +kernel, ⟨_, _, _, _, _, rfl⟩, rfl, rfl,
    by decide, rfl, rfl, rfl⟩

/-- R18: a live DELAY with its line beside a VOLUME, a lane in its cut fade, and the sum before and after its end. -/
theorem test_figures :
    let i := buildInst (defaultSlot .delay .short .keep) [4]
    let s := onTone (fun x => { x with chain := [⟨.delay, some i⟩, ⟨.volume, some (buildInst (defaultSlot .volume .plain .cut) [])⟩] })
      (withLane .cutting (.rest 0) 0 0)
    let f := figures s
    f.live = 45 ∧ f.lanes = [(1, .cutting, 40)] ∧ f.total = 85 ∧ f.liveAreas = [[4], []] ∧ f.laneAreas.length = 4 ∧
    live s = true ∧ (laneOf s 1).tail = .rest 0 ∧ totalCost (after (.cutFadeEnd 1) s) = 45 ∧
    (figures (after (.cutFadeEnd 1) s)).lanes = [] ∧ s.tone.lanes[0]? = some Lane.clear ∧
    totalCost (applyChange false (.move 0 0 16) s) = 85 := by decide +kernel

/-- The request of the switch in flight changed. -/
def withReq (g : SwRequest → SwRequest) : State → State :=
  onSw fun w => { w with inflight := w.inflight.map fun f => { f with req := g f.req } }

/-- The entry that a RECALL in flight copies. -/
def copied9 : StashEntry := ⟨some 9, 0, fallbackRecord, 1⟩

theorem witness_ClockLossAndReturn :
    let ret := { up with mon := ⟨.returning, 511, true⟩ }
    let due := { up with mon := ⟨.returning, 512, true⟩, tone := { up.tone with holders := ⟨true, false, false, true⟩ } }
    live up = true ∧ (prelude up).mon = ⟨.present, 0, true⟩ ∧ (prelude up).tone.changes = [] ∧ (prelude up).sw.inflight = none ∧
    (prelude up).tone.holders.clock = false ∧ (prelude up).tone.lanes.length = 4 ∧ (prelude lost).mon = ⟨.lost, 0, false⟩ ∧
    (prelude ret).mon = ⟨.returning, 511, true⟩ ∧ (prelude up).tone.framePhase < 32 ∧
    (prelude { up with tone := { up.tone with framePhase := 32 } }).tone.framePhase = 32 ∧
    due.mon.clean = 512 ∧ due.tone.holders = ⟨true, false, false, true⟩ ∧ live due = true := by decide +kernel

/-- The loss with a switch in each phase; a change handed in a loss to a VOLUME, a DELAY and a REVERB. -/
theorem witness_ClockLossAndReturn_switch :
    (∀ ph ∈ [Phase.loading, .fadingOut, .fadingIn, .ramping], let s := inFlight ph .preset none
      live s = true ∧ (prelude s).mon = ⟨.present, 0, true⟩ ∧ (prelude s).tone.changes = [] ∧ (prelude s).tone.holders.clock = false ∧
      (prelude s).sw.inflight.map (fun f => (f.phase, f.req.origin, f.req.target)) = some (ph, .link 1, .preset 5 0)) ∧
    present lost = false ∧ (instAt lost 0).map (·.stype) = some .volume ∧
    (let i := buildInst (defaultSlot .delay .short .cut) [4]
     i.lclass = .short ∧ i.params.length = 6 ∧ (i.params.tail.getD 0 (.rest 0)).cur = 0 ∧
     i.proc = .delay 0 0 none none none (.rest 0) false ∧ (48 * 1 : Int).toNat = aimOf 0 (some 48) none ∧
      (48 * 2730 : Int).toNat ≠ aimOf 0 none none) ∧
    (paramSpecs .delay .short)[2]?.isSome = true ∧ (paramSpecs .reverb .plain)[1]?.isSome = true :=
  ⟨by decide +kernel, rfl, rfl, ⟨rfl, rfl, rfl, rfl, by decide +kernel, by decide +kernel⟩, rfl, rfl⟩

/-- The loss with the switch of a cue, its guard 0 and not, its cue in the list and deleted; with a stash copy and a REBUILD. -/
theorem witness_ClockLossAndReturn_origins : ∀ ph ∈ [Phase.fadingIn, .ramping],
    let of := fun (o : Origin) (t : SwTarget) (g : Nat) => withReq (fun r => { r with origin := o, target := t, guard := g })
      (inFlight ph .preset none)
    let listed := onClk (fun c => { c with cues := [cue24 .stop] }) (of (.cue 7) (.preset 5 0) 2000)
    (∀ s ∈ [listed, of (.cue 7) (.preset 5 0) 0, of (.link 3) (.stash copied9) 0, of (.link 0) .rebuild 0],
      live s = true ∧ (prelude s).mon = ⟨.present, 0, true⟩ ∧ (prelude s).tone.changes = [] ∧ (prelude s).tone.lanes.length = 4 ∧
      (prelude s).tone.holders.clock = false ∧ (prelude s).sw.inflight.map (·.phase) = some ph) ∧
    ((prelude listed).sw.inflight.map fun f => (f.req.origin, f.req.guard)) = some (.cue 7, 2000) ∧
    (prelude listed).clk.cues.map (·.tag) = [7] ∧ (prelude (of (.cue 7) (.preset 5 0) 0)).clk.cues = [] := by decide +kernel

/-! ### Areas and the Preset Store -/

theorem witness_LinesJoinAndFill :
    let f : Inflight := ⟨⟨.preset 5 0, false, false, false, .link 1, 2, 0⟩, .preset, .fadingOut, some loaded5, [], [], [], .waiting, [], false⟩
    let s := onSw (fun w => { w with inflight := some f }) up
    let fill := onArea (fun m => { m with areas := m.areas.set 31 (.line (.incoming 0) false true) }) up
    live s = true ∧ s.sw.inflight = some f ∧ chainNeed loaded5.record.chain ≤ freeAreas s.area ∧
    chainNeed [defaultSlot .delay .long .cut] ≤ freeAreas up.area ∧
    (prelude fill).area.areas[31]? = some (.line (.incoming 0) false true) ∧ (prelude fill).startup.phase ≠ .firstLoad ∧
    isFilling (prelude up).area 31 = false ∧
    (let boot := { fill with startup := { fill.startup with
        phase := .firstLoad, joined := [(0, [31])]
        load := some ⟨{ fallbackRecord with chain := [defaultSlot .reverb .plain .cut] }, none, 0, none⟩ } }
     (prelude boot).startup.phase = .firstLoad ∧ joinReady { (prelude boot).area with
       areas := (prelude boot).area.areas.set 31 (.line (.incoming 0) true true) } (prelude boot).startup.joined = true) := by
  decide +kernel

/-- The last fill of a first load with a REVERB: area 31 is its line. -/
def lastFill : State :=
  let s := onTone (fun t => { t with holders := ⟨false, false, true, false⟩ })
    (onArea (fun m => { m with areas := m.areas.set 31 (.line (.incoming 0) false true) }) up)
  { s with startup := { s.startup with
      phase := .firstLoad, joined := [(0, [31])]
      load := some ⟨{ fallbackRecord with chain := [defaultSlot .reverb .plain .cut], tempo := some 900 }, some 9, 0, none⟩ } }

theorem witness_LinesJoinAndFill_firstLoad : ∀ s ∈ [lastFill, { lastFill with mon := lost.mon }],
    live s = true ∧ (prelude s).area.areas[31]? = some (.line (.incoming 0) false true) ∧ (prelude s).startup.phase = .firstLoad ∧
    (prelude s).startup.load.isSome = true ∧ joinReady { (prelude s).area with
      areas := (prelude s).area.areas.set 31 (.line (.incoming 0) true true) } (prelude s).startup.joined = true := by decide +kernel

/-- It hands the rebuild with that area, the level and the rise. -/
theorem test_lastFill : let t := after (.fillCompletion 31) lastFill
    t.startup.phase = .running ∧ t.startup.joined = [] ∧ t.clk.tempo = 900 ∧ t.tone.holders.startup = false ∧
    t.tone.changes = [.rebuild (effectiveInsts [(0, [31])] t), .gainSet .chain 32768, .muteRise 16] ∧
    (effectiveInsts [(0, [31])] t).map (·.areas) = [[31]] := by decide +kernel

/-- No upload; one with words to come, complete, saving, its timer running or not; no FREE area. -/
theorem witness_UploadsRunTheirCourse : Ready ctl 16 up ∧ Ready ctl 16 (uploading 1 false true) ∧ Ready ctl 16 (uploading 0 false true) ∧
    (let y := heard ctl 0x32 (uploading 0 false true)
     y.area.areas[0]? = some (.loading 3 256 0 false true) ∧ (y.area.uploads.getD 3 ⟨none, .none⟩).area = some 0 ∧ storeBusy y = false) ∧
    (heard ctl 0x2F up).sw.reservation = false ∧ (heard ctl 0x2F up).area.areas[0]? = some .free ∧
    (prelude (uploading 0 true false)).area.areas[0]? = some (.loading 3 256 0 true false) ∧
    (∀ x ∈ (heard ctl 0x2F (onArea (fun m => { m with areas := List.replicate 32 (.image none 256 0) }) up)).area.areas, x ≠ .free) :=
  ⟨ready_of (by decide +kernel), ready_of (by decide +kernel), ready_of (by decide +kernel), by decide +kernel, by decide +kernel,
    by decide +kernel, by decide +kernel, by decide +kernel⟩

/-- A library with one good preset, one whose content is no record. -/
def stocked : State := onStore (fun c => { c with
  library := (c.library.set 9 ⟨true, some fallbackRecord, checkWord (recordBytes fallbackRecord)⟩).set 10 ⟨true, none, 0⟩ }) up

/-- A stash of one entry. -/
def stashed : State := onScene (fun c => { c with stash := [⟨some 9, 0, fallbackRecord, 1⟩] }) up

theorem witness_ReadsAreServed : Ready ctl 1 up ∧ Ready ctl 1 stashed ∧ (heard ctl 0x0E stashed).scene.stash.length = 1 ∧
    storeBusy (heard ctl 0x0D up) = false ∧ storeBusy (heard ctl 0x0D (starting .running (.presetErase none 0))) = true ∧
    readPlace (placeOf stocked 9) = some (some fallbackRecord) ∧ readPlace (placeOf stocked 10) = some none ∧
    readPlace (placeOf stocked 127) = none ∧ (recordBytes fallbackRecord).length ≤ 200 * 1 ∧ 200 * 0 < (recordBytes fallbackRecord).length ∧
    (prelude (starting .running (.presetRead (.link 3 0) 9))).store.op = some (.presetRead (.link 3 0) 9) ∧
    (prelude (starting .running (.presetRead (.switch true) 9))).store.op = some (.presetRead (.switch true) 9) ∧
    (onStore (fun c => { c with waitSwitch := some 4 }) up).store.op = none :=
  ⟨ready_of (by decide +kernel), ready_of (by decide +kernel), by decide +kernel⟩

theorem witness_WritesBeginWithTheirSnapshot : Ready ctl 10 up ∧ Ready ctl 10 stashed ∧ Ready ctl 17 up ∧
    Ready ctl 10 (starting .running (.presetErase none 0)) ∧
    (heard ctl 0x1E up).scene.buffer.record = some fallbackRecord ∧ storeBusy (heard ctl 0x1E up) = false ∧
    (heard ctl 0x1E stashed).scene.stash.length = 1 ∧ storeBusy (heard ctl 0x1F (starting .running (.presetErase none 0))) = true :=
  ⟨ready_of (by decide +kernel), ready_of (by decide +kernel), ready_of (by decide +kernel), ready_of (by decide +kernel),
    by decide +kernel⟩

/-- Each write in flight, with the buffer's sequence number 1 stored, or that of the stash entry. -/
theorem witness_WritesComplete :
    let st := starting .running (.presetStore (some 3) 0 fallbackRecord 1)
    let other := onScene (fun c => { c with buffer := { c.buffer with seq := 2 }, stash := [⟨some 9, 0, fallbackRecord, 1⟩] }) st
    (prelude st).store.op = some (.presetStore (some 3) 0 fallbackRecord 1) ∧ (prelude st).scene.buffer.seq = 1 ∧
    (prelude st).scene.buffer.preset = some 0 ∧ (prelude other).scene.buffer.seq ≠ 1 ∧
    (∃ e ∈ (prelude other).scene.stash, e.seq = 1) ∧
    (prelude (starting .running (.presetErase (some 3) 0))).store.op = some (.presetErase (some 3) 0) ∧
    (prelude (starting .running (.imageStore (some 3) 15 0 256 []))).area.table.getD 15 none = none ∧
    (prelude (starting .running (.setupStore (some 3) Setup.factory))).store.op = some (.setupStore (some 3) Setup.factory) := by
  decide +kernel

/-- Each write that a RESTART has overtaken, in BOOTING. -/
theorem witness_WritesComplete_restart :
    (prelude (starting .booting (.presetStore none 127 fallbackRecord 1))).store.op = some (.presetStore none 127 fallbackRecord 1) ∧
    (prelude (starting .booting (.presetErase none 0))).store.op = some (.presetErase none 0) ∧
    (prelude (starting .running (.imageStore none 15 0 256 []))).store.op = some (.imageStore none 15 0 256 []) ∧
    (prelude (starting .booting (.setupStore none Setup.factory))).store.op = some (.setupStore none Setup.factory) ∧
    (prelude up).store.op = none := by decide +kernel

/-! ### The Switch Engine -/

/-- The forms of a SWITCH: idle, another preset, another scene; a guard below and above; in LOADING and past it, with and without a
pending request. -/
theorem witness_SwitchRequestsReachTheArbiter :
    let busy := inFlight .fadingIn .preset none
    let pend := onSw (fun w => { w with pending := some ⟨.preset 7 0, false, false, false, .link 1, 2, 0⟩ }) busy
    let load := { inFlight .loading .preset none with store := { up.store with op := some (.presetRead (.switch false) 5) } }
    let guarded := onSw (fun w => { w with guard := some (4, 500) }) up
    (∀ s ∈ [up, twoScenes, busy, pend, load, guarded], Ready ctl 2 s) ∧ Ready ctl 6 stashed ∧ Ready ctl 7 stashed ∧
    ((heard ctl 0x0F up).sw.inflight = none ∧ (heard ctl 0x0F up).scene.buffer.preset = some 0 ∧ storeBusy (heard ctl 0x0F up) = false) ∧
    ((heard ctl 0x0F busy).sw.inflight.map (·.phase) = some .fadingIn ∧ (heard ctl 0x0F pend).sw.pending.isSome = true ∧
      (heard ctl 0x0F load).store.op = some (.presetRead (.switch false) 5) ∧ (heard ctl 0x0F guarded).sw.guard = some (4, 500)) ∧
    ((heard ctl 0x0F twoScenes).scene.buffer.record.map fun r => (r.scenes.length, r.map.length)) = some (2, 0) ∧
    (live guarded = true ∧ (onSw (fun w => { w with pending := some ⟨.preset 5 0, false, false, false, .link 1, 2, 0⟩ }) up).sw.pending.isSome = true) :=
  ⟨ready_all (by decide +kernel), ready_of (by decide +kernel), ready_of (by decide +kernel), by decide +kernel⟩

/-- Two scenes with overrides of parameters, bypass and satellite registers, one of them driven by an entry; the old scene's
revert to base values and to the image; satellite 2 IN_STEP. -/
def twoLooks : State := onSatAt 2 (fun x => { x with state := .inStep, desired := x.desired.set 3 7 })
  (onScene (fun c => { c with driven := [9] }) (onRecord (fun r => { r with
    chain := [defaultSlot .volume .plain .cut, defaultSlot .gate .plain .cut]
    images := setImage 4 0 3 [], map := [⟨3, .sat 5 5, [0, 0, 0, 0, 0, 0, 0, 0, 0]⟩]
    scenes := [⟨[0x41], 32768, 8, [⟨.param 0 0, 5⟩, ⟨.bypass 1, 1⟩, ⟨.sat 2 3, 7⟩, ⟨.sat 4 0, 9⟩]⟩,
      ⟨[0x42], 16384, 4, [⟨.sat 2 3, 8⟩, ⟨.param 0 0, 6⟩, ⟨.sat 5 5, 1⟩]⟩] }) up))

/-- The Tuner in MUTE under its holder alone. -/
def tuning (s : State) : State := { onTuner (fun t => { t with mode := .mute }) s with tone := { s.tone with holders := ⟨true, false, false, false⟩ } }

theorem witness_SwitchRequestsReachTheArbiter_scene :
    let lostLooks := { twoLooks with mon := lost.mon }
    let levelDriven := onRecord (fun r => { r with map := [⟨3, .level, [0, 0, 0, 0, 0, 0, 0, 0, 0]⟩] }) twoLooks
    let pend := onSw (fun w => { w with pending := some ⟨.preset 0 1, false, true, false, .cue 7, 2, 0⟩ }) twoLooks
    (∀ s ∈ [twoLooks, tuning twoLooks, lostLooks, levelDriven], Ready ctl 2 s) ∧
    ((heard ctl 0x0F twoLooks).sw.inflight = none ∧ (heard ctl 0x0F twoLooks).scene.buffer.preset = some 0 ∧
      (heard ctl 0x0F twoLooks).scene.buffer.scene = 0 ∧ (heard ctl 0x0F (tuning twoLooks)).tuner.mode = .mute ∧
      (2 : Nat).testBit 1 = true ∧ (2 : Nat).testBit 2 = false) ∧
    (live pend = true ∧ pend.sw.inflight = none ∧ (pend.scene.buffer.record.map fun r => r.scenes.length) = some 2) :=
  ⟨ready_all (by decide +kernel), by decide +kernel⟩

/-- What the switch to the second scene hands (R109): the new scene's overrides in order, then the bypass and the register that
revert; URGENT marks, none for the driven register; the level over 4 frames; out of the Tuner, the rise over 16. -/
theorem test_switch_scene : let t := after (.switch ctl 0 1 2) (tuning twoLooks)
    t.tone.changes = [.param 0 0 6, .bypass 1 false, .gainTarget .chain 16384 4, .muteRise 16] ∧ t.scene.buffer.scene = 1 ∧
    ((satOf t 2).desired[3]? = some 8 ∧ (satOf t 2).marks[3]? = some .urgent ∧ (satOf t 2).state = .behind) ∧
    ((satOf t 4).desired[0]? = some 3 ∧ (satOf t 4).marks[0]? = some .urgent) ∧ (satOf t 5).marks = noMark ∧
    t.tuner.mode = .off ∧ t.tone.holders.tuner = false ∧ engine t = some .ramping ∧ t.sw.level = 16384 := by decide +kernel

/-- The request that changes nothing takes the Tuner to OFF too. -/
theorem test_switch_nothing : let t := after (.switch ctl 0 0 2) (tuning twoLooks)
    t.tuner.mode = .off ∧ t.tone.changes = [.muteRise 16] ∧ t.sw.outcomes[3]? = some ⟨some 0, some 0, .done⟩ := by decide +kernel

/-- A RECALL at IDLE with areas enough and too few; DISCARD below tier 2; a guard above. -/
theorem witness_SwitchRequestsReachTheArbiter_recall :
    let e : StashEntry := ⟨some 9, 0, { fallbackRecord with chain := [defaultSlot .reverb .plain .cut] }, 1⟩
    let s := onScene (fun c => { c with stash := [e] }) up
    let full := onArea (fun m => { m with areas := List.replicate 32 (.image none 256 0) }) s
    let low := onLinkAt 3 (fun l => { l with seat := { l.seat with tier := 1 } }) s
    let guarded := onSw (fun w => { w with guard := some (4, 500) }) s
    (∀ x ∈ [s, full, guarded], Ready ctl 6 x) ∧
    ((heard ctl 0x15 s).scene.stash[0]? = some e ∧ (heard ctl 0x15 s).sw.inflight = none ∧ (heard ctl 0x15 s).sw.pending = none ∧
      chainNeed e.record.chain ≤ admissionSum (heard ctl 0x15 s) ∧ admissionSum (heard ctl 0x15 full) < chainNeed e.record.chain ∧
      (1 : Nat).testBit 0 = true ∧ (linkOf (heard ctl 0x15 low) 3).seat.tier < 2 ∧ (heard ctl 0x15 guarded).sw.guard = some (4, 500) ∧
      (linkOf (heard ctl 0x15 guarded) 3).seat.precedence < 4) :=
  ⟨ready_all (by decide +kernel), by decide +kernel⟩

/-- A switch of link 1 or of a cue, listed or deleted, in LOADING, its read running, or waiting behind an erase. -/
def loading (o : Origin) (store : Store) : State :=
  onClk (fun c => { c with cues := [cue24 .stop] }) { withReq (fun r => { r with origin := o }) (inFlight .loading .preset none) with
    store := store }
def readRuns : Store := { up.store with op := some (.presetRead (.switch false) 5) }
def readWaits : Store := { up.store with op := some (.presetErase none 9), waitSwitch := some 5 }

/-- What a SWITCH or RECALL replaces in LOADING: the switch of a link or a cue, its read running or waiting; a pending request of a
cue; a RECALL held back by a guard, one outranked. -/
theorem witness_SwitchRequestsReachTheArbiter_replaced :
    let pend := fun (o : Origin) (pr : Nat) => onSw (fun w => { w with pending := some ⟨.preset 7 0, false, false, false, o, pr, 2000⟩ })
      (onClk (fun c => { c with cues := [cue24 .stop] }) (inFlight .fadingIn .preset none))
    let stock := fun (s : State) => onScene (fun c => { c with stash := [copied9] }) s
    (∀ s ∈ [loading (.link 1) readWaits, loading (.cue 7) readRuns, loading (.cue 8) readWaits, pend (.cue 7) 2], Ready ctl 2 s) ∧
    (∀ s ∈ [stock (loading (.cue 7) readRuns), stock (pend (.cue 7) 2), stock (pend (.link 1) 4)], Ready ctl 6 s) ∧
    ((heard ctl 0x0F (loading (.link 1) readWaits)).store.op = some (.presetErase none 9) ∧
      (heard ctl 0x0F (loading (.link 1) readWaits)).store.waitSwitch = some 5) ∧
    ((heard ctl 0x0F (loading (.cue 7) readRuns)).sw.inflight.map fun f => (f.phase, f.req.origin, f.req.target)) =
      some (.loading, .cue 7, .preset 5 0) ∧
    (heard ctl 0x0F (loading (.cue 7) readRuns)).clk.cues.map (·.tag) = [7] ∧
    ((heard ctl 0x0F (pend (.cue 7) 2)).sw.pending.map fun q => (q.origin, q.precedence)) = some (.cue 7, 2) ∧
    (linkOf (heard ctl 0x0F (pend (.cue 7) 2)) 3).seat.precedence = 3 :=
  ⟨ready_all (by decide +kernel), ready_all (by decide +kernel), by decide +kernel⟩

/-- R99 (the worked case of 6.9) and R97, R149: a waiting read is withdrawn and the new one waits; a cue's switch is SUPERSEDED in
its cue. -/
theorem test_switch_replaces :
    let t := after (.switch ctl 9 0 0) (loading (.link 1) readWaits)
    let u := after (.switch ctl 9 0 0) (loading (.cue 7) readRuns)
    t.store = { readWaits with waitSwitch := some 9 } ∧ t.sw.outcomes[1]? = some ⟨some 5, some 0, .superseded⟩ ∧
    (linkOf t 1).flags &&& noticeBit .switchOutcome = noticeBit .switchOutcome ∧ said t = [[0x00]] ∧
    u.store.op = some (.presetRead (.switch true) 5) ∧ u.store.waitSwitch = some 9 ∧ u.clk.cues.map (·.outcome) = [.superseded] ∧
    (linkOf u 2).flags = noticeBit .cue ∧ u.sw.outcomes[3]? = some ⟨some 9, some 0, .taken⟩ := by decide +kernel

/-- A pending request of a link or a cue, of a stash copy, the present scene, another preset, below an open guard or not. -/
def promoting (o : Origin) (t : SwTarget) (g : Option (Nat × Nat)) : State :=
  onClk (fun c => { c with cues := [cue24 .stop] }) (tuning (onSw (fun w => { w with
    pending := some ⟨t, false, true, false, o, 2, 2000⟩, guard := g }) up))

theorem witness_SwitchRequestsReachTheArbiter_promotion : ∀ o ∈ [Origin.link 1, .cue 7], ∀ t ∈ [SwTarget.preset 0 0, .preset 5 0,
      .stash copied9, .stash { copied9 with record := { fallbackRecord with chain := [defaultSlot .reverb .plain .cut] } }],
    (∀ g ∈ [none, some (2, 9)], live (promoting o t g) = true ∧ (promoting o t g).sw.inflight = none ∧
      (promoting o t g).sw.pending.map (·.target) = some t ∧ t ≠ .rebuild) ∧
    (promoting o t (some (3, 9))).sw.guard = some (3, 9) ∧ (2 : Nat) < 3 := by decide +kernel

/-- What the promotion does: a cue's request that changes nothing leaves the Tuner, is DONE in its cue and opens its window; one below
the guard is GUARDED there; a stash copy enters FADING_OUT, or ends NO_AREA where its lines have no room. -/
theorem test_promotion :
    let t := after .switchPromotion (promoting (.cue 7) (.preset 0 0) none)
    let u := after .switchPromotion (promoting (.cue 7) (.preset 5 0) (some (3, 9)))
    let full := onArea (fun m => { m with areas := List.replicate 32 (.image none 256 0) }) (promoting (.link 1)
      (.stash { copied9 with record := { fallbackRecord with chain := [defaultSlot .reverb .plain .cut] } }) none)
    t.tuner.mode = .off ∧ t.sw.guard = some (2, 2000) ∧ t.clk.cues.map (·.outcome) = [.done] ∧ t.sw.inflight = none ∧
    u.clk.cues.map (·.outcome) = [.guarded] ∧ u.sw.guard = some (3, 9) ∧ u.sw.pending = none ∧ u.tuner.mode = .mute ∧
    engine (after .switchPromotion (promoting (.link 1) (.stash copied9) none)) = some .fadingOut ∧
    (after .switchPromotion full).sw.outcomes[1]? = some ⟨some 9, some 0, .noArea⟩ := by decide +kernel

theorem witness_SwitchesLoadFadeAndComplete :
    let load := onSw (fun w => { w with inflight := w.inflight.map fun f => { f with join := .waiting } })
      { inFlight .loading .preset none with store := { stocked.store with op := some (.presetRead (.switch false) 9) } }
    let rest := onTone (fun x => { x with chainRested := true }) (inFlight .fadingOut .preset (some loaded5))
    let move := onTone (fun x => { x with chainGain := ⟨9, 0, 5⟩ }) (onSw (fun w => { w with
      laneReports := [1], inflight := w.inflight.map fun f => { f with deferred := [0] } }) (inFlight .fadingOut .preset none))
    live load = true ∧ (prelude load).store.op = some (.presetRead (.switch false) 9) ∧
    (prelude load).sw.inflight.map (fun f => (f.req.origin, f.req.target)) = some (.link 1, .preset 5 0) ∧
    readPlace (placeOf (prelude load) 9) = some (some fallbackRecord) ∧ readPlace (placeOf (prelude load) 10) = some none ∧
    readPlace (placeOf (prelude load) 0) = none ∧ chainNeed fallbackRecord.chain = 0 ∧ present (prelude load) = true ∧
    tailCandidates (prelude load) = [] ∧ (prelude load).tone.order = [] ∧
    admissionSum (onArea (fun m => { m with areas := List.replicate 32 (.image none 256 0) }) up) < chainNeed [defaultSlot .delay .short .cut] ∧
    rest.tone.chainRested = true ∧ rest.sw.inflight.map (·.phase) = some .fadingOut ∧ present rest = true ∧
    move.sw.inflight.map (·.deferred) = some [0] ∧ move.tone.chainGain.n ≠ 0 := by decide +kernel

/-- The end of a fade of a cue's switch, its guard 0 and not, its cue listed and deleted, of a RECALL and a REBUILD; the failed load
of a cue's switch. -/
def faded (ph : Phase) (o : Origin) (t : SwTarget) (g : Nat) : State :=
  onClk (fun c => { c with cues := [cue24 .stop] }) (onTone (fun x => { x with chainRested := true })
    (withReq (fun r => { r with origin := o, target := t, guard := g }) (inFlight ph .preset none)))

theorem witness_SwitchesLoadFadeAndComplete_origins :
    (∀ ph ∈ [Phase.fadingIn, .ramping], ∀ s ∈ [faded ph (.cue 7) (.preset 5 0) 2000, faded ph (.cue 7) (.preset 5 0) 0,
        faded ph (.cue 8) (.preset 5 0) 2000, faded ph (.link 3) (.stash copied9) 0, faded ph (.link 0) .rebuild 0],
      live s = true ∧ s.tone.chainRested = true ∧ s.sw.inflight.map (·.phase) = some ph ∧ s.clk.cues.map (·.tag) = [7]) ∧
    (∀ n ∈ [9, 10, 0], let s := loading (.cue 7) { stocked.store with op := some (.presetRead (.switch false) n) }
      live s = true ∧ (prelude s).store.op = some (.presetRead (.switch false) n) ∧
      ((prelude s).sw.inflight.map fun f => (f.req.origin, f.kind)) = some (.cue 7, .preset)) := by decide +kernel

/-- What they do (R95, R97 to R100, R149; log 22). -/
theorem test_completion_origins :
    let t := after .chainGainAtRest (faded .fadingIn (.cue 7) (.preset 5 0) 2000)
    let u := after .chainGainAtRest (faded .ramping (.cue 8) (.preset 5 0) 0)
    let e := fun (n : Nat) => after .presetReadCompletion (loading (.cue 7)
      { stocked.store with op := some (.presetRead (.switch false) n) })
    t.sw.guard = some (2, 2000) ∧ t.clk.cues.map (·.outcome) = [.done] ∧
    (linkOf t 2).flags = noticeBit .scene ||| noticeBit .cue ∧ u.sw.guard = none ∧ u.clk.cues.map (·.outcome) = [.none] ∧
    (linkOf u 2).flags = noticeBit .scene ∧
    (after .chainGainAtRest (faded .fadingIn (.link 3) (.stash copied9) 0)).sw.outcomes[3]? = some ⟨some 9, some 0, .done⟩ ∧
    (after .chainGainAtRest (faded .fadingIn (.link 3) .rebuild 0)).sw.outcomes[3]? = some ⟨some 0, some 0, .done⟩ ∧
    (e 0).clk.cues.map (·.outcome) = [.empty] ∧ (e 10).clk.cues.map (·.outcome) = [.badRecord] ∧ (e 0).sw.guard = none ∧
    (e 0).sw.inflight = none ∧ (linkOf (e 0) 2).flags = noticeBit .scene ||| noticeBit .cue := by decide +kernel

/-- Tails that fit and do not; an area to evict a lane for; the drop while the audio clock is lost. -/
theorem witness_SwitchesLoadFadeAndComplete_tails :
    let i := buildInst (defaultSlot .delay .short .keep) [4]
    let s := onTone (fun x => { x with chain := [⟨.delay, some i⟩] })
      (onArea (fun m => { m with areas := m.areas.set 4 (.line (.live 0) true false) }) (withLane .ringing (.rest 32768) 9000 0))
    let out := { onTone (fun x => { x with chainRested := true }) (inFlight .fadingOut .preset (some loaded5)) with mon := lost.mon }
    tailCandidates s = [0] ∧ emptyLanes s = [0, 2, 3] ∧ tailRoom s 1000 0 [1] [0] = false ∧ tailRoom s 10 0 [1] [0] = true ∧
    evictions s 950 0 [0] = [1] ∧ admitted s 0 0 [] [0] = [0] ∧
    live out = true ∧ out.tone.chainRested = true ∧ present out = false ∧ out.sw.inflight.map (·.phase) = some .fadingOut := by
  decide +kernel

theorem witness_SwapLoadsTheBuffer :
    let s := onBuffer (fun b => { b with dirty := true }) (onSw (fun w => { w with
      inflight := w.inflight.map fun f => { f with dropped := true } }) (inFlight .fadingOut .preset (some loaded5)))
    let full := onScene (fun c => { c with stash := [1, 2, 3, 4].map fun k => ⟨some k, 0, fallbackRecord, 9⟩ }) s
    live s = true ∧ s.sw.inflight.map (fun f => (f.phase, f.dropped, f.evicting, f.join)) = some (.fadingOut, true, [], .complete) ∧
    present s = true ∧ s.sw.inflight.map (fun f => (f.req.exitTuner, f.req.discard, f.kind)) = some (false, false, .preset) ∧
    s.sw.inflight.bind (·.loaded) = some loaded5 ∧ loaded5.stashSeq = none ∧ s.scene.buffer.record = some fallbackRecord ∧
    (full.scene.stash.filter fun e => e.preset != full.scene.buffer.preset).length = 4 ∧
    ((inFlight .fadingOut .rebuild none).sw.inflight.map fun f => (f.kind, f.loaded)) = some (.rebuild, none) := by decide +kernel

/-- A preset switch that may swap, out of the Tuner, to a record with a tempo and image values, taken from the stash; a satellite
IN_STEP and one BEHIND. -/
def swapping : State :=
  let r : Record := { fallbackRecord with tempo := some 900, images := setImage 2 15 9 (setImage 3 0 8 []) }
  onSatAt 2 (fun x => { x with state := .inStep }) (onSatAt 3 (fun x => { x with state := .behind }) (withReq (fun q =>
    { q with exitTuner := true }) (onSw (fun w => { w with inflight := w.inflight.map fun f => { f with dropped := true } })
      (inFlight .fadingOut .preset (some ⟨r, some 5, 0, some 1⟩)))))

/-- The same with the Tuner in a mode under holders, with a tempo source and lock. -/
def swapTuned (m : TunerMode) (h : Holders) : State := onTone (fun t => { t with holders := h }) (onTuner (fun t => { t with mode := m }) swapping)
def swapClocked (x : TempoSource) (l : Bool) : State := onClk (fun c => { c with source := x, lock := l }) swapping

/-- The Tuner in MUTE alone and beside PANIC, in WATCH and OFF; the tempo met by INTERNAL, TAP, EXTERNAL and a lock; the stash. -/
theorem witness_SwapLoadsTheBuffer_effects : ∀ x ∈ [swapping, swapTuned .mute ⟨true, false, false, false⟩,
      swapTuned .mute ⟨true, true, false, false⟩, swapTuned .watch ⟨false, false, false, false⟩, swapClocked .tap false,
      swapClocked .external false, swapClocked .internal true, onScene (fun c => { c with stash := [copied9] }) swapping],
    live x = true ∧ present x = true ∧ (x.sw.inflight.map fun f => (f.phase, f.dropped, f.evicting, f.join)) =
      some (.fadingOut, true, [], .complete) ∧ (x.sw.inflight.map fun f => f.req.exitTuner) = some true := by decide +kernel

/-- What the swap does there to satellites, tempo and Tuner. -/
theorem test_swap_effects : let t := after .swap swapping
    swapping.tuner.mode = .off ∧ swapping.clk.source = .internal ∧ swapping.clk.lock = false ∧
    effective t (.sat 2 15) = some 9 ∧ effective t (.sat 3 0) = some 8 ∧ effective t (.sat 0 0) = none ∧
    (satOf t 2).state = .behind ∧ (satOf t 2).marks[15]? = some .urgent ∧ (satOf t 3).desired[0]? = some 8 ∧ t.clk.tempo = 900 ∧
    (after .swap (swapTuned .mute ⟨true, false, false, false⟩)).tone.changes.getLast? = some (.muteRise 16) := by decide +kernel

/-- A REBUILD's swap with an image value that the satellite's desired value holds already, and one that it does not. -/
theorem witness_SwapLoadsTheBuffer_rebuild :
    let s := onRecord (fun r => { r with images := setImage 2 15 9 (setImage 3 0 8 []) }) (onSatAt 3 (fun x => { x with
      state := .inStep, desired := x.desired.set 0 8 }) (onSw (fun w => { w with inflight := w.inflight.map fun f =>
        { f with dropped := true } }) (inFlight .fadingOut .rebuild none)))
    let t := after .swap s
    live s = true ∧ present s = true ∧ s.scene.buffer.record.isSome = true ∧ effective t (.sat 2 15) = some 9 ∧
    (satOf s 2).desired.getD 15 0 ≠ 9 ∧ (satOf s 3).desired.getD 0 0 = 8 ∧ (satOf t 2).marks[15]? = some .urgent ∧
    (satOf t 3).marks[0]? = some .absent ∧ (satOf t 3).state = .inStep := by decide +kernel

/-- A switch of link 1 that may swap, in a clock loss. -/
def lostSwap (k : SwKind) (l : Option Loaded) (t : SwTarget) : State :=
  { onSw (fun w => { w with inflight := w.inflight.map fun f => { f with dropped := true, req := { f.req with target := t } } })
      (inFlight .fadingOut k l) with mon := lost.mon }

/-- The swap of a link's preset switch, stash copy and REBUILD while the audio clock is lost. -/
theorem witness_SwapLoadsTheBuffer_lost :
    (∀ s ∈ [lostSwap .preset (some loaded5) (.preset 5 0), lostSwap .preset (some ⟨fallbackRecord, some 9, 0, some 1⟩) (.stash copied9),
        lostSwap .rebuild none .rebuild], live s = true ∧ present s = false ∧
      s.sw.inflight.map (fun f => (f.phase, f.dropped, f.evicting, f.join)) = some (.fadingOut, true, [], .complete) ∧
      s.sw.inflight.map (fun f => (f.req.exitTuner, f.req.origin)) = some (false, .link 1) ∧
      s.scene.buffer.record = some fallbackRecord) ∧ fallbackRecord.tempo = none ∧ copied9.preset = some 9 := by decide +kernel

/-- A cue's switch that may swap in the loss, to a record with a tempo, and leaves the Tuner; its cue deleted, or in the list. -/
def lostCue (guard : Nat) : State := withReq (fun r => { r with origin := .cue 7, guard := guard, exitTuner := true })
  (lostSwap .preset (some ⟨{ fallbackRecord with tempo := some 900 }, some 5, 0, none⟩) (.preset 5 0))
def lostCueListed : State := onTuner (fun t => { t with mode := .mute }) (onClk (fun c => { c with cues := [cue24 .stop] }) (lostCue 2000))

theorem witness_SwapLoadsTheBuffer_lostCue :
    (∀ s ∈ [lostCue 0, lostCueListed], live s = true ∧ present s = false ∧
      (s.sw.inflight.map fun f => (f.phase, f.dropped, f.evicting, f.join)) = some (.fadingOut, true, [], .complete) ∧
      (s.sw.inflight.map fun f => (f.kind, f.req.origin)) = some (.preset, .cue 7)) ∧
    (lostCue 0).clk.cues = [] ∧ lostCueListed.clk.cues.map (·.tag) = [7] := by decide +kernel

/-- What that swap does to the guard, the cue's outcome, the Tuner and the tempo. -/
theorem test_swap_lostCue : let t := after .swap lostCueListed
    t.sw.guard = some (2, 2000) ∧ t.clk.cues.map (·.outcome) = [.done] ∧ t.tuner.mode = .off ∧ t.clk.tempo = 900 ∧
    (after .swap (lostCue 0)).sw.guard = none := by decide +kernel

theorem witness_RampsLandOnTheirTarget : (⟨5, 5, 0⟩ : Ramp).n = 0 ∧ 0 < (⟨0, 26214, 4⟩ : Ramp).n ∧
    (rampStep^[2] ⟨0, 26214, 4⟩).cur ≤ 26214 ∧ (0 : Int) ≤ (rampStep^[2] ⟨26214, 0, 8⟩).cur := by decide +kernel

theorem witness_AmpShaperInterpolates :
    let y : List Int := -32768 :: List.replicate 31 0 ++ [32767]
    y.length = 33 ∧ (∀ v ∈ y, -32768 ≤ v ∧ v ≤ 32767) ∧ ((-536870912 + 536870912) / 33554432 : Int).toNat = 0 ∧
    ((536870911 + 536870912) / 33554432 : Int).toNat = 31 := by decide +kernel

/-- The ranges of the other slot types' arithmetic, at their ends. -/
theorem witness_AmpShaperInterpolates_slots :
    dramWf [(0, (7 : Word32)), (524287, 9)] = true ∧ (1 : Nat) < 2 ∧ 10 < 11 ∧ 1 ≤ 2000 ∧ (25 * 4 : Nat) = 100 ∧ (74 < 75 ∧ 75 ≤ 100) ∧
    (⟨0, 4800000⟩ : Frac).num < (⟨0, 4800000⟩ : Frac).den ∧ (2 * 2399999 < 4800000 ∧ 4800000 ≤ 2 * 2400000) ∧ (0 < 511 ∧ 511 < 512) ∧
    (255 < 131072 ∧ 131071 < lineLen [0]) ∧ 262143 < lineLen [0, 1] ∧ (3 : Nat) < 4 ∧ (0 : Nat) < 256 ∧
    ([16384, 0, 0, 0, 0] : List Int).getD (5 * 0) 0 = 16384 ∧ (∀ v ∈ ([-2147483648, 2147483647] : List Int),
      -2147483648 ≤ v ∧ v ≤ 2147483647) := by decide +kernel

/-- A built instance of each type has the processing state of which the statement speaks. -/
theorem witness_AmpShaperInterpolates_types :
    let of := fun (t : SlotType) (c : LengthClass) => buildInst (defaultSlot t c .cut) []
    (∃ g k st, (of .gate .plain).proc = .gate g k st) ∧ (∃ e a r, (of .comp .plain).proc = .comp e a r) ∧
    (∃ t sets co hl hr e, (of .amp .plain).proc = .amp t sets co hl hr e) ∧
    (∃ m h g ph, (of .cab .taps512).proc = .cab none m h g ph) ∧ (∃ hl hr, (of .eq .plain).proc = .eq hl hr) ∧
    (∃ ph buf, (of .mod .plain).proc = .mod ph buf ∧ parCur (of .mod .plain) 3 ≠ 1) ∧
    (∃ w d n h s f c, (of .delay .short).proc = .delay w d n h s f c) ∧ (∃ z n h f, (of .reverb .plain).proc = .reverb z n h f) ∧
    (∃ ret, (of .loop .plain).proc = .loop ret) ∧ (of .volume .plain).proc = .volume ∧ (of .volume .plain).weight.cur = 32768 :=
  ⟨⟨_, _, _, rfl⟩, ⟨_, _, _, rfl⟩, ⟨_, _, _, _, _, _, rfl⟩, ⟨_, _, _, _, rfl⟩, ⟨_, _, rfl⟩, ⟨_, _, rfl, by decide +kernel⟩,
    ⟨_, _, _, _, _, _, _, rfl⟩, ⟨_, _, _, _, rfl⟩, ⟨_, rfl⟩, rfl, rfl⟩

/-! ### Tuner -/

theorem witness_TunerModeTakesTheTable :
    let mute := { onTuner (fun t => { t with mode := .mute }) up with tone := { up.tone with holders := ⟨true, false, false, false⟩ } }
    let both := { mute with tone := { up.tone with holders := ⟨true, true, false, false⟩ } }
    Ready ctl 3 up ∧ Ready ctl 3 mute ∧ Ready ctl 3 both ∧
    tunerModeOf 0 = some .off ∧ tunerModeOf 1 = some .watch ∧ tunerModeOf 2 = some .mute ∧
    (heard ctl 0x10 up).tuner.mode = .off ∧ (heard ctl 0x10 mute).tuner.mode = .mute ∧ present (heard ctl 0x10 mute) = true ∧
    (heard ctl 0x10 up).tone.holders.tuner = false ∧ (heard ctl 0x10 mute).tone.holders = ⟨true, false, false, false⟩ ∧
    anyHolder { (heard ctl 0x10 both).tone.holders with tuner := false } = true :=
  ⟨ready_of (by decide +kernel), ready_of (by decide +kernel), ready_of (by decide +kernel), by decide +kernel⟩

/-- MUTE entered and left while the audio clock is lost. -/
theorem witness_TunerModeTakesTheTable_lost :
    let mute := { onTuner (fun t => { t with mode := .mute }) lost with tone := { lost.tone with holders := ⟨true, false, false, false⟩ } }
    Ready ctl 3 lost ∧ Ready ctl 3 mute ∧ present (heard ctl 0x10 lost) = false ∧ (heard ctl 0x10 lost).tuner.mode = .off ∧
    (heard ctl 0x10 lost).tone.holders.tuner = false ∧ present (heard ctl 0x10 mute) = false ∧ (2 : Nat) < 3 ∧
    (heard ctl 0x10 mute).tuner.mode = .mute ∧ (heard ctl 0x10 mute).tone.holders = ⟨true, false, false, false⟩ :=
  ⟨ready_of (by decide +kernel), ready_of (by decide +kernel), by decide +kernel⟩

theorem witness_TunerSetChangesOneSetting : Ready ctl 3 up ∧ (heard ctl 0x11 up).tuner.sourceB = false ∧
    (heard ctl 0x11 up).tuner.state = .silent ∧
    (heard ctl 0x11 (onTuner (fun t => { t with state := .seeking }) up)).tuner.state = .seeking ∧
    ((heard ctl 0x11 up).tuner.strings.getD 3 []).length = 4 ∧ ((heard ctl 0x11 up).tuner.strings.getD 0 []).length = 6 ∧
    (heard ctl 0x11 (onTuner (fun t => { t with stringSet := some 3 }) up)).tuner.stringSet = some 3 :=
  ⟨ready_of (by decide +kernel), by decide +kernel⟩

theorem witness_TunerTimersExpire :
    let t := fun (b : Bool) (st : DetState) => onTuner (fun t => { t with noSignal := b, publish := b, state := st }) up
    live up = true ∧ (prelude (t true .silent)).tuner.noSignal = true ∧ (prelude (t true .seeking)).tuner.publish = true ∧
    (prelude (t true .seeking)).tuner.state ≠ .silent ∧ (prelude (t false .silent)).tuner.noSignal = false := by decide +kernel

/-- A firing and none; periods at the ends of the range and outside; near, an outlier, the third; a full ring; a string set. -/
theorem witness_TunerTimersExpire_detector :
    let t := fun (o : Nat) (r : List Nat) => { Tuner.entry with mode := .watch, ring := r, outliers := o, prevStamp := some 0 }
    let d : Detector := { xPrev := 0, dPrev := 0, l1 := 0, l2 := -1, armed := true, sPrev := -1 }
    let s6 := (Tuner.entry.strings.getD 0 [])
    (d.armed = true ∧ d.sPrev < 0) ∧ ((8777 : Word32) - 0).toNat = 8777 ∧ ((614400 : Word32) - 0).toNat = 614400 ∧
    ((0 : Word32) - 8776).toNat = 4294958520 ∧ (t 0 []).ring = [] ∧ ringMedian (t 2 [10000]).ring = 10000 ∧
    |(11200 : Int) - 10000| * 100 ≤ 12 * 10000 ∧ ¬ |(11201 : Int) - 10000| * 100 ≤ 12 * 10000 ∧ (t 2 [10000]).outliers = 2 ∧
    (List.replicate 8 10000).length = 8 ∧ s6.length = 6 ∧ Tuner.entry.stringSet = none ∧ 0 < 4300 := by decide +kernel

/-! ### Show Clock -/

/-- A state whose tempo source is `x`. -/
def sourced (x : TempoSource) : State := onClk (fun c => { c with source := x }) up

theorem witness_TempoCommandsAct : Ready ctl 5 (sourced .internal) ∧ Ready ctl 5 (sourced .tap) ∧ Ready ctl 5 (sourced .external) ∧
    Ready ctl 13 up ∧ present (prelude (sourced .tap)) = true ∧ (heard ctl 0x14 (sourced .tap)).clk.source = .tap ∧
    (heard ctl 0x14 (sourced .external)).clk.source = .external ∧ (heard ctl 0x14 (sourced .internal)).clk.source = .internal ∧
    (heard ctl 0x2B up).clk.lock = false :=
  ⟨ready_of (by decide +kernel), ready_of (by decide +kernel), ready_of (by decide +kernel), ready_of (by decide +kernel),
    by decide +kernel⟩

/-- TEMPO_SET while the audio clock is lost, with a synced DELAY live. -/
theorem witness_TempoCommandsAct_lost :
    let i := buildInst { defaultSlot .delay .short .cut with params := [350, 1, 0, 0, 0, 10] } [4]
    let s := { onTone (fun x => { x with chain := [⟨.delay, some i⟩] }) (sourced .tap) with mon := lost.mon }
    Ready ctl 5 s ∧ present (prelude s) = false ∧ (heard ctl 0x14 s).clk.source = .tap ∧ (heard ctl 0x14 s).clk.tempo ≠ 300 ∧
    (heard ctl 0x14 s).tone.chain[0]? = some ⟨.delay, some i⟩ ∧ parCur i 1 = 1 ∧
    (∃ w d n h q f c, i.proc = .delay w d n h q f c) ∧ (heard ctl 0x14 s).clk.handed.getD 0 none = none :=
  ⟨ready_of (by decide +kernel), by decide +kernel, by decide +kernel, by decide +kernel, by decide +kernel, by decide +kernel,
    ⟨_, _, _, _, _, _, _, rfl⟩, by decide +kernel⟩

theorem witness_TapMeasuresTheTempo :
    let s := fun (last : Option (BitVec 32)) (pos : BitVec 32) => onClk (fun c => { c with source := .tap, tapLast := last, pos := pos }) up
    let tapLost := onClk (fun c => { c with source := .tap }) lost
    (∀ x ∈ [up, s none 0, s (some 0xFFFFFFFF) 9598, s (some 0) 9600, s (some 0) 120001, tapLost], Taken ctl x) ∧
    (passed ctl up).clk.source ≠ .tap ∧ present (passed ctl tapLost) = false ∧ (passed ctl tapLost).clk.source = .tap ∧
    ((passed ctl (s (some 0xFFFFFFFF) 9598)).clk.pos - 0xFFFFFFFF).toNat = 9599 ∧
    ((passed ctl (s (some 0) 9600)).clk.pos - 0).toNat = 9600 ∧ ((passed ctl (s (some 0) 120001)).clk.pos - 0).toNat = 120001 ∧
    present (passed ctl (s none 0)) = true ∧ (passed ctl (s (some 0) 9600)).clk.tapLast = some 0 := by
  exact ⟨taken_all (by decide +kernel), by decide +kernel⟩

theorem witness_TempoSourceChanges : Ready ctl 13 (sourced .internal) ∧ Ready ctl 13 (sourced .tap) ∧ Ready ctl 13 (sourced .external) ∧
    (heard ctl 0x2A (sourced .tap)).clk.source = .tap ∧ (heard ctl 0x2A (sourced .external)).clk.source = .external ∧
    (heard ctl 0x2A (sourced .internal)).clk.source = .internal ∧ tempoSourceOf 2 = some .external ∧
    tempoSourceOf 1 = some .tap ∧ tempoSourceOf 0 = some .internal :=
  ⟨ready_of (by decide +kernel), ready_of (by decide +kernel), ready_of (by decide +kernel), by decide +kernel⟩

/-- A show with a cue of action `a` at 2:4, in a transport state at 2:3. -/
def cued (x : Transport) (a : CueAction) : State := onClk (fun c => { c with cues := [cue24 a] }) (show23 x)

theorem witness_ClockSetupTakesThreeItems : Ready ctl 13 up ∧ Ready ctl 13 (show23 .held) ∧ Ready ctl 13 (cued .stopped .stop) ∧
    (heard ctl 0x2C (show23 .held)).clk.transport = .held ∧ (heard ctl 0x2C up).clk.cues = [] ∧
    (heard ctl 0x2C (cued .stopped .stop)).clk.transport = .stopped ∧
    (∃ q ∈ (heard ctl 0x2C (cued .stopped .stop)).clk.cues, 3 < q.beat) ∧
    (∀ q ∈ (heard ctl 0x2C (cued .stopped .stop)).clk.cues, q.beat ≤ 4) :=
  ⟨ready_of (by decide +kernel), ready_of (by decide +kernel), ready_of (by decide +kernel), by decide +kernel⟩

theorem witness_TransportRequestsMoveTheShow : (∀ x ∈ [Transport.stopped, .armed, .running, .held], Ready ctl 11 (show23 x)) ∧
    Ready ctl 11 (sourced .external) ∧ (heard ctl 0x20 (sourced .external)).clk.transport = .stopped ∧
    (heard ctl 0x20 (show23 .stopped)).clk.source = .internal ∧ (heard ctl 0x21 (show23 .running)).clk.transport = .running ∧
    (heard ctl 0x22 (show23 .held)).clk.transport = .held := by
  refine ⟨?_, ready_of (by decide +kernel), by decide +kernel⟩
  intro x h
  have : ([Transport.stopped, .armed, .running, .held].all fun x => readyB ctl 11 (show23 x)) = true := by decide +kernel
  exact ready_of (List.all_eq_true.mp this x h)

/-- The cue of each action stands alone at the position, unfired; a SWITCH cue's arguments are in and out of range; a guard above
the cue's precedence refuses it. -/
theorem witness_UnfiredCueFires :
    let put := fun (a : CueAction) => onClk (fun c => { c with beat := 4 }) (cued .running a)
    let here := fun (s : State) => s.clk.cues.filter fun x => !x.fired && x.bar == s.clk.bar && x.beat == s.clk.beat
    let go := put (.switch 127 0 2 0)
    let req : SwRequest := ⟨.preset 127 0, false, false, false, .cue 7, 2, 0⟩
    here up = [] ∧ here (put .stop) = [cue24 .stop] ∧ here (put (.tempo 1200)) = [cue24 (.tempo 1200)] ∧
    here (put (.tuner true)) = [cue24 (.tuner true)] ∧ here (put (.satellite 7 15 255)) = [cue24 (.satellite 7 15 255)] ∧
    here go = [cue24 (.switch 127 0 2 0)] ∧ switchArgsOk go 127 0 false = true ∧ switchArgsOk go 0 1 false = false ∧
    (arbiter req go).1 = .taken ∧ (arbiter req (onSw (fun w => { w with guard := some (3, 9) }) go)).1 ≠ .taken := by decide +kernel

/-- Four unfired cues at 2:4, a STOP the third or none. -/
def fourCues (third : CueAction) : State := onClk (fun c => { c with
  transport := .running, bar := 2, beat := 4
  cues := [⟨2, 4, .tempo 1200, false, .none, 1⟩, ⟨2, 4, .tempo 900, false, .none, 2⟩, ⟨2, 4, third, false, .none, 3⟩,
    ⟨2, 4, .tuner true, false, .none, 4⟩] }) up

theorem witness_UnfiredCueFires_list :
    let here := fun (s : State) => s.clk.cues.filter fun x => !x.fired && x.bar == s.clk.bar && x.beat == s.clk.beat
    (∀ x ∈ here (fourCues (.tempo 600)), x.action ≠ .stop) ∧ (here (fourCues (.tempo 600))).length = 4 ∧
    here (fourCues .stop) = [⟨2, 4, .tempo 1200, false, .none, 1⟩, ⟨2, 4, .tempo 900, false, .none, 2⟩] ++
      ⟨2, 4, .stop, false, .none, 3⟩ :: [⟨2, 4, .tuner true, false, .none, 4⟩] := by decide +kernel

/-- They fire in list order; a STOP ends the firing and leaves all unfired. -/
theorem test_cues_list : let t := fireHere (fourCues (.tempo 600))
    let u := fireHere (fourCues .stop)
    t.clk.tempo = 600 ∧ t.tuner.mode = .watch ∧ t.clk.cues.map (·.fired) = [true, true, true, true] ∧ u.clk.tempo = 900 ∧
    u.tuner.mode = .off ∧ u.clk.transport = .stopped ∧ u.clk.cues.map (·.fired) = [false, false, false, false] ∧
    u.clk.cues.map (·.outcome) = [.done, .done, .done, .none] := by decide +kernel

theorem witness_LocateSetsThePosition :
    let s := cued .running (.switch 127 0 2 0)
    Ready ctl 11 s ∧ Ready ctl 11 (show23 .stopped) ∧ (heard ctl 0x24 s).clk.bpb = 4 ∧
    chaseCue 2 4 (heard ctl 0x24 s).clk.cues = none ∧ chaseCue 3 1 (heard ctl 0x24 s).clk.cues = some (cue24 (.switch 127 0 2 0)) ∧
    chaseCue 9999 4 (heard ctl 0x24 (show23 .stopped)).clk.cues = none ∧ (heard ctl 0x24 s).clk.source = .internal ∧
    (heard ctl 0x24 (onClk (fun c => { c with source := .external }) s)).clk.transport = .running :=
  ⟨ready_of (by decide +kernel), ready_of (by decide +kernel), by decide +kernel⟩

theorem witness_CuesEnterAndLeaveTheList :
    let s := cued .stopped .stop
    let four := onClk (fun c => { c with cues := List.replicate 4 (cue24 .stop) }) up
    let full := onClk (fun c => { c with cues := List.replicate 64 (cue24 .stop) }) up
    Ready ctl 11 s ∧ Ready ctl 11 four ∧ Ready ctl 11 full ∧ (heard ctl 0x25 s).clk.bpb = 4 ∧
    (heard ctl 0x25 s).clk.cues.length = 1 ∧ (heard ctl 0x25 full).clk.cues.length = 64 ∧
    ((heard ctl 0x25 four).clk.cues.filter fun q => q.bar == 2 && q.beat == 4).length = 4 ∧
    (heard ctl 0x26 s).clk.cues[0]? = some (cue24 .stop) :=
  ⟨ready_of (by decide +kernel), ready_of (by decide +kernel), ready_of (by decide +kernel), by decide +kernel⟩

/-- A legal cue of each action kind at its last legal arguments, refused FULL and CROWDED, and entered where neither holds. -/
theorem test_cueInsert_kinds : ∀ k ∈ [(0, [127, 3, 3, 255, 255]), (1, [0, 0, 0, 0, 0]), (2, [1, 0, 0, 0, 0]), (3, [7, 15, 255, 0, 0]),
      (4, [0, 0, 0, 0, 0])],
    let of := fun (n : Nat) (b : Nat) => after (.cueInsert ctl b 4 k.1 k.2)
      (onClk (fun c => { c with cues := List.replicate n (cue24 .stop) }) up)
    said (of 64 3) = [[0x34]] ∧ said (of 4 2) = [[0x35]] ∧ (of 3 2).clk.cues.length = 4 ∧ (of 4 3).clk.cues.length = 5 := by
  decide +kernel

theorem witness_BeatEventMovesTheBeat :
    let s := fun (x : Transport) (n : Int) => onClk (fun c => { c with countdown := n }) (show23 x)
    let last := onClk (fun c => { c with bar := 9999, beat := 4 }) (s .running 8192)
    let past := onClk (fun c => { c with bar := 9998 }) last
    let temp := onClk (fun c => { c with cues := [cue24 (.tempo 1240)] }) (s .running 1)
    let near := fun (x : State) => present (prelude x) = true ∧ (prelude x).clk.source ≠ .external ∧ 0 < x.clk.countdown ∧
      (prelude x).tone.framePhase + (((prelude x).clk.countdown + 255) / 256).toNat ≤ 32
    (live (s .stopped 8192) = true ∧ near (s .stopped 8192) ∧ near (s .running 1) ∧ near last ∧ near past) ∧
    (present (s .held 0) = true ∧ (s .held 0).clk.source ≠ .external ∧ (s .running (-256)).clk.cues = [] ∧
      (s .running 0).clk.beat < (s .running 0).clk.bpb) ∧
    (prelude (s .running 8192)).clk.beat < (prelude (s .running 8192)).clk.bpb ∧ (prelude last).clk.bpb ≤ (prelude last).clk.beat ∧
    9999 ≤ (prelude last).clk.bar ∧ (prelude past).clk.bar < 9999 ∧ (prelude (s .running 1)).clk.cues = [] ∧
    32 < (prelude (s .running 8193)).tone.framePhase + (((prelude (s .running 8193)).clk.countdown + 255) / 256).toNat ∧
    present (prelude lost) = false ∧ near temp ∧ (prelude temp).clk.beat < (prelude temp).clk.bpb ∧
    ((prelude temp).clk.cues.filter fun x => !x.fired && x.bar == (prelude temp).clk.bar && x.beat == (prelude temp).clk.beat + 1) =
      [cue24 (.tempo 1240)] := by decide +kernel

/-- A RUNNING show whose beat ends now, at a position, with unfired cues at the next beat, the next bar and the last bar. -/
def beating (b k : Nat) : State := onClk (fun c => { c with
  transport := .running, bar := b, beat := k, countdown := 0, pulseLast := some 0, pos := 24000, pulseCount := 23, pulseTimer := true
  cues := [⟨2, 1, .tempo 900, false, .none, 1⟩, ⟨2, 1, .stop, false, .none, 2⟩, ⟨2, 4, .tuner true, false, .none, 3⟩,
    ⟨9999, 1, .tuner true, false, .none, 4⟩] }) up

/-- The same under EXTERNAL, the Nth pulse to come. -/
def pulsed (b k : Nat) : State := onClk (fun c => { c with source := .external }) (beating b k)

theorem witness_BeatEventMovesTheBeat_cues :
    (∀ x ∈ [(2, 3), (1, 4), (9998, 4), (9999, 4)], live (beating x.1 x.2) = true ∧ present (beating x.1 x.2) = true ∧
      (beating x.1 x.2).clk.source ≠ .external ∧ (beating x.1 x.2).clk.countdown ≤ 0 ∧ (beating x.1 x.2).clk.transport = .running) ∧
    (beating 2 3).clk.beat < (beating 2 3).clk.bpb ∧ (beating 1 4).clk.bpb ≤ (beating 1 4).clk.beat := by decide +kernel

/-- The cues at the next beat and the next bar fire; the TEMPO cue there sets the beat that begins, the STOP ends the show; after the
last beat of bar 9999 the show is HELD and none fires. -/
theorem test_beat_fires :
    let t := after .beatEvent (beating 2 3)
    let u := after .beatEvent (beating 1 4)
    let v := after .beatEvent (beating 9999 4)
    t.tuner.mode = .watch ∧ t.clk.beat = 4 ∧ t.clk.cues.map (·.fired) = [false, false, true, false] ∧ u.clk.tempo = 900 ∧
    u.clk.countdown = 8192000 ∧ u.clk.transport = .stopped ∧ u.clk.cues.map (·.outcome) = [.done, .done, .none, .none] ∧
    v.clk.transport = .held ∧ (v.clk.bar, v.clk.beat) = (9999, 4) ∧ v.clk.cues = (beating 9999 4).clk.cues := by decide +kernel

/-- R174: an idle transmitter begins what was raised before a beat to come, and begins BEAT at a beat inside a frame. -/
theorem test_beat_after_notice :
    let free := fun (n : Int) => onClk (fun c => { c with countdown := n }) (onLinkAt 0 (fun x => { x with tx := none, flags := 0x0400 }) up)
    let inFrame := after (.frameBoundary (frame 32 0)) (onLinkAt 0 (fun x => { x with flags := 0 }) (free 2560))
    ((linkOf (after .beatEvent (free 2560)) 0).tx.map (·.pkt.kind)) = some 0xCA ∧
    (linkOf (after .beatEvent (free 2560)) 0).flags = 0x0008 ∧ (linkOf (after .beatEvent (free 0)) 0).tx = none ∧
    ((linkOf inFrame 0).tx.map (·.pkt.kind)) = some 0xC3 ∧ (linkOf inFrame 0).flags = 0 := by decide +kernel

theorem witness_PulsesDriveTheExternalClock :
    let s := fun (x : Transport) (l : Option (BitVec 32)) (n : Nat) => onClk (fun c => { c with
      source := .external, transport := x, pulseLast := l, pulseCount := n, pos := 24000, pulseTimer := true }) up
    live (s .armed none 0) = true ∧ (prelude up).clk.source ≠ .external ∧ (prelude (s .armed none 0)).clk.source = .external ∧
    present (prelude (s .armed none 0)) = true ∧ (prelude (s .stopped (some 24000) 0)).clk.pulseLast = some 24000 ∧
    (prelude (s .running (some 0) 0)).clk.ppb = 24 ∧ (prelude (s .running (some 0) 23)).clk.pulseCount = 23 ∧
    (prelude (s .held (some 0) 22)).clk.transport = .held ∧ (prelude (s .armed none 0)).clk.transport = .armed ∧
    (prelude (s .running (some 0) 23)).clk.beat < (prelude (s .running (some 0) 23)).clk.bpb ∧
    (prelude (s .running none 0)).clk.pulseTimer = true ∧ (prelude up).clk.pulseTimer = false := by decide +kernel

theorem witness_PulsesDriveTheExternalClock_cues :
    (∀ x ∈ [(2, 3), (1, 4), (9998, 4), (9999, 4)], let s := pulsed x.1 x.2
      live s = true ∧ present (prelude s) = true ∧ (prelude s).clk.source = .external ∧
      (prelude s).clk.pulseLast ≠ some (prelude s).clk.pos ∧ (prelude s).clk.transport = .running ∧
      (prelude s).clk.ppb ≤ (prelude s).clk.pulseCount + 1) ∧
    (prelude (onClk (fun c => { c with transport := .armed }) (pulsed 1 1))).clk.transport = .armed := by decide +kernel

/-- The Nth pulse moves the show as a beat event does; the first pulse of an ARMED show fires the cues at 1:1. -/
theorem test_pulse_fires :
    let u := after .tclkPulse (pulsed 1 4)
    let v := after .tclkPulse (pulsed 9999 4)
    let w := after .tclkPulse (onClk (fun c => { c with transport := .armed, cues := [⟨1, 1, .tuner true, false, .none, 1⟩] }) (pulsed 1 1))
    (after .tclkPulse (pulsed 2 3)).tuner.mode = .watch ∧ u.clk.transport = .stopped ∧ u.clk.lastFired = some (2, 1) ∧
    v.clk.transport = .held ∧ v.clk.cues = (pulsed 9999 4).clk.cues ∧ (after .tclkPulse (pulsed 9998 4)).clk.bar = 9999 ∧
    (after .tclkPulse (pulsed 9998 4)).tuner.mode = .watch ∧
    w.clk.transport = .running ∧ w.tuner.mode = .watch ∧ w.clk.cues.map (·.fired) = [true] := by decide +kernel

/-! ### Satellite Controller -/

theorem witness_ArbiterRunsEightThenYields : SatClass.urgent ≠ .poll ∧ arbitrate (some (.urgent, 8)) [.urgent, .pass, .poll] =
    some (.poll, none) ∧ arbitrate (some (.pass, 3)) [.urgent, .poll] = some (.urgent, some (.urgent, 1)) := by decide +kernel

/-- Waiting work of each class, alone and with another. -/
theorem witness_SatGrantBeginsTheNext :
    let free := onSat fun c => { c with holdAuto := false }
    let r := free (withSat 2 .behind mark5)
    let u := free (withSat 7 .behind (noMark.set 15 .urgent))
    let q := onSat (fun c => { c with queue := [⟨3, 7, 16, false⟩] }) (withSat 7 .inStep noMark)
    let poll := free (onSatAt 7 (fun x => { x with pollWaits := true }) up)
    let owed := free (onSatAt 1 (fun x => { x with owed := true, state := .restoring }) up)
    live r = true ∧ r.sat.hideWaits = [] ∧ r.sat.inFlight = none ∧ satClasses up.sat = [] ∧
    arbitrate r.sat.run (satClasses r.sat) = some (.routine, none) ∧
    scanNext (r.sat.scanR.1 * 17 + r.sat.scanR.2) (satWaiting r.sat .routine) = some (2 * 17 + 5) ∧
    arbitrate u.sat.run (satClasses u.sat) = some (.urgent, none) ∧
    scanNext (u.sat.scanU.1 * 17 + u.sat.scanU.2) (satWaiting u.sat .urgent) = some (7 * 17 + 15) ∧
    arbitrate q.sat.run (satClasses q.sat) = some (.pass, none) ∧ (satOf q 7).hidden = false ∧ (satOf q 7).state ≠ .absent ∧
    arbitrate poll.sat.run (satClasses poll.sat) = some (.poll, none) ∧ scanNext poll.sat.scanP (satPolls poll.sat) = some 7 ∧
    scanNext (owed.sat.scanR.1 * 17 + owed.sat.scanR.2) (satWaiting owed.sat .routine) = some (1 * 17 + 16) := by decide +kernel

/-- A hide of satellite 7 that waits behind one of the busy satellite 1, 7 hidden already or not. -/
def hideDue (h : Bool) : State := onSat (fun c => { c with hideWaits := [(0, 1), (3, 7)] })
  (transacting ⟨1, 5, .routine, false, 0, none⟩ (onSatAt 7 (fun x => { x with hidden := h }) up))

theorem witness_SatGrantBeginsTheNext_hides : ∀ h ∈ [true, false], live (hideDue h) = true ∧ (hideDue h).sat.hideWaits.length ≤ 4 ∧
    (hideDue h).sat.hideWaits = [(0, 1)] ++ (3, 7) :: [] ∧ satBusy (hideDue h) 1 = true ∧ satBusy (hideDue h) 7 = false ∧
    (satOf (hideDue h) 7).hidden = h ∧ (satOf (after .satGrant (hideDue h)) 7).hidden = true ∧
    (after .satGrant (hideDue h)).sat.hideWaits = [(0, 1)] := by decide +kernel

/-- The head of the queue for satellite 7, asked by link 3. -/
def queued (h : Bool) (st : SatState) (quiet : Bool) : State := onLinkAt 3 (fun l => { l with
    outstanding := some ⟨0x28, false⟩, seat := { l.seat with quiet := quiet } })
  (onSat (fun c => { c with queue := [⟨3, 7, 16, false⟩] }) (onSatAt 7 (fun x => { x with hidden := h, state := st }) up))

/-- For a hidden and for an ABSENT satellite, a quiet seat and another; the scan within the list and from its end. -/
theorem witness_SatGrantBeginsTheNext_queue :
    (∀ x ∈ [queued true .inStep true, queued true .inStep false, queued false .absent true, queued false .absent false],
      live x = true ∧ x.sat.hideWaits = [] ∧ x.sat.queue = [⟨3, 7, 16, false⟩] ∧ (after .satGrant x).sat.queue = []) ∧
    said (after .satGrant (queued true .inStep true)) = [[0x40]] ∧ said (after .satGrant (queued false .absent false)) = [[0x00, 0xFF]] ∧
    scanNext 135 [0, 20, 135] = some 0 ∧ scanNext 20 [0, 20, 135] = some 135 ∧ scanNext 0 [0] = some 0 := by decide +kernel

/-- Work at 7:16 and at 0:0, and none of a hidden or an ABSENT satellite, of a satellite with marks and an owed status write, or
with automatic writes held. -/
theorem witness_SatGrantBeginsTheNext_waits :
    let m0 := noMark.set 0 .routine
    let at_ := fun (i : Nat) (st : SatState) (h o : Bool) => onSatAt i (fun x => { x with
      marks := if i = 7 then noMark else m0, state := st, hidden := h, owed := o, pollWaits := decide (i < 3) })
    let c := fun (hold : Bool) => (at_ 7 .restoring false true (at_ 0 .behind false false (at_ 1 .behind true false
      (at_ 2 .absent false false (at_ 3 .restoring false true (onSat (fun c => { c with holdAuto := hold }) up)))))).sat
    satWaiting (c false) .routine = [0, 51, 135] ∧ satWaiting (c false) .urgent = [] ∧ satPolls (c false) = [0, 2] ∧
    satClasses (c false) = [.routine, .poll] ∧ satWaiting (c true) .routine = [] ∧ satPolls (c true) = [] ∧
    (∀ x ∈ (c false).sats, x.marks.length = 16) := by decide +kernel

/-- Transactions whose frames SDAT carries. -/
theorem witness_SatGrantBeginsTheNext_frames : (7 : Nat) < 8 ∧ (16 : Nat) ≤ 16 ∧ (255 : Nat) < 256 ∧
    (transacting ⟨7, 16, .routine, false, 0x80, none⟩ up).sat.inFlight = some ⟨7, 16, .routine, false, 0x80, none⟩ ∧
    up.sat.inFlight = none := by decide +kernel

theorem witness_AnswersSettleTheSatellite :
    let w := transacting ⟨2, 5, .routine, false, 0, none⟩
    let st := transacting ⟨2, 16, .routine, false, 0x80, none⟩
    let pl := transacting ⟨7, 16, .poll, true, 0, none⟩
    (∀ x ∈ [w (withSat 2 .behind mark5), w (withSat 2 .behind (mark5.set 15 .urgent)), w (withSat 2 .absent mark5),
        w (withSat 2 .restoring mark5)],
      live x = true ∧ (prelude x).sat.inFlight = some ⟨2, 5, .routine, false, 0, none⟩ ∧ 2 < (prelude x).sat.sats.length) ∧
    (prelude (st (withSat 2 .restoring noMark))).sat.inFlight = some ⟨2, 16, .routine, false, 0x80, none⟩ ∧
    (satOf (prelude (st (withSat 2 .restoring mark5))) 2).state = .restoring ∧
    (prelude (pl (withSat 7 .unknown noMark))).sat.inFlight = some ⟨7, 16, .poll, true, 0, none⟩ ∧
    (satOf (prelude (w (withSat 2 .behind mark5))) 2).marks.set 5 .absent = noMark ∧
    (0x80 &&& 0x80 : Byte) ≠ 0 ∧ (0x7F &&& 0x80 : Byte) = 0 := by decide +kernel

/-- An answer that changes the state or the latch with its kind raises SATELLITE on a seat that marks it; one that does not, not. -/
theorem witness_AnswersSettleTheSatellite_notice :
    let s := fun (l : Option Nat) (st : SatState) => onLinkAt 3 (fun l => { l with seat := { l.seat with mask := 0xFFFF } })
      (transacting ⟨7, 16, .poll, true, 0, none⟩ (onSatAt 7 (fun x => { x with latch := l }) (withSat 7 st noMark)))
    let told := fun (v : Byte) (x : State) => (linkOf (after (.pollAnswered v) x) 3).flags &&& noticeBit .satellite
    told 0x43 (s none .inStep) ≠ 0 ∧ told 0x43 (s (some 5) .inStep) ≠ 0 ∧ told 0x43 (s (some 3) .inStep) = 0 ∧
    told 0x00 (s (some 3) .inStep) = 0 ∧ told 0x00 (s none .unknown) ≠ 0 := by decide +kernel

theorem witness_FailuresAndPassThroughsEnd :
    let t : Trans := ⟨2, 16, .pass, true, 0, some 3⟩
    let s := onSatAt 2 (fun x => { x with failures := 2 }) (transacting t (withSat 2 .inStep noMark))
    let loud := onLinkAt 3 (fun l => { l with seat := { l.seat with quiet := false } }) s
    live s = true ∧ (prelude s).sat.inFlight = some t ∧ 2 < (prelude s).sat.sats.length ∧
    (linkOf (prelude s) 3).seat.quiet = true ∧ (linkOf (prelude loud) 3).seat.quiet = false ∧
    (prelude (transacting ⟨2, 15, .pass, false, 200, some 0⟩ up)).sat.inFlight = some ⟨2, 15, .pass, false, 200, some 0⟩ ∧
    (prelude (transacting ⟨2, 5, .routine, false, 0, none⟩ (withSat 2 .behind mark5))).sat.inFlight.map (·.link) = some none := by
  decide +kernel

theorem witness_PassThroughRequestsQueue :
    let s := withSat 7 .inStep noMark
    Ready ctl 12 s ∧ Ready ctl 12 (withSat 7 .absent noMark) ∧ (satOf (heard ctl 0x28 s) 7).hidden = false ∧
    (satOf (heard ctl 0x28 s) 7).state = .inStep ∧ (satOf (heard ctl 0x27 (withSat 7 .absent noMark)) 7).state = .absent ∧
    (heard ctl 0x27 s).scene.buffer.record = some fallbackRecord ∧
    (satOf (heard ctl 0x29 (onSatAt 7 (fun x => { x with latch := some 15 }) s)) 7).latch ≠ none ∧
    (satOf (heard ctl 0x29 s) 7).latch = none :=
  ⟨ready_of (by decide +kernel), ready_of (by decide +kernel), by decide +kernel⟩

theorem witness_SatSetupHoldsRefreshesHides :
    let hid := onSatAt 7 (fun x => { x with hidden := true }) up
    let busy := transacting ⟨7, 5, .routine, false, 0, none⟩ up
    Ready ctl 15 up ∧ Ready ctl 15 hid ∧ Ready ctl 15 busy ∧ (heard ctl 0x2E up).sat.holdAuto = false ∧
    (heard ctl 0x2E up).sat.refresh = false ∧ (satOf (heard ctl 0x2E hid) 7).hidden = true ∧
    satBusy (heard ctl 0x2E up) 7 = false ∧ satBusy (heard ctl 0x2E busy) 7 = true ∧ (satOf (heard ctl 0x2E busy) 7).hidden = false :=
  ⟨ready_of (by decide +kernel), ready_of (by decide +kernel), ready_of (by decide +kernel), by decide +kernel⟩

theorem witness_DeferredHideFollowsTheTransaction :
    let s := onSat (fun c => { c with hideWaits := [(3, 7), (0, 1)] }) up
    live s = true ∧ satBusy s 7 = false ∧ s.sat.hideWaits = (3, 7) :: [(0, 1)] ∧ ((3, 7) : Fin 4 × Nat) ∉ [((0, 1) : Fin 4 × Nat)] ∧
    (satOf s 7).hidden = false ∧ (∀ h ∈ s.sat.hideWaits, h.2 ≠ 0) ∧
    satBusy (transacting ⟨7, 5, .routine, false, 0, none⟩ s) 7 = true := by decide +kernel

theorem witness_SatelliteTimersExpire :
    let s := fun (p r t h : Bool) => onSat (fun c => { c with pollTimer := p, refresh := r, refTimer := t, holdAuto := h }) up
    live up = true ∧ (prelude (s true true true false)).sat.pollTimer = true ∧ (prelude (s true true true false)).sat.refresh = true ∧
    (prelude (s true true true false)).sat.refTimer = true ∧ (prelude (s true true true false)).sat.holdAuto = false ∧
    (prelude (s true true true false)).sat.sats.length = 8 ∧ (prelude (s true true true true)).sat.holdAuto = true ∧
    (∀ h ∈ [true, false], (∃ x ∈ (prelude (onSatAt 7 (fun x => { x with state := .inStep, hidden := h }) (s true true true false))).sat.sats,
      x.state = .inStep ∧ x.hidden = h)) ∧ (∀ x ∈ (prelude (s true true true false)).sat.sats, x.state ≠ .inStep) ∧
    (prelude (s false false true false)).sat.refresh = false := by decide +kernel

/-! ### Link Controller -/

theorem witness_ReceiverDiscardsBadPackets :
    (∀ st ∈ [RxState.hunt, .length, .body, .check, .waitHigh],
      let s := onRx 3 (fun _ => ⟨st, 0, []⟩) up
      live s = true ∧ (prelude s).link.links.length = 4 ∧ (linkOf (prelude s) 3).rx = ⟨st, 0, []⟩) ∧
    ((byte 1 :: [(1 : Byte)] ++ [0xFF]).foldl (· + ·) (0 : Byte)) ≠ 0 ∧ (0 : Byte).toNat = 0 ∧ 250 < (251 : Byte).toNat := by
  decide +kernel

/-- A calm link; one with an upload, a waiting read, a RESTART reply; a packet ending before a reply, a notice, nothing. -/
theorem witness_BreaksPacketsAndMasks :
    let rd := { onStore (fun c => { c with waitLinks := [⟨3, 9, 0⟩] }) (starting .running (.presetErase none 0)) with mon := up.mon }
    let re := onLinkAt 3 (fun l => { l with places := [⟨.restart, ⟨0xB5, [0]⟩⟩] }) up
    let tx := fun (p : List ReplyPlace) (f : BitVec 16) => onLinkAt 3 (fun l => { l with
      tx := some ⟨.plain, ⟨0x81, []⟩⟩, txRate := .m3, places := p, flags := f }) up
    live up = true ∧ (linkOf (prelude up) 3).places = [] ∧ (prelude up).store.waitLinks = [] ∧
    ((prelude up).area.uploads.getD 3 ⟨none, .none⟩).area = none ∧
    ((prelude (uploading 1 false true)).area.uploads.getD 3 ⟨none, .none⟩).area = some 0 ∧
    (prelude (uploading 1 false true)).area.areas[0]? = some (.loading 3 256 1 false true) ∧
    (∃ q ∈ (prelude rd).store.waitLinks, q.link = 3) ∧ (linkOf (prelude (tx [] 0x0240)) 3).flags &&& noticeBit .switchOutcome = 0 ∧
    (linkOf (prelude (tx [] 0)) 3).flags = 0 ∧
    (linkOf (prelude (tx [⟨.busy, ⟨0x81, [0x10]⟩⟩] 0)) 3).places = [⟨.busy, ⟨0x81, [0x10]⟩⟩] ∧
    (linkOf (prelude (tx [] 0)) 3).tx = some ⟨.plain, ⟨0x81, []⟩⟩ ∧ (prelude up).link.links.length = 4 ∧
    (linkOf up 3).rx.st ≠ .waitHigh ∧ ¬ (1 ≤ 0x39 ∧ 0x39 ≤ 0x38) ∧ (∃ q ∈ (linkOf re 3).places, q.tag = .restart) := by
  decide +kernel

/-- R176: the reply to a second own SEAT_SET goes out at the rate that the first one set, and its own rate applies after it. -/
theorem test_transmitEnd_ownSeat :
    let first : ReplyPlace := ⟨.ownSeat, ⟨0xB6, [0]⟩⟩
    let second : ReplyPlace := ⟨.ownSeat, ⟨0xB6, [0, 3]⟩⟩
    let s := onLinkAt 3 (fun x => { x with tx := some first, txRate := .k250, nextRate := .m1, places := [second] }) up
    let t := after (.transmitEnd 3) s
    (linkOf t 3).tx = some second ∧ (linkOf t 3).txRate = .m1 ∧ (linkOf t 3).seat.rate = .m3 ∧ (linkOf t 3).nextRate = .m3 ∧
    (linkOf (after (.transmitEnd 3) t) 3).txRate = .m3 ∧ (linkOf (after (.linkBreak 3) s) 3).nextRate = .m3 := by decide +kernel

/-- A notice pending in BOOTING; an upload in SAVING; a kind that names a request; a full BUSY place. -/
theorem witness_BreaksPacketsAndMasks_booting :
    let tx := onLinkAt 3 (fun l => { l with tx := some ⟨.plain, ⟨0x81, []⟩⟩, flags := 0x0040 }) up
    let s := { tx with startup := { up.startup with phase := .booting } }
    let busy := onLinkAt 3 (fun l => { l with outstanding := some ⟨0x0D, false⟩, places := [⟨.busy, ⟨0x81, [0x10]⟩⟩] }) tx
    live s = true ∧ (linkOf (prelude s) 3).tx = some ⟨.plain, ⟨0x81, []⟩⟩ ∧ (linkOf (prelude s) 3).places = [] ∧
    (prelude s).startup.phase = .booting ∧ (linkOf (prelude s) 3).flags ≠ 0 ∧ (prelude tx).startup.phase ≠ .booting ∧
    (prelude (uploading 0 true false)).area.areas[0]? = some (.loading 3 256 0 true false) ∧ (1 ≤ 1 ∧ 0x38 ≤ 0x38) ∧
    (linkOf (prelude busy) 3).outstanding = some ⟨0x0D, false⟩ ∧ (∃ q ∈ (linkOf (prelude busy) 3).places, q.tag = .busy) := by
  decide +kernel

/-- Payloads of the notices (12.4): no reading, no write, no area; then one of each, and a cue fired at 2:4 beside one at 3:1. -/
theorem witness_BreaksPacketsAndMasks_notices :
    let s := onClk (fun c => { c with cues := [cue24 .stop, ⟨3, 1, .stop, false, .none, 8⟩], lastFired := some (2, 4) })
      (onTuner (fun t => { t with reading := some ⟨-23999, 45, -1, some 5⟩ }) (onStore (fun c => { c with last := some (.setupStore, none) })
        (uploading 511 false true)))
    up.sw.outcomes[3]? = some ⟨none, none, .none⟩ ∧ up.tuner.reading = none ∧ up.store.last = none ∧
    (up.area.uploads.getD 3 ⟨none, .none⟩).area = none ∧ s.area.areas[0]? = some (.loading 3 256 511 false true) ∧
    (noticePacket .tuner 3 s).payload.drop 2 = [45, 0xFF, 0xFF, 5] ∧ (noticePacket .tuner 3 up).payload.drop 2 = [0xFF, 0, 0, 0xFF] ∧
    (noticePacket .store 3 s).payload = [3, 0xFF, 0, 0, 0xFF] ∧ (noticePacket .store 3 up).payload = [0xFF, 0xFF, 0xFF, 0, 0xFF] ∧
    (noticePacket .area 3 s).payload = [0, 1, 0xFF, 0, 0] ∧ (noticePacket .area 3 up).payload = [0xFF, 0, 0, 0xFF, 0] ∧
    ((noticePacket .cue 3 s).payload.drop 6) = [1, 0, 0, 2, 4, 4, 0xFF] := by decide +kernel

theorem witness_BreaksPacketsAndMasks_subscribe : Ready ctl 0 up := ready_of (by decide +kernel)

theorem witness_StatusRequestsReportTheState :
    let boot := { up with startup := { up.startup with phase := .booting } }
    Ready ctl 0 up ∧ (live boot = true ∧ (prelude boot).link.links.length = 4 ∧ (linkOf (prelude boot) 3).rx.st ≠ .waitHigh ∧
      (linkOf (prelude boot) 3).outstanding = none ∧ running (prelude boot) = false) ∧
    up.link.links.length = 4 ∧ up.link.access.length = 21 ∧ up.area.areas.length = 32 ∧ up.area.table.length = 16 ∧
    up.area.failed.length = 16 ∧ up.sat.sats.length = 8 :=
  ⟨ready_of (by decide +kernel), by decide +kernel⟩

/-- A cue list with starts inside and beyond it; satellites at the ends of the range. -/
theorem witness_StatusRequestsReportTheState_cues :
    let s := onClk (fun c => { c with cues := [cue24 .stop, cue24 .stop] }) up
    Ready ctl 0 s ∧ (heard ctl 0x0B up).clk.cues = [] ∧ 1 < (heard ctl 0x0B s).clk.cues.length ∧
    (heard ctl 0x0B s).clk.cues ≠ [] ∧ (heard ctl 0x0B s).clk.cues.length ≤ 2 ∧ (7 < 8 ∧ 8 ≤ 8 ∧ 8 ≠ 255 ∧ 8 ≤ 254 ∧ 254 ≠ 255) :=
  ⟨ready_of (by decide +kernel), by decide +kernel⟩

/-- Each operation of the store; unfired cues before, at and after the position, of a RUNNING and of a STOPPED show. -/
theorem witness_StatusRequestsReportTheState_codes :
    ([none, some (.presetStore none 127 fallbackRecord 1), some (.presetErase none 0), some (.imageStore none 15 0 256 []),
      some (.setupStore none Setup.factory), some (.presetRead (.link 0 0) 9)].map fun o => storeState { up.store with op := o }) =
      [[0, 0xFF], [1, 127], [2, 0], [3, 15], [4, 0xFF], [5, 9]] ∧
    (storeState { up.store with op := some (.startRead .setup) }).head? = some 6 ∧
    ((show23 .running).clk.cues = [] ∧ transportBytes (show23 .running).clk = [2, 0, 2, 3, 0xFF, 0xFF]) ∧
    (let c := fun (x : Transport) => { (show23 x).clk with
      cues := [⟨2, 3, .stop, false, .none, 1⟩, ⟨2, 4, .stop, true, .none, 2⟩, ⟨3, 1, .stop, false, .none, 3⟩] }
     transportBytes (c .running) = [2, 0, 2, 3, 0, 2] ∧ transportBytes (c .stopped) = [0, 0, 2, 3, 0, 0] ∧
      (((3 : Nat) : Int) - 2) * 4 + (1 - 3) = 2) := by decide +kernel

/-- An area of each kind, a slot with a table entry and one without; controls and two driven records; a stash of one entry. -/
theorem witness_StatusRequestsReportTheState_blocks :
    let s := onArea (fun m => { m with
      areas := [.line (.live 3) true false, .line (.incoming 3) false true, .line (.lane 2) true true, .image none 512 7,
        .loading 3 1024 9 true false] ++ List.replicate 27 .free
      table := m.table.set 15 (some (3, 512)) }) up
    (s.area.areas.length = 32 ∧ s.area.table.length = 16 ∧ s.area.failed.length = 16) ∧
    (areaStatusContent s).take 36 = [1, 3, 1, 0xFF, 0, 0, 1, 0x43, 0, 0xFF, 0, 0, 1, 0x82, 1, 0xFF, 0, 0, 2, 0xFF, 0xFF, 1, 0, 7,
      3, 3, 1, 2, 0, 9, 0, 0xFF, 0xFF, 0xFF, 0, 0] ∧ (areaStatusContent s).drop 234 = [0xFF, 0xFF, 0, 3, 1, 0, 0, 27] ∧
    (linkStatusContent up).length = 57 ∧ mapped.scene.controls.length = 16 ∧ mapped.scene.driven.length = 1 ∧
    (mapStatusContent mapped).drop 32 = [1, 3, 0, 0, 0, 0, 0] ∧ (mapStatusContent { mapped with scene := SceneCtl.entry }).drop 32 = [0] ∧
    (bufferStatusContent stashed).length = 24 + 2 + 6 + 21 ∧ (bufferStatusContent stashed).drop 47 = [0, 0, 0, 1, 0, 0xFF] := by
  decide +kernel

/-- A switch in flight in FADING_OUT that waits for the join, one pending of a cue, a guard and none; a lone ring entry; a cue of
each action; a transaction in flight and a satellite named. -/
theorem witness_StatusRequestsReportTheState_engines :
    let f := onSw (fun w => { w with
      inflight := w.inflight.map fun f => { f with join := .filling, assigned := [0, 3], deferred := [1] }
      pending := some ⟨.stash copied9, false, false, false, .cue 7, 3, 0⟩ }) (inFlight .fadingOut .preset none)
    let q := onClk (fun c => { c with cues := [cue24 (.switch 127 3 3 2000), cue24 (.tempo 3000), cue24 (.tuner true),
      cue24 (.satellite 7 15 255), cue24 .stop] }) up
    let t := transacting ⟨7, 16, .poll, true, 0, none⟩ (withSat 7 .behind mark5)
    (switchStatusContent 3 f).take 16 = [2, 0, 0, 5, 0, 1, 2, 0, 5, 9, 1, 1, 9, 0, 4, 3] ∧
    (switchStatusContent 3 up).take 19 = [0, 0xFF, 0xFF, 0xFF, 0xFF, 0xFF, 0xFF, 0, 0, 0, 0, 0xFF, 0xFF, 0xFF, 0xFF, 0xFF, 0xFF, 0, 0] ∧
    (onSw (fun w => { w with guard := some (4, 500) }) up).sw.guard = some (4, 500) ∧
    (((tunerStatusContent (onTuner (fun t => { t with ring := [111705] }) up)).drop 9).take 4 = [0, 1, 0xB4, 0x59]) ∧
    (cueListContent 0 q).length = 62 ∧ (cueListContent 4 q).drop 2 = [4, 0, 2, 4, 4, 0, 0, 0, 0, 0, 0, 0xFF] ∧
    ((cueListContent 0 q).drop 2).take 12 = [0, 0, 2, 4, 0, 127, 3, 3, 0x07, 0xD0, 0, 0xFF] ∧
    ((satStatusContent none t).drop 3).take 3 = [7, 16, 3] ∧ (satStatusContent none t).length = 62 ∧
    (satStatusContent (some 7) t).length = 62 + 33 ∧ (t.sat.sats[7]?).isSome = true ∧ t.sat.sats.length = 8 := by decide +kernel

theorem witness_SeatsAccessPanicAndSetupValues :
    let act := fun (h : Holders) => { up with link := { up.link with panic := true }, tone := { up.tone with holders := h } }
    Ready ctl 19 up ∧ Ready ctl 20 up ∧ Ready ctl 14 up ∧ Ready ctl 17 up ∧ present (prelude up) = true ∧
    Ready ctl 14 (act ⟨false, true, false, false⟩) ∧ Ready ctl 14 (act ⟨true, true, false, false⟩) ∧
    (heard ctl 0x2D (act ⟨true, true, false, false⟩)).tone.holders = ⟨true, true, false, false⟩ ∧
    (heard ctl 0x2D up).link.panic = false ∧ rateOf 2 = some .m3 ∧
    (∀ x ∈ ((heard ctl 0x36 up).link.links.map (·.seat)).set 3 ⟨2, 3, .m1, false, 0⟩, x.tier ≠ 3) ∧
    (∃ x ∈ ((heard ctl 0x36 up).link.links.map (·.seat)).set 0 ⟨0, 0, .m1, false, 0⟩, x.tier = 3) :=
  ⟨ready_of (by decide +kernel), ready_of (by decide +kernel), ready_of (by decide +kernel), ready_of (by decide +kernel),
    by decide +kernel, ready_of (by decide +kernel), ready_of (by decide +kernel), by decide +kernel⟩

/-- SEAT_SET with a new rate on the seat of a link whose receiver waits for the line to go high, and of one in BODY. -/
theorem witness_SeatsAccessPanicAndSetupValues_wait :
    let s := onRx 1 (fun _ => ⟨.waitHigh, 0, []⟩) (onRx 2 (fun _ => ⟨.body, 3, [1]⟩) up)
    let raw : RawSeat := ⟨2, 3, 2, 0, 0⟩
    Ready ctl 19 s ∧ (linkOf (heard ctl 0x36 s) 1).rx.st = .waitHigh ∧ (linkOf (heard ctl 0x36 s) 1).seat.rate ≠ .m3 ∧
    rateOf raw.rate = some .m3 ∧ (∃ x ∈ ((heard ctl 0x36 s).link.links.map (·.seat)).set 1 ⟨2, 3, .m3, false, 0⟩, x.tier = 3) ∧
    (linkOf (after (.seatSet ctl 1 raw) s) 1).rx = ⟨.waitHigh, 0, []⟩ ∧ (linkOf (after (.seatSet ctl 1 raw) s) 1).seat.rate = .m3 ∧
    (linkOf (after (.seatSet ctl 2 raw) s) 2).rx = ⟨.hunt, 0, []⟩ :=
  ⟨ready_of (by decide +kernel), by decide +kernel⟩

/-- SEAT_SET on the seat of a link that sends a packet, with and without the reply to its own SEAT_SET behind it, of an idle
link, and of the requester itself. -/
theorem test_seatSet_rates :
    let raw : RawSeat := ⟨2, 3, 0, 0, 0⟩
    let sending := fun (q : List ReplyPlace) => onLinkAt 1 (fun x => { x with tx := some ⟨.plain, ⟨0xC0, []⟩⟩, places := q }) up
    let rates := fun (l : Fin 4) (s : State) => ((linkOf s l).txRate, (linkOf s l).nextRate)
    rates 1 (after (.seatSet ctl 1 raw) (sending [])) = (.m1, .k250) ∧
    rates 1 (after (.seatSet ctl 1 raw) (sending [⟨.ownSeat, ⟨0xB6, [0]⟩⟩])) = (.m1, .m1) ∧
    rates 1 (after (.seatSet ctl 1 raw) up) = (.k250, .k250) ∧
    rates 3 (after (.seatSet ctl 3 ⟨3, 3, 0, 0, 0⟩) up) = (.m3, .m3) := by decide +kernel

/-- PANIC, UNPANIC and a master level while the audio clock is lost, the mute factor at rest at 0 and not. -/
theorem witness_SeatsAccessPanicAndSetupValues_lost :
    let act := { lost with link := { lost.link with panic := true }, tone := { lost.tone with holders := ⟨false, true, false, false⟩ } }
    let mute := { lost with tone := { lost.tone with mute := .rest 0 } }
    Ready ctl 20 lost ∧ Ready ctl 20 mute ∧ Ready ctl 14 act ∧ Ready ctl 17 lost ∧ present (prelude lost) = false ∧
    (heard ctl 0x38 lost).tone.lanes.length = 4 ∧ (heard ctl 0x38 lost).tone.mute.cur ≠ 0 ∧
    ((heard ctl 0x38 mute).tone.mute.cur = 0 ∧ (heard ctl 0x38 mute).tone.mute.target = 0) ∧
    (heard ctl 0x38 lost).tone.holders.panic = false ∧ (heard ctl 0x2D act).tone.holders = ⟨false, true, false, false⟩ :=
  ⟨ready_of (by decide +kernel), ready_of (by decide +kernel), ready_of (by decide +kernel), ready_of (by decide +kernel),
    by decide +kernel⟩

/-! ### Controls and edits -/

/-- A chain of VOLUME, CAB and GATE; the scene overrides the CAB's image and the GATE's bypass. -/
def edits : State := onRecord (fun r => { r with
  chain := [defaultSlot .volume .plain .cut, defaultSlot .cab .taps256 .cut, defaultSlot .gate .plain .cut]
  scenes := [⟨[0x41], 32768, 8, [⟨.param 1 0, 5⟩, ⟨.bypass 2, 1⟩]⟩, ⟨[0x42], 16384, 1, []⟩] }) up

/-- A state with a REBUILD in FADING_OUT, the live instance at one position gone to a lane. -/
def fadingOutBare (pos : Nat) (s : State) : State :=
  onTone (fun x => { x with chain := (List.replicate 3 ⟨.volume, none⟩).take (pos + 1) })
    { s with sw := (inFlight .fadingOut .rebuild none).sw }

/-- The same with position 1 detached. -/
def detached1 : State := fadingOutBare 1 edits

/-- The edit states' record. -/
def edRec : Record := (edits.scene.buffer.record).getD fallbackRecord

theorem witness_ControlsAndParameterValues :
    let off := onLinkAt 0 (fun l => { l with seat := { l.seat with tier := 0 } }) up
    Taken ctl mapped ∧ ¬ Taken ⟨0, .exact⟩ off ∧ live off = true ∧ (linkOf (prelude off) 0).rx.st ≠ .waitHigh ∧
    present (prelude mapped) = true ∧ (passed ctl mapped).scene.controls.length = 16 ∧
    (passed ctl mapped).scene.driven.length = 1 ∧ (passed ctl mapped).scene.controls.getD 3 0 = 0 ∧
    EditReady ctl 8 0 edRec edits ∧ EditReady ctl 8 0 edRec detached1 ∧
    targetRange edRec.chain (.param 0 0) = some (0, 32768) ∧ targetRange edRec.chain (.param 1 0) = some (0, 15) ∧
    targetRange edRec.chain (.param 2 4) = none ∧ detachedAt (heard ctl 0x17 detached1) 1 = true ∧
    isOverridden (heard ctl 0x17 edits) (.param 0 0) = false ∧ overrideOf (sceneOf edRec 0) (.param 1 0) = some 5 ∧
    overrideOf (sceneOf edRec 0) (.bypass 2) = some 1 ∧ isDriven (heard ctl 0x17 mapped) (.param 0 0) = true ∧
    (presetOf 1 ≠ (prelude up).scene.buffer.preset ∧ presetOf 255 ≠ (prelude up).scene.buffer.preset) := by
  refine ⟨⟨?_, rfl, ?_, ?_, ?_⟩, fun h => absurd h.tier (by decide +kernel), ?_, ?_, ?_, ?_, ?_, ?_, edit_of ?_, edit_of ?_, ?_⟩
  all_goals decide +kernel

/-- A CONTROL and a SET_PARAM while the audio clock is lost; a source that one entry uses. -/
theorem witness_ControlsAndParameterValues_lost :
    let s := { mapped with mon := lost.mon }
    Taken ctl s ∧ present (prelude s) = false ∧ EditReady ctl 8 0 edRec { edits with mon := lost.mon } ∧
    ((prelude s).scene.buffer.record.map fun r => r.map.map (·.source)) = some [3] :=
  ⟨⟨by decide +kernel, rfl, by decide +kernel, by decide +kernel, by decide +kernel⟩, by decide +kernel, edit_of (by decide +kernel),
    by decide +kernel⟩

theorem witness_SceneEditsChangeOneScene :
    let four := onRecord (fun r => { r with scenes := r.scenes ++ r.scenes }) edits
    let many := onSceneAt 1 (fun c => { c with overrides := List.replicate 32 ⟨.param 0 0, 1⟩ }) edits
    EditReady ctl 8 0 edRec edits ∧ EditReady ctl 8 0 edRec detached1 ∧ present (prelude edits) = true ∧
    readyB ctl 8 four = true ∧ (four.scene.buffer.record.map (·.scenes.length)) = some 4 ∧ edRec.scenes.length = 2 ∧
    overrideOf (sceneOf edRec 0) .level = none ∧ targetOf ⟨0, 0, 0⟩ = some (.param 0 0) ∧ targetOf ⟨1, 2, 0⟩ = some (.bypass 2) ∧
    targetRange edRec.chain (.bypass 2) = some (0, 32768) ∧ targetDetached (heard ctl 0x18 detached1) (.param 1 0) = true ∧
    targetDetached (heard ctl 0x18 edits) (.param 1 0) = false ∧ overrideOf (sceneOf edRec 0) (.param 1 0) = some 5 ∧
    (many.scene.buffer.record.map fun r => (sceneOf r 1).overrides.length) = some 32 ∧ edits.scene.buffer.scene = 0 ∧
    nameLegal 8 [0x41, 0, 0, 0, 0, 0, 0, 0] = true ∧ nameLegal 8 [0, 0, 0, 0, 0, 0, 0, 0] = false :=
  ⟨edit_of (by decide +kernel), edit_of (by decide +kernel), by decide +kernel⟩

theorem witness_PresetFieldsAndAmpData :
    let amp := (ampChain.scene.buffer.record).getD fallbackRecord
    let gone := fadingOutBare 0 ampChain
    EditReady ctl 8 0 amp ampChain ∧ EditReady ctl 8 0 amp gone ∧ nameLegal 16 (List.replicate 16 0x7E) = true ∧
    nameLegal 16 (List.replicate 16 0x7F) = false ∧ (amp.chain[0]?).map (fun x => (x.stype, x.table.length)) = some (.amp, 33) ∧
    detachedAt (heard ctl 0x1A ampChain) 0 = false ∧ detachedAt (heard ctl 0x1A gone) 0 = true ∧ 32 + 1 ≤ 33 ∧ 33 < 33 + 1 :=
  ⟨edit_of (by decide +kernel), edit_of (by decide +kernel), by decide +kernel⟩

theorem witness_ImagesAndMapEntriesAreEdited :
    let rec1 := (mapped.scene.buffer.record).getD fallbackRecord
    let gone := fadingOutBare 0 mapped
    let e : RawEntry := ⟨15, ⟨0, 0, 0⟩, List.replicate 9 32769⟩
    EditReady ctl 8 0 rec1 mapped ∧ EditReady ctl 8 0 rec1 gone ∧ present (prelude mapped) = true ∧
    (heard ctl 0x1C mapped).scene.driven.length = rec1.map.length ∧ (rec1.map.map (·.target)).Nodup ∧
    targetOf e.target = some (.param 0 0) ∧ targetRange rec1.chain (.param 0 0) = some (0, 32768) ∧
    targetDetached (heard ctl 0x1C mapped) (.param 0 0) = false ∧ targetDetached (heard ctl 0x1C gone) (.param 0 0) = true ∧
    (∃ o ∈ rec1.map, o.target = .param 0 0) ∧ (∀ o ∈ rec1.map, o.target ≠ .level) ∧
    targetRange rec1.chain (.param 0 9) = none ∧ imageValue rec1 7 15 = none ∧
    imageValue { rec1 with images := setImage 7 15 9 rec1.images } 7 15 = some 9 ∧
    (List.replicate 16 (⟨0, .level, []⟩ : MapEntry)).length = 16 :=
  ⟨edit_of (by decide +kernel), edit_of (by decide +kernel), by decide +kernel⟩

/-- The edits of O57 to O60 while the audio clock is lost. -/
theorem witness_edits_lost :
    EditReady ctl 8 0 ((mapped.scene.buffer.record).getD fallbackRecord) { mapped with mon := lost.mon } ∧
    EditReady ctl 8 0 edRec { edits with mon := lost.mon } ∧
    EditReady ctl 9 0 ((chain58.scene.buffer.record).getD fallbackRecord) { chain58 with mon := lost.mon } ∧
    present (prelude { chain58 with mon := lost.mon }) = false :=
  ⟨edit_of (by decide +kernel), edit_of (by decide +kernel), edit_of (by decide +kernel), by decide +kernel⟩

/-- The chain of 5.8: idle, with a switch in flight, guarded; what each operation needs; a chain that is not lawful. -/
theorem witness_ChainEditsRebuildTheChain :
    let r := (chain58.scene.buffer.record).getD fallbackRecord
    let busy := onSw (fun _ => (inFlight .fadingIn .preset none).sw) chain58
    let guarded := onSw (fun w => { w with guard := some (4, 500) }) chain58
    EditReady ctl 9 0 r chain58 ∧ EditReady ctl 9 0 r busy ∧ EditReady ctl 9 0 r guarded ∧
    (heard ctl 0x1D busy).sw.inflight ≠ none ∧ (heard ctl 0x1D guarded).sw.guard = some (4, 500) ∧
    (linkOf (heard ctl 0x1D guarded) 3).seat.precedence = 3 ∧ (heard ctl 0x1D chain58).sw.inflight = none ∧
    present (prelude chain58) = true ∧ (heard ctl 0x1D chain58).sw.pending = none ∧ (heard ctl 0x1D chain58).sw.guard = none ∧
    (heard ctl 0x1D chain58).scene.driven.length = r.map.length ∧ r.chain.length = 6 ∧
    slotTypeOf 5 = some .mod ∧ tailPolicyOf 0 = some .cut ∧ lengthClassOf .mod 0 = some .plain ∧
    chainCost r.chain ≤ Config.budget ∧ chainNeed r.chain ≤ 32 - heldImages (heard ctl 0x1D chain58).area ∧
    chainNeed r.chain ≤ admissionSum (heard ctl 0x1D chain58) ∧ (r.chain.filter (·.stype == .loop)).length ≤ 1 ∧
    lengthClassOf .delay 1 = some .long ∧ lengthClassOf .gate 0 = some .plain ∧ tailPolicyOf 2 = none :=
  ⟨edit_of (by decide +kernel), edit_of (by decide +kernel), edit_of (by decide +kernel), by decide +kernel⟩

end Sys2Proof.Tests
end

section
/-! The Show Clock's shared parts (the tempo while the audio clock is present, the cues at a position, the moves of a show) and
TAP (R135), which settles O35. -/

namespace Sys2Proof.ShowClock

open Sys2Proof Sys2Proof.Machine

/-! ## The tempo, the cues at a position and the moves of a show -/

/-- With the audio clock present a new tempo only sets the tempo: no synced length is handed (R141). -/
theorem setTempo_present {s : State} (hp : present s = true) (v : Nat) :
    setTempo v s = { s with clk := { s.clk with tempo := clampNat 300 3000 v } } := by
  unfold setTempo
  by_cases he : clampNat 300 3000 v = s.clk.tempo
  · simp only [he, if_true]
  · exact (if_neg he).trans (if_pos hp)

/-- No unfired cue waits at a position (R148). -/
def NoCueAt (c : Show) (bar beat : Nat) : Prop := ∀ q ∈ c.cues, q.fired = true ∨ q.bar ≠ bar ∨ q.beat ≠ beat

/-- Where no unfired cue waits at the show's position, firing does nothing (R148). -/
theorem fireHere_noCue {s : State} (h : NoCueAt s.clk s.clk.bar s.clk.beat) : fireHere s = s := by
  have none_due : (s.clk.cues.filter fun q => !q.fired && q.bar == s.clk.bar && q.beat == s.clk.beat) = [] := by
    rw [List.filter_eq_nil_iff]
    intro q hq
    rcases h q hq with hf | hb | hk
    · simp [hf]
    · simp [hb]
    · simp [hk]
  unfold fireHere
  rw [none_due]
  rfl

/-- A beat event moves no show that is not RUNNING (R143). -/
theorem advanceShow_idle {s : State} (h : s.clk.transport ≠ .running) : advanceShow s = s :=
  if_neg h

/-- Within a bar a RUNNING show moves to the next beat (R143). -/
theorem advanceShow_nextBeat {s : State} (hr : s.clk.transport = .running) (hk : s.clk.beat < s.clk.bpb) :
    advanceShow s = fireHere { s with clk := { s.clk with beat := s.clk.beat + 1 } } :=
  (if_pos hr).trans (if_pos hk)

/-- After the last beat of a bar below 9999 a RUNNING show moves to the next bar (R143). -/
theorem advanceShow_nextBar {s : State} (hr : s.clk.transport = .running) (hk : s.clk.bpb ≤ s.clk.beat)
    (hb : s.clk.bar < 9999) :
    advanceShow s = fireHere { s with clk := { s.clk with bar := s.clk.bar + 1, beat := 1 } } :=
  (if_pos hr).trans ((if_neg (Nat.not_lt.2 hk)).trans (if_pos hb))

/-- After the last beat of bar 9999 a RUNNING show is HELD where it stands (R143). -/
theorem advanceShow_lastBar {s : State} (hr : s.clk.transport = .running) (hk : s.clk.bpb ≤ s.clk.beat)
    (hb : 9999 ≤ s.clk.bar) : advanceShow s = { s with clk := { s.clk with transport := .held } } :=
  (if_pos hr).trans ((if_neg (Nat.not_lt.2 hk)).trans (if_neg (Nat.not_lt.2 hb)))

/-! ## TAP (R135) -/

/-- A TAP that is not discarded acts through `takeTap`. -/
theorem exec_tap {p : Pkt} {s : State} (h : Taken p s) : exec (.tap p) s = .next (takeTap (passed p s)) :=
  fireAndForget_taken h takeTap

/-- Outside TAP a tap does nothing. -/
theorem takeTap_otherSource {s : State} (hs : s.clk.source ≠ .tap) : takeTap s = s := if_pos hs

/-- During a clock loss a tap ends the series. -/
theorem takeTap_lost {s : State} (hs : s.clk.source = .tap) (hp : present s = false) :
    takeTap s = { s with clk := { s.clk with tapLast := none, taps := [] } } :=
  (if_neg (not_not.2 hs)).trans (if_pos (by simp only [hp, Bool.not_false]))

/-- The first tap starts a series. -/
theorem takeTap_first {s : State} (hs : s.clk.source = .tap) (hp : present s = true) (hl : s.clk.tapLast = none) :
    takeTap s = { s with clk := { s.clk with tapLast := some s.clk.pos } } := by
  rw [takeTap, if_neg (not_not.2 hs), if_neg (by simp [hp]), hl]
  rfl

/-- A later tap of a series is judged by its interval alone. -/
theorem takeTap_later {s : State} {last : Word32} (hs : s.clk.source = .tap) (hp : present s = true)
    (hl : s.clk.tapLast = some last) :
    takeTap s =
      if (s.clk.pos - last).toNat < 9600 then s
      else if 120000 < (s.clk.pos - last).toNat then
        { s with clk := { s.clk with tapLast := some s.clk.pos, taps := [] } }
      else acceptTap (s.clk.pos - last).toNat s := by
  rw [takeTap, if_neg (not_not.2 hs), if_neg (by simp [hp]), hl]
  rfl

/-- An accepted interval enters the last four, whose floored mean sets the tempo. -/
theorem acceptTap_present {s : State} (hp : present s = true) (n : Nat) :
    let kept := (s.clk.taps ++ [n]).drop (s.clk.taps.length + 1 - 4)
    acceptTap n s = { s with clk := { s.clk with
      tapLast := some s.clk.pos, taps := kept
      tempo := clampNat 300 3000 (roundHalfUp 28800000 (sumNat kept / kept.length)).toNat } } := by
  have hl : (s.clk.taps ++ [n]).length = s.clk.taps.length + 1 := by simp
  simp only [acceptTap, hl]
  exact setTempo_present (s := onClk _ s) hp _

end Sys2Proof.ShowClock

open Sys2Proof Sys2Proof.Machine Sys2Proof.ShowClock

/-- Settles O35: each clause is the branch of `takeTap` that its interval falls under. -/
theorem tapMeasuresTheTempo : Obligations.TapMeasuresTheTempo := by
  intro p s taken
  simp only [exec_tap taken]
  refine ⟨fun hs => ?other, fun hs hp => ?lost, fun hs hp hl => ?first, fun last hs hp hl =>
    ⟨fun hn => ?short, fun hn => ?long, fun hlo hhi => ?accepted⟩⟩
  case other => rw [takeTap_otherSource hs]
  case lost => rw [takeTap_lost hs hp]
  case first => rw [takeTap_first hs hp hl]
  case short => rw [takeTap_later hs hp hl, if_pos hn]
  case long => rw [takeTap_later hs hp hl, if_neg (by omega), if_pos hn]
  case accepted => rw [takeTap_later hs hp hl, if_neg (by omega), if_neg (by omega), acceptTap_present hp]

end

section
/-! The pulses of EXTERNAL (R136, R137, R140, R143, R144), which settle O43. -/

namespace Sys2Proof.ShowClock

open Sys2Proof Sys2Proof.Machine

/-! ## A pulse: its interval and the tempo (R136) -/

/-- The pulse history with the interval of a pulse at the present sample; the first pulse has none (R136). -/
def pulseHistory (c : Show) : List Nat :=
  match c.pulseLast with
  | some last => (c.pulses ++ [(c.pos - last).toNat]).drop (c.pulses.length + 1 - c.ppb)
  | none => c.pulses

/-- The tempo a history gives: measured where it is full, else the one in force (R136). -/
def historyTempo (c : Show) (h : List Nat) : Nat :=
  if h.length = c.ppb ∧ 0 < sumNat h then clampNat 300 3000 (roundHalfUp 7372800000 (sumNat h * 256)).toNat else c.tempo

/-- The clock after a pulse is measured and before it is counted (R136). -/
def measured (c : Show) : Show :=
  { c with pulseTimer := true, pulses := pulseHistory c, pulseLast := some c.pos, tempo := historyTempo c (pulseHistory c) }

/-- The clock at the start of a beat that pulses make (R136, R140). -/
def beatBegun (c : Show) : Show :=
  { c with pulseCount := 0, beatCount := (c.beatCount + 1) % 48, sinceBeat := 0 }

/-- The clock where the first pulse of an ARMED show starts it (R140, R144). -/
def showBegun (c : Show) : Show :=
  { c with transport := .running, bar := 1, beat := 1, pulseCount := 0, sinceBeat := 0, beatCount := 0 }

/-- `pulseInterval` in terms of the history it leaves. -/
theorem pulseInterval_eq (c : Show) :
    pulseInterval c = { c with pulses := pulseHistory c, pulseLast := some c.pos } := by
  unfold pulseInterval pulseHistory
  cases c.pulseLast with
  | none => rfl
  | some last => simp

/-- With the audio clock present a full history sets the tempo and nothing else. -/
theorem pulseTempo_present {s : State} (hp : present s = true) :
    pulseTempo s = { s with clk := { s.clk with tempo := historyTempo s.clk s.clk.pulses } } := by
  unfold pulseTempo historyTempo
  by_cases full : s.clk.pulses.length = s.clk.ppb ∧ 0 < sumNat s.clk.pulses
  · simp only [full, and_self, if_true]
    exact setTempo_present hp _
  · simp only [full, if_false]

/-- TCLK_PULSE of a live part acts through `pulse`. -/
theorem exec_tclkPulse {s : State} (h : live s = true) : exec .tclkPulse s = .next (pulse (prelude s)) :=
  outside_live h pulse

/-- Outside EXTERNAL a pulse is ignored. -/
theorem pulse_otherSource {s : State} (hs : s.clk.source ≠ .external) : pulse s = s := by
  simp only [pulse, hs, if_false]

/-- During a clock loss, and as the second of one sample, a pulse reloads the timer alone. -/
theorem pulse_uncounted {s : State} (hs : s.clk.source = .external)
    (h : present s = false ∨ s.clk.pulseLast = some s.clk.pos) :
    pulse s = { s with clk := { s.clk with pulseTimer := true } } :=
  (if_pos hs).trans (if_pos (by simpa using h))

/-- A pulse that counts is measured, then counted. -/
theorem pulse_counted {s : State} (hs : s.clk.source = .external) (hp : present s = true)
    (hl : s.clk.pulseLast ≠ some s.clk.pos) : pulse s = pulseCounts { s with clk := measured s.clk } := by
  have h' : ¬ ((!present s) = true ∨ s.clk.pulseLast = some s.clk.pos) := by simp [hp, hl]
  rw [pulse, if_pos hs, if_neg h', pulseTempo_present (s := onClk _ (onClk _ s)) hp]
  simp only [onClk, pulseInterval_eq]
  rfl

/-! ## What a pulse counts (R140, R143, R144) -/

section Counted

variable {s : State} (hs : s.clk.source = .external) (hp : present s = true) (hl : s.clk.pulseLast ≠ some s.clk.pos)
include hs hp hl

/-- The first pulse of an ARMED show starts it at 1:1. -/
theorem pulse_startsShow (ha : s.clk.transport = .armed) :
    pulse s = raise .beat (fireHere { s with clk := showBegun (measured s.clk) }) :=
  (pulse_counted hs hp hl).trans (if_pos ha)

/-- Below the pulses of a beat a pulse is only counted. -/
theorem pulse_withinBeat (ha : s.clk.transport ≠ .armed) (hn : s.clk.pulseCount + 1 < s.clk.ppb) :
    pulse s = { s with clk := { measured s.clk with pulseCount := s.clk.pulseCount + 1 } } :=
  (pulse_counted hs hp hl).trans ((if_neg ha).trans (if_neg (Nat.not_le.2 hn)))

/-- The Nth pulse is a beat event. -/
theorem pulse_endsBeat (ha : s.clk.transport ≠ .armed) (hn : s.clk.ppb ≤ s.clk.pulseCount + 1) :
    pulse s = raise .beat (advanceShow { s with clk := beatBegun (measured s.clk) }) :=
  (pulse_counted hs hp hl).trans ((if_neg ha).trans (if_pos hn))

/-- The Nth pulse within a bar moves a RUNNING show to the next beat. -/
theorem pulse_nextBeat (hr : s.clk.transport = .running) (hn : s.clk.ppb ≤ s.clk.pulseCount + 1)
    (hk : s.clk.beat < s.clk.bpb) :
    pulse s = raise .beat (fireHere { s with clk := { beatBegun (measured s.clk) with beat := s.clk.beat + 1 } }) := by
  rw [pulse_endsBeat hs hp hl (by simp [hr]) hn]
  exact congrArg (raise .beat) (advanceShow_nextBeat (s := { s with clk := beatBegun (measured s.clk) }) hr hk)

/-- The Nth pulse at the end of a bar below 9999 moves a RUNNING show to the next bar. -/
theorem pulse_nextBar (hr : s.clk.transport = .running) (hn : s.clk.ppb ≤ s.clk.pulseCount + 1)
    (hk : s.clk.bpb ≤ s.clk.beat) (hb : s.clk.bar < 9999) :
    pulse s =
      raise .beat (fireHere { s with clk := { beatBegun (measured s.clk) with bar := s.clk.bar + 1, beat := 1 } }) := by
  rw [pulse_endsBeat hs hp hl (by simp [hr]) hn]
  exact congrArg (raise .beat) (advanceShow_nextBar (s := { s with clk := beatBegun (measured s.clk) }) hr hk hb)

/-- The Nth pulse at the end of bar 9999 holds a RUNNING show. -/
theorem pulse_lastBar (hr : s.clk.transport = .running) (hn : s.clk.ppb ≤ s.clk.pulseCount + 1)
    (hk : s.clk.bpb ≤ s.clk.beat) (hb : 9999 ≤ s.clk.bar) :
    pulse s = raise .beat { s with clk := { beatBegun (measured s.clk) with transport := .held } } := by
  rw [pulse_endsBeat hs hp hl (by simp [hr]) hn]
  exact congrArg (raise .beat) (advanceShow_lastBar (s := { s with clk := beatBegun (measured s.clk) }) hr hk hb)

/-- The Nth pulse of a show that is STOPPED or HELD begins a beat and moves nothing. -/
theorem pulse_restingBeat (hr : s.clk.transport = .stopped ∨ s.clk.transport = .held)
    (hn : s.clk.ppb ≤ s.clk.pulseCount + 1) :
    pulse s = raise .beat { s with clk := beatBegun (measured s.clk) } := by
  have not_armed : s.clk.transport ≠ .armed := by rcases hr with h | h <;> simp [h]
  have not_running : s.clk.transport ≠ .running := by rcases hr with h | h <;> simp [h]
  rw [pulse_endsBeat hs hp hl not_armed hn]
  exact congrArg (raise .beat) (advanceShow_idle (s := { s with clk := beatBegun (measured s.clk) }) not_running)

end Counted

/-! ## The pulse timer (R137) -/

/-- PULSE_TIMER_EXPIRY of a live part acts through `pulseTimeout`. -/
theorem exec_pulseTimerExpiry {s : State} (h : live s = true) :
    exec .pulseTimerExpiry s = .next (pulseTimeout (prelude s)) :=
  outside_live h pulseTimeout

/-- The transport after the external clock is lost: RUNNING is HELD, ARMED stops (R146). -/
def lostTransport : Transport → Transport
  | .running => .held
  | .armed => .stopped
  | t => t

/-- Holding a RUNNING show and disarming an ARMED one change the transport alone. -/
theorem disarmShow_holdShow (c : Show) :
    disarmShow (holdShow c) = { c with transport := lostTransport c.transport } := by
  cases ht : c.transport with
  | running => simp [holdShow, disarmShow, lostTransport, ht]
  | armed => simp [holdShow, disarmShow, lostTransport, ht]
  | stopped =>
    simp only [holdShow, disarmShow, lostTransport, ht, reduceCtorEq, if_false]
    rw [← ht]
  | held =>
    simp only [holdShow, disarmShow, lostTransport, ht, reduceCtorEq, if_false]
    rw [← ht]

/-- The expiry falls back to INTERNAL. -/
theorem pulseTimeout_running {s : State} (ht : s.clk.pulseTimer = true) (hs : s.clk.source = .external) :
    pulseTimeout s = raise .clock { s with clk := { s.clk with
      source := .internal, pulseTimer := false, pulseLast := none, pulses := [], pulseCount := 0
      countdown := (beatLen s.clk.tempo : Nat), bc := beatLen s.clk.tempo
      transport := lostTransport s.clk.transport } } := by
  simp only [pulseTimeout, ht, hs, and_self, if_true, disarmShow_holdShow]
  rfl

/-- Where the timer does not run, or outside EXTERNAL, no expiry comes about. -/
theorem pulseTimeout_idle {s : State} (h : s.clk.pulseTimer = false ∨ s.clk.source ≠ .external) :
    pulseTimeout s = s := by
  unfold pulseTimeout
  rcases h with ht | hs
  · simp [ht]
  · simp [hs]

end Sys2Proof.ShowClock

open Sys2Proof Sys2Proof.Machine Sys2Proof.ShowClock

/-- Settles O43: each clause is the lemma about `pulse` or `pulseTimeout` for its case; where no cue waits at the new position
`fireHere` does nothing. -/
theorem pulsesDriveTheExternalClock : Obligations.PulsesDriveTheExternalClock := by
  intro s alive
  simp only [exec_tclkPulse alive, exec_pulseTimerExpiry alive]
  generalize prelude s = y
  refine ⟨fun hs => ?other, fun hs h => ?uncounted, fun hs hp hl =>
    ⟨fun ha => ?starts, fun ⟨hr, hn⟩ hk => ?nextBeat, fun ⟨hr, hn⟩ hk hb => ?nextBar,
      fun ⟨hr, hn⟩ hk hb calm => ?nextBarCalm, fun ⟨hr, hn⟩ hk hb => ?lastBar, fun ha calm => ?startsCalm, fun ha hn => ?within, fun hr hn => ?resting,
      fun hr hn hk calm => ?nextBeatCalm⟩,
    fun ht hs => ?expires, fun h => ?idle⟩
  case other => rw [pulse_otherSource hs]
  case uncounted => rw [pulse_uncounted hs h]
  case starts => rw [pulse_startsShow hs hp hl ha]; rfl
  case nextBeat => rw [pulse_nextBeat hs hp hl hr hn hk]; rfl
  case nextBar => rw [pulse_nextBar hs hp hl hr hn hk hb]; rfl
  case nextBarCalm =>
    rw [pulse_nextBar hs hp hl hr hn hk hb, fireHere_noCue]
    · rfl
    · exact calm
  case lastBar => rw [pulse_lastBar hs hp hl hr hn hk hb]; rfl
  case startsCalm =>
    rw [pulse_startsShow hs hp hl ha, fireHere_noCue]
    · rfl
    · exact calm
  case within => rw [pulse_withinBeat hs hp hl ha hn]; rfl
  case resting => rw [pulse_restingBeat hs hp hl hr hn]; rfl
  case nextBeatCalm =>
    rw [pulse_nextBeat hs hp hl hr hn hk, fireHere_noCue]
    · rfl
    · exact calm
  case expires => rw [pulseTimeout_running ht hs]; rfl
  case idle => rw [pulseTimeout_idle h]

end

section
/-! What a change to audio state touches (R2, R3): the Tone Engine, the areas, the Show Clock and the Switch Engine, and of
the areas never the DRAM words. Every lemma says it of one operation, run after whatever else changed audio state. -/

namespace Sys2Proof.Frame

open Sys2Proof Sys2Proof.Machine

/-! ## The Area Manager's operations write no DRAM word -/

section Dram

variable (m : AreaMan)

@[simp] theorem freeArea_dram (a : Nat) : (freeArea a m).dram = m.dram := rfl

@[simp] theorem freeAreaList_dram (l : List Nat) : (freeAreaList l m).dram = m.dram := by
  unfold freeAreaList
  induction l generalizing m with
  | nil => rfl
  | cons a t ih => exact ih (freeArea a m)

@[simp] theorem rehold_dram (h : Holder) (a : Nat) : (rehold h a m).dram = m.dram := rfl

@[simp] theorem reholdList_dram (h : Holder) (l : List Nat) : (reholdList h l m).dram = m.dram := by
  unfold reholdList
  induction l generalizing m with
  | nil => rfl
  | cons a t ih => exact ih (rehold h a m)

@[simp] theorem joinLine_dram (pos need : Nat) : (joinLine pos need m).2.dram = m.dram := rfl

@[simp] theorem joinLines_dram (pos : Nat) (c : List SlotRec) : (joinLines pos c m).2.dram = m.dram := by
  induction c generalizing pos m with
  | nil => rfl
  | cons r t ih =>
    by_cases h : lineNeed r.stype r.lclass = 0
    · simpa [joinLines, h] using ih m (pos + 1)
    · simpa [joinLines, h] using ih (joinLine pos (lineNeed r.stype r.lclass) m).2 (pos + 1)

@[simp] theorem resolveImage_dram (slot : Nat) : (resolveImage slot m).2.dram = m.dram := by
  unfold resolveImage; split <;> rfl

@[simp] theorem releaseImage_dram (i : Option (Nat × Nat)) : (releaseImage i m).dram = m.dram := by
  unfold releaseImage; split <;> rfl

@[simp] theorem orphanImage_dram (a : Nat) : (orphanImage a m).dram = m.dram := rfl

@[simp] theorem endUpload_dram (l : Fin 4) (e : LastEnd) : (endUpload l e m).dram = m.dram := by
  unfold endUpload; split <;> rfl

@[simp] theorem dropInst_dram (i : Inst) : (dropInst i m).dram = m.dram := by
  unfold dropInst; split <;> simp

@[simp] theorem joinImage_dram (k : Nat) (c : ImageCopy) : (joinImage k c m).dram = m.dram := by
  unfold joinImage; split <;> rfl

@[simp] theorem imageTaken_dram (l : Fin 4) (slot a taps : Nat) : (imageTaken l slot a taps m).dram = m.dram := by
  unfold imageTaken; dsimp only; split <;> rfl

/-- A fold of operations that write no DRAM word writes none. -/
theorem foldl_dram {α : Type} (f : AreaMan → α → AreaMan) (hf : ∀ m a, (f m a).dram = m.dram) (l : List α) :
    (l.foldl f m).dram = m.dram := by
  induction l generalizing m with
  | nil => rfl
  | cons a t ih => exact (ih (f m a)).trans (hf m a)

end Dram

/-! ## Changes to audio state -/

/-- From `s` to `t` the Tone Engine, the areas, the Show Clock and the Switch Engine alone change, and no DRAM word. -/
structure AudioOnly (s t : State) : Prop where
  rest : t = { s with tone := t.tone, area := t.area, clk := t.clk, sw := t.sw }
  dram : t.area.dram = s.area.dram

namespace AudioOnly

variable {s x : State}

@[refl] theorem refl (s : State) : AudioOnly s s := ⟨rfl, rfl⟩

theorem pending (h : AudioOnly s x) : x.pending = s.pending := by rw [h.rest]
theorem startup (h : AudioOnly s x) : x.startup = s.startup := by rw [h.rest]
theorem mon (h : AudioOnly s x) : x.mon = s.mon := by rw [h.rest]
theorem store (h : AudioOnly s x) : x.store = s.store := by rw [h.rest]
theorem scene (h : AudioOnly s x) : x.scene = s.scene := by rw [h.rest]
theorem tuner (h : AudioOnly s x) : x.tuner = s.tuner := by rw [h.rest]
theorem sat (h : AudioOnly s x) : x.sat = s.sat := by rw [h.rest]
theorem link (h : AudioOnly s x) : x.link = s.link := by rw [h.rest]
theorem freeCount (h : AudioOnly s x) : x.freeCount = s.freeCount := by rw [h.rest]

/-- New audio state over the state before, the DRAM words as they were. -/
theorem parts (h : AudioOnly s x) (t : Tone) (m : AreaMan) (c : Show) (w : SwitchEng) (hm : m.dram = x.area.dram) :
    AudioOnly s { x with tone := t, area := m, clk := c, sw := w } := by
  refine ⟨?_, hm.trans h.dram⟩
  conv_lhs => rw [h.rest]

@[trans] theorem trans {y : State} (h : AudioOnly s x) (k : AudioOnly x y) : AudioOnly s y := by
  have := h.parts y.tone y.area y.clk y.sw k.dram
  rwa [← k.rest] at this

theorem onTone (h : AudioOnly s x) (f : Tone → Tone) : AudioOnly s (onTone f x) := h.parts _ _ _ _ rfl
theorem onClk (h : AudioOnly s x) (f : Show → Show) : AudioOnly s (onClk f x) := h.parts _ _ _ _ rfl
theorem onSw (h : AudioOnly s x) (f : SwitchEng → SwitchEng) : AudioOnly s (onSw f x) := h.parts _ _ _ _ rfl
theorem setInst (h : AudioOnly s x) (pos : Nat) (i : Option Inst) : AudioOnly s (setInst pos i x) := h.onTone _
theorem area (h : AudioOnly s x) {m : AreaMan} (hm : m.dram = x.area.dram) : AudioOnly s { x with area := m } :=
  h.parts _ m _ _ hm

theorem ite {c : Prop} [Decidable c] {y : State} (h : AudioOnly s x) (k : AudioOnly s y) :
    AudioOnly s (if c then x else y) := by split <;> assumption

/-- A fold of operations on audio state is one. -/
theorem foldl {α : Type} (f : State → α → State) (hf : ∀ x a, AudioOnly s x → AudioOnly s (f x a)) (l : List α) :
    ∀ {x : State}, AudioOnly s x → AudioOnly s (l.foldl f x) := by
  induction l with
  | nil => exact id
  | cons a t ih => exact fun h => ih (hf _ a h)

theorem cabResolve (h : AudioOnly s x) (pos keep : Nat) (gain : Ramp) (phase : ResolvePhase) :
    AudioOnly s (cabResolve pos keep gain phase x) := by
  unfold Machine.cabResolve
  split
  · split
    · exact (h.area ((resolveImage_dram _ _).trans (releaseImage_dram _ _))).setInst pos _
    · exact h
  · exact h

theorem cabChange (h : AudioOnly s x) (landing : Bool) (pos : Nat) : AudioOnly s (cabChange landing pos x) := by
  unfold Machine.cabChange
  split
  · split
    · split
      · exact h.cabResolve _ _ _ _
      · split
        · exact h
        · exact h.setInst _ _
    · exact h
  · exact h

theorem weightZero (h : AudioOnly s x) (pos : Nat) : AudioOnly s (weightZero pos x) := by
  unfold Machine.weightZero
  split
  · split
    · split
      · exact h.cabResolve _ _ _ _
      · exact h.setInst _ _
      · exact h
    · exact h
  · exact h

theorem forgetHanded (h : AudioOnly s x) (pos idx : Nat) (i : Inst) : AudioOnly s (forgetHanded pos idx i x) := by
  unfold Machine.forgetHanded
  split
  · exact h.onClk fun c => { c with handed := c.handed.set pos none }
  · exact h

theorem takeParam (h : AudioOnly s x) (landing : Bool) (pos idx : Nat) (v : Int) :
    AudioOnly s (takeParam landing pos idx v x) := by
  unfold Machine.takeParam
  split
  · dsimp only
    split
    · exact ((h.setInst _ _).forgetHanded _ _ _).cabChange _ _
    · exact (h.setInst _ _).forgetHanded _ _ _
  · exact h

theorem takeBypass (h : AudioOnly s x) (landing : Bool) (pos : Nat) (on : Bool) :
    AudioOnly s (takeBypass landing pos on x) := by
  unfold Machine.takeBypass
  split
  · dsimp only
    split
    · exact (h.setInst _ _).weightZero _
    · exact h.setInst _ _
  · exact h

theorem takeSyncLen (h : AudioOnly s x) (landing : Bool) (pos len : Nat) :
    AudioOnly s (takeSyncLen landing pos len x) := by
  unfold Machine.takeSyncLen
  split
  · split
    · split
      · exact h.setInst _ _
      · exact h
    · exact h
  · exact h

theorem takeDrop (h : AudioOnly s x) : AudioOnly s (takeDrop x) := by
  unfold Machine.takeDrop
  refine AudioOnly.onTone (h.area (foldl_dram _ _ (fun m p => ?_) _)) _
  split
  · cases p.inst <;> simp
  · rfl

theorem takeMove (h : AudioOnly s x) (pos : Nat) (lane : Fin 4) (len : Nat) : AudioOnly s (takeMove pos lane len x) := by
  unfold Machine.takeMove
  split
  · split
    · exact AudioOnly.onTone ((h.setInst pos none).area (reholdList_dram _ _ _)) _
    · exact h
  · exact h

theorem emptyLane (h : AudioOnly s x) (l : Nat) : AudioOnly s (emptyLane l x) := by
  unfold Machine.emptyLane
  exact AudioOnly.onTone (AudioOnly.onSw (h.area (freeAreaList_dram _ _)) _) _

theorem takeCutAll (h : AudioOnly s x) : AudioOnly s (takeCutAll x) := by
  refine (foldl _ (fun y l hy => ?_) _ h).onSw _
  split
  · exact hy.emptyLane l
  · exact hy

theorem resolveCabs (h : AudioOnly s x) (n : Nat) : AudioOnly s (resolveCabs n x) :=
  foldl _ (fun _ _ hy => hy.cabResolve _ _ _ _) _ h

theorem takeRebuild (h : AudioOnly s x) (insts : List Inst) : AudioOnly s (takeRebuild insts x) := by
  have live : ∀ (l : List Inst) (mk : AreaMan × Nat),
      (l.foldl (fun (mk : AreaMan × Nat) (i : Inst) => (reholdList (.live mk.2) i.areas mk.1, mk.2 + 1)) mk).1.dram
        = mk.1.dram := by
    intro l
    induction l with
    | nil => exact fun _ => rfl
    | cons i t ih => exact fun mk => (ih _).trans (reholdList_dram _ _ _)
  have dropped : ∀ (m : AreaMan) (p : Position), ((p.inst.map fun i => dropInst i m).getD m).dram = m.dram := by
    intro m p; cases p.inst <;> simp
  exact (((h.area ((live _ _).trans (foldl_dram _ _ dropped _))).onTone _).onClk _).resolveCabs _

theorem takeGain (h : AudioOnly s x) (landing : Bool) (g : GainId) (f : Ramp → Ramp) :
    AudioOnly s (takeGain landing g f x) := by
  unfold Machine.takeGain
  cases g with
  | chain => exact h.onTone _
  | master => exact h.onTone _

theorem applyChange (h : AudioOnly s x) (landing : Bool) (c : Change) : AudioOnly s (applyChange landing c x) := by
  unfold Machine.applyChange
  cases c with
  | param pos idx v => exact h.takeParam _ _ _ _
  | bypass pos on => exact h.takeBypass _ _ _
  | rebuild insts => exact h.takeRebuild _
  | move pos lane len => exact h.takeMove _ _ _
  | evict lane => exact h.onTone _
  | cutAll => exact h.takeCutAll
  | drop => exact h.takeDrop
  | gainTarget g t len => exact h.takeGain _ _ _
  | gainSet g v => exact h.takeGain _ _ _
  | muteFall => exact h.onTone _
  | muteRise len => exact h.onTone _
  | muteZero => exact h.onTone _
  | syncLen pos len => exact h.takeSyncLen _ _ _

theorem applyChanges (h : AudioOnly s x) (landing : Bool) (cs : List Change) :
    AudioOnly s (applyChanges landing cs x) :=
  foldl _ (fun _ c hy => hy.applyChange landing c) _ h

theorem hand (h : AudioOnly s x) (c : Change) : AudioOnly s (hand c x) := by
  unfold Machine.hand
  split
  · exact h.onTone _
  · exact h.applyChange _ _

theorem setHolder (h : AudioOnly s x) (get : Holders → Bool) (set : Holders → Bool → Holders) :
    AudioOnly s (setHolder get set x) := by
  unfold Machine.setHolder
  split
  · exact h
  · exact (h.onTone _).hand _

theorem releaseHolder (h : AudioOnly s x) (get : Holders → Bool) (set : Holders → Bool → Holders) (zero : Bool)
    (len : Nat) : AudioOnly s (releaseHolder get set zero len x) := by
  unfold Machine.releaseHolder
  split
  · have released := h.onTone fun t => { t with holders := set t.holders false }
    have zeroed := AudioOnly.ite (c := zero = true) (released.hand .muteZero) released
    exact zeroed.ite (zeroed.hand (.muteRise len))
  · exact h

theorem handLens (h : AudioOnly s x) : AudioOnly s (handLens x) := by
  unfold Machine.handLens
  dsimp only
  split
  · exact (h.onClk _).onTone _
  · exact (h.onClk _).applyChanges _ _

theorem setTempo (h : AudioOnly s x) (v : Nat) : AudioOnly s (setTempo v x) := by
  unfold Machine.setTempo
  dsimp only
  split
  · exact h
  · split
    · exact h.onClk _
    · exact (h.onClk _).handLens

theorem commandTempo (h : AudioOnly s x) (v : Nat) : AudioOnly s (commandTempo v x) := by
  unfold Machine.commandTempo
  split
  · exact h.setTempo v
  · exact (h.setTempo v).onClk _
  · exact h

theorem presetTempo (h : AudioOnly s x) (v : Option Nat) : AudioOnly s (presetTempo v x) := by
  unfold Machine.presetTempo
  split
  · split
    · exact h
    · exact h.commandTempo _
  · exact h

end AudioOnly

end Sys2Proof.Frame

end

section
/-! What every command keeps: the queue, and the five invariants of Safety.lean (DRAM words, seats, satellites, stash, control
values). `Keeps s x` says that `x`, reached from `s` within one command, still has them; each lemma carries it over one more
operation of the model. -/

namespace Sys2Proof.Frame

open Sys2Proof Sys2Proof.Machine

/-- The queue is as in `s`, and each invariant that holds in `s` holds in `t`. -/
structure Keeps (s t : State) : Prop where
  pending : t.pending = s.pending
  dram : dramOk s = true → dramOk t = true
  seats : seatInv s = true → seatInv t = true
  sats : satInv s = true → satInv t = true
  stash : stashInv s = true → stashInv t = true
  controls : controlInv s = true → controlInv t = true

namespace Keeps

variable {s x y : State}

@[refl] theorem refl (s : State) : Keeps s s := ⟨rfl, id, id, id, id, id⟩

@[trans] theorem trans (h : Keeps s x) (k : Keeps x y) : Keeps s y :=
  ⟨k.pending.trans h.pending, k.dram ∘ h.dram, k.seats ∘ h.seats, k.sats ∘ h.sats, k.stash ∘ h.stash,
    k.controls ∘ h.controls⟩

theorem ite {c : Prop} [Decidable c] (h : Keeps s x) (k : Keeps s y) : Keeps s (if c then x else y) := by
  split <;> assumption

/-- A fold of operations that keep the invariants keeps them. -/
theorem foldl {α : Type} (f : State → α → State) (hf : ∀ x a, Keeps s x → Keeps s (f x a)) (l : List α) :
    ∀ {x : State}, Keeps s x → Keeps s (l.foldl f x) := by
  induction l with
  | nil => exact id
  | cons a t ih => exact fun h => ih (hf _ a h)

/-! ## Updates of the parts that no invariant is about -/

theorem onTone (h : Keeps s x) (f : Tone → Tone) : Keeps s (onTone f x) := ⟨h.1, h.2, h.3, h.4, h.5, h.6⟩
theorem onSw (h : Keeps s x) (f : SwitchEng → SwitchEng) : Keeps s (onSw f x) := ⟨h.1, h.2, h.3, h.4, h.5, h.6⟩
theorem onTuner (h : Keeps s x) (f : Tuner → Tuner) : Keeps s (onTuner f x) := ⟨h.1, h.2, h.3, h.4, h.5, h.6⟩
theorem onClk (h : Keeps s x) (f : Show → Show) : Keeps s (onClk f x) := ⟨h.1, h.2, h.3, h.4, h.5, h.6⟩
theorem onStartup (h : Keeps s x) (f : Startup → Startup) : Keeps s (onStartup f x) := ⟨h.1, h.2, h.3, h.4, h.5, h.6⟩
theorem mon (h : Keeps s x) (m : ClockMon) : Keeps s { x with mon := m } := ⟨h.1, h.2, h.3, h.4, h.5, h.6⟩
theorem freeCount (h : Keeps s x) (n : Nat) : Keeps s { x with freeCount := n } := ⟨h.1, h.2, h.3, h.4, h.5, h.6⟩

/-- New areas: their DRAM words stay in the canonical form. -/
theorem area (h : Keeps s x) {m : AreaMan} (hm : dramWf x.area.dram = true → dramWf m.dram = true) :
    Keeps s { x with area := m } := ⟨h.1, hm ∘ h.2, h.3, h.4, h.5, h.6⟩

/-- New areas with the same DRAM words. -/
theorem areaOnly (h : Keeps s x) {m : AreaMan} (hm : m.dram = x.area.dram) : Keeps s { x with area := m } :=
  h.area fun hd => by rw [hm]; exact hd

theorem onArea (h : Keeps s x) (f : AreaMan → AreaMan) (hf : (f x.area).dram = x.area.dram) :
    Keeps s (onArea f x) := h.areaOnly hf

/-- Changes to audio state. -/
theorem audio (h : Keeps s x) (a : AudioOnly x y) : Keeps s y := by
  refine ⟨a.pending.trans h.pending, fun hs => ?_, fun hs => ?_, fun hs => ?_, fun hs => ?_, fun hs => ?_⟩
  · simpa only [dramOk, a.dram] using h.dram hs
  · simpa only [seatInv, a.link, a.store] using h.seats hs
  · simpa only [satInv, a.sat] using h.sats hs
  · simpa only [stashInv, a.scene] using h.stash hs
  · simpa only [controlInv, a.scene] using h.controls hs

/-! ## The Scene Controller's part: stash and control values -/

/-- A new Scene Controller with the same stash and control values. -/
theorem onScene (h : Keeps s x) (f : SceneCtl → SceneCtl) (hs : (f x.scene).stash = x.scene.stash)
    (hc : (f x.scene).controls = x.scene.controls) : Keeps s (onScene f x) :=
  ⟨h.1, h.2, h.3, h.4, fun hi => by simpa only [stashInv, onScene_scene, hs] using h.stash hi,
    fun hi => by simpa only [controlInv, onScene_scene, hc] using h.controls hi⟩

/-- The edit buffer. -/
theorem onBuffer (h : Keeps s x) (f : Buffer → Buffer) : Keeps s (onBuffer f x) := h.onScene _ rfl rfl

theorem stashInv_iff : stashInv x = true ↔ x.scene.stash.length ≤ 4 ∧ (x.scene.stash.map (·.preset)).Nodup := by
  simp [stashInv]

/-- A stash that is part of the one before. -/
theorem stashSublist (h : Keeps s x) (f : SceneCtl → SceneCtl) (hs : (f x.scene).stash.Sublist x.scene.stash)
    (hc : (f x.scene).controls = x.scene.controls) : Keeps s (Machine.onScene f x) := by
  refine ⟨h.1, h.2, h.3, h.4, fun hi => ?_, fun hi => by simpa only [controlInv, onScene_scene, hc] using h.controls hi⟩
  obtain ⟨hlen, hnodup⟩ := stashInv_iff.1 (h.stash hi)
  exact stashInv_iff.2 ⟨hs.length_le.trans hlen, hnodup.sublist (hs.map _)⟩

/-! ## The Preset Store's part: the seats of stored setups -/

/-- A new Preset Store: the stored setup is as before or holds no seats that fail, and so is its operation. -/
theorem onStore (h : Keeps s x) (f : Store → Store)
    (hs : storedSeatsOk x.store.setup = true → storeOpOk x.store.op = true → storedSeatsOk (f x.store).setup = true)
    (ho : storeOpOk x.store.op = true → storeOpOk (f x.store).op = true) : Keeps s (onStore f x) := by
  refine ⟨h.1, h.2, fun hi => ?_, h.4, h.5, h.6⟩
  have hx := h.seats hi
  simp only [seatInv, Bool.and_eq_true, onStore_store, onStore_link] at hx ⊢
  obtain ⟨⟨hl, hset⟩, hop⟩ := hx
  exact ⟨⟨hl, hs hset hop⟩, ho hop⟩

/-- The store's waiting reads, library, images and last-write record. -/
theorem onStoreRest (h : Keeps s x) (f : Store → Store) (hs : (f x.store).setup = x.store.setup)
    (ho : (f x.store).op = x.store.op) : Keeps s (Machine.onStore f x) :=
  h.onStore f (fun hs' _ => by rw [hs]; exact hs') (fun ho' => by rw [ho]; exact ho')

/-- The store begins or ends an operation that holds no setup. -/
theorem onStoreOp (h : Keeps s x) (f : Store → Store) (hs : (f x.store).setup = x.store.setup)
    (ho : storeOpOk (f x.store).op = true) : Keeps s (Machine.onStore f x) :=
  h.onStore f (fun hs' _ => by rw [hs]; exact hs') (fun _ => ho)

/-! ## The Satellite Controller's part -/

/-- A new Satellite Controller whose satellites meet R156 where those before did. -/
theorem onSat (h : Keeps s x) (f : SatCtl → SatCtl)
    (hf : x.sat.sats.all satOk = true → (f x.sat).sats.all satOk = true) : Keeps s (onSat f x) :=
  ⟨h.1, h.2, h.3, hf ∘ h.4, h.5, h.6⟩

/-- The Satellite Controller's part besides the satellites. -/
theorem onSatRest (h : Keeps s x) (f : SatCtl → SatCtl) (hf : (f x.sat).sats = x.sat.sats) :
    Keeps s (Machine.onSat f x) :=
  h.onSat f fun hs => by rw [hf]; exact hs

/-- Satellites after an update of one. -/
theorem all_modAt {α : Type} {p : α → Bool} {l : List α} {i : Nat} {f : α → α} (hl : l.all p = true)
    (hf : ∀ a, l[i]? = some a → p a = true → p (f a) = true) : (modAt l i f).all p = true := by
  rw [List.all_eq_true] at hl ⊢
  intro b hb
  obtain ⟨k, hk⟩ := List.mem_iff_getElem?.1 hb
  rw [getElem?_modAt] at hk
  split at hk
  · next e =>
    subst e
    obtain ⟨a, ha, rfl⟩ := Option.map_eq_some_iff.1 hk
    exact hf a ha (hl a (List.mem_of_getElem? ha))
  · exact hl b (List.mem_of_getElem? hk)

/-- An update of one satellite that keeps R156. -/
theorem onSatAt (h : Keeps s x) (i : Nat) (f : Sat → Sat) (hf : ∀ a, satOk a = true → satOk (f a) = true) :
    Keeps s (onSatAt i f x) := h.onSat _ fun hs => all_modAt hs fun a _ => hf a

/-- An update of a satellite after which it is not IN_STEP. -/
theorem satOk_of_state {a : Sat} (h : a.state ≠ .inStep) : satOk a = true := by simp [satOk, h]

/-! ## The Link Controller's part: the seats -/

/-- A new Link Controller with the same seats. -/
theorem onLink (h : Keeps s x) (f : LinkCtl → LinkCtl)
    (hf : (f x.link).links.map (·.seat) = x.link.links.map (·.seat)) :
    Keeps s (onLink f x) :=
  ⟨h.1, h.2, fun hi => by simpa only [seatInv, onLink_link, onLink_store, hf] using h.seats hi, h.4, h.5, h.6⟩

/-- A link that keeps its seat. -/
theorem onLinkAt (h : Keeps s x) (l : Fin 4) (f : Link → Link) (hf : ∀ a, (f a).seat = a.seat) :
    Keeps s (onLinkAt l f x) :=
  h.onLink _ (map_modAt _ _ hf _ _)

/-- A link that keeps the tier of its seat. -/
theorem onLinkTier (h : Keeps s x) (l : Fin 4) (f : Link → Link) (hf : ∀ a, (f a).seat.tier = a.seat.tier) :
    Keeps s (Machine.onLinkAt l f x) := by
  refine ⟨h.1, h.2, fun hi => ?_, h.4, h.5, h.6⟩
  have tiers : (modAt x.link.links l.val f).map (fun a => a.seat.tier) = x.link.links.map fun a => a.seat.tier :=
    map_modAt _ _ hf _ _
  have hsame : ∀ links : List Link,
      seatsOk (links.map (·.seat)) = (links.length == 4 && (links.map fun a => a.seat.tier).any (· == 3)) := by
    intro links; simp [seatsOk, List.any_map, Function.comp_def]
  have hx := h.seats hi
  rw [seatInv, hsame] at hx ⊢
  simpa [tiers] using hx

theorem raise (h : Keeps s x) (k : NoticeKind) : Keeps s (raise k x) :=
  h.onLink _ (by simp [Function.comp_def])

theorem raiseOn (h : Keeps s x) (k : NoticeKind) (l : Fin 4) : Keeps s (raiseOn k l x) := h.onLinkAt l _ fun _ => rfl

theorem answerTagged (h : Keeps s x) (tag : PlaceTag) (l : Fin 4) (st : Status) (c : List Byte) :
    Keeps s (answerTagged tag l st c x) := by
  unfold Machine.answerTagged
  split
  · split
    · exact h.onLinkAt l _ fun _ => rfl
    · exact h.onLinkAt l _ fun _ => rfl
  · exact h

theorem answer (h : Keeps s x) (l : Fin 4) (st : Status) (c : List Byte) : Keeps s (answer l st c x) := h.answerTagged _ _ _ _
theorem refuse (h : Keeps s x) (l : Fin 4) (st : Status) : Keeps s (refuse l st x) := h.answer _ _ _
theorem answerOpt (h : Keeps s x) (l : Option (Fin 4)) (st : Status) (c : List Byte) : Keeps s (answerOpt l st c x) := by
  cases l with
  | some l => exact h.answer l st c
  | none => exact h

/-! ## Audio state, mute holders and tempo -/

theorem hand (h : Keeps s x) (c : Change) : Keeps s (hand c x) := h.audio (.hand (.refl _) c)
theorem setInst (h : Keeps s x) (pos : Nat) (i : Option Inst) : Keeps s (setInst pos i x) := h.onTone _
theorem setHolder (h : Keeps s x) (get : Holders → Bool) (set : Holders → Bool → Holders) :
    Keeps s (setHolder get set x) := h.audio (.setHolder (.refl _) _ _)
theorem releaseHolder (h : Keeps s x) (get : Holders → Bool) (set : Holders → Bool → Holders) (zero : Bool) (len : Nat) :
    Keeps s (releaseHolder get set zero len x) := h.audio (.releaseHolder (.refl _) _ _ _ _)
theorem handLens (h : Keeps s x) : Keeps s (handLens x) := h.audio (.handLens (.refl _))
theorem setTempo (h : Keeps s x) (v : Nat) : Keeps s (setTempo v x) := h.audio (.setTempo (.refl _) v)
theorem commandTempo (h : Keeps s x) (v : Nat) : Keeps s (commandTempo v x) := h.audio (.commandTempo (.refl _) v)
theorem presetTempo (h : Keeps s x) (v : Option Nat) : Keeps s (presetTempo v x) := h.audio (.presetTempo (.refl _) v)

/-! ## The Tuner -/

theorem clearTuner (h : Keeps s x) : Keeps s (clearTuner x) := (h.onTuner _).ite ((h.onTuner _).raise _)

theorem setTunerMode (h : Keeps s x) (m : TunerMode) : Keeps s (setTunerMode m x) := by
  unfold Machine.setTunerMode
  refine h.ite (raise (ite (setHolder ?_ _ _) (ite (releaseHolder ?_ _ _ _ _) ?_)) _) <;> dsimp only
  all_goals
    split
    · exact (h.onTuner _).onTuner _
    · exact (h.onTuner _).onTuner _
    · exact h.onTuner _

/-! ## The Satellite Controller -/

theorem satSetState (h : Keeps s x) (i : Nat) (st : SatState) (hst : st ≠ .inStep) : Keeps s (satSetState i st x) :=
  h.ite ((h.onSatAt i _ fun _ _ => satOk_of_state hst).raise _)

/-- The satellite read at `i` is the one the list holds there. -/
theorem satOf_eq {x : State} {i : Nat} {a : Sat} (h : x.sat.sats[i]? = some a) : satOf x i = a := by
  simp [satOf, List.getD_eq_getElem?_getD, h]

/-- A satellite with an empty pending set becomes IN_STEP. -/
theorem satSetInStep (h : Keeps s x) (i : Nat) (hm : noMarks (satOf x i) = true) : Keeps s (Machine.satSetState i .inStep x) := by
  refine h.ite (raise (h.onSat _ fun hs => all_modAt hs fun a ha _ => ?_) _)
  rw [satOf_eq ha] at hm
  simpa [satOk, noMarks] using hm

/-- A satellite becomes IN_STEP only where its pending set is empty. -/
theorem satInStepWhen (h : Keeps s x) (i : Nat) (c : Prop) [Decidable c] :
    Keeps s (if c ∧ noMarks (satOf x i) then Machine.satSetState i .inStep x else x) := by
  split
  · next hb => exact h.satSetInStep i hb.2
  · exact h

/-- What an update of one satellite leaves of its state, where it keeps it. -/
theorem satOf_onSatAt_state (i : Nat) (f : Sat → Sat) (hf : ∀ a, (f a).state = a.state) (x : State) :
    (satOf (Machine.onSatAt i f x) i).state = (satOf x i).state := by
  simp only [satOf, onSatAt_sat, List.getD_eq_getElem?_getD, getElem?_modAt, if_true]
  cases x.sat.sats[i]? <;> simp [hf]

/-- A satellite that is not IN_STEP meets R156 after any update that keeps its state. -/
theorem onSatAtOutOfStep (h : Keeps s x) (i : Nat) (f : Sat → Sat) (hf : ∀ a, (f a).state = a.state)
    (hi : (satOf x i).state ≠ .inStep) : Keeps s (Machine.onSatAt i f x) :=
  h.onSat _ fun hs => all_modAt hs fun a ha _ => satOk_of_state (by rwa [hf, ← satOf_eq ha])

/-- Marks may be filled where the satellite enters a state other than IN_STEP with them. -/
theorem satSetStateAfter (h : Keeps s x) (i : Nat) (st : SatState) (f : Sat → Sat) (hst : st ≠ .inStep)
    (hf : ∀ a, (f a).state = a.state) : Keeps s (Machine.satSetState i st (Machine.onSatAt i f x)) := by
  unfold Machine.satSetState
  split
  · next he => exact h.onSatAtOutOfStep i f hf (by rw [← satOf_onSatAt_state i f hf, he]; exact hst)
  · have both : Machine.onSatAt i (fun x => { x with state := st }) (Machine.onSatAt i f x)
        = Machine.onSatAt i (fun a => { f a with state := st }) x := by
      simp [Machine.onSatAt, Machine.onSat, modAt_modAt]
    rw [both]
    exact (h.onSatAt i _ fun _ _ => satOk_of_state hst).raise _

/-- Marks that are filled make an IN_STEP satellite BEHIND. -/
theorem satFilledAfter (h : Keeps s x) (i : Nat) (f : Sat → Sat) (hf : ∀ a, (f a).state = a.state) :
    Keeps s (satFilled i (Machine.onSatAt i f x)) := by
  unfold satFilled
  split
  · exact h.satSetStateAfter i .behind f (by decide) hf
  · next hn => exact h.onSatAtOutOfStep i f hf (by rwa [satOf_onSatAt_state i f hf] at hn)

theorem satPush (h : Keeps s x) (cls : Mark) (i r v : Nat) : Keeps s (satPush cls i r v x) :=
  h.satFilledAfter i _ fun _ => rfl

theorem satEnter (h : Keeps s x) (cls : Mark) (i r : Nat) : Keeps s (satEnter cls i r x) :=
  h.satFilledAfter i _ fun _ => rfl

theorem satRestore (h : Keeps s x) (i : Nat) : Keeps s (satRestore i x) :=
  h.satSetStateAfter i .restoring _ (by decide) fun _ => rfl

theorem satAnswered (h : Keeps s x) (i : Nat) : Keeps s (satAnswered i x) :=
  have h1 := h.onSatAt i (fun x => { x with failures := 0 }) fun _ ha => ha
  (h1.satRestore i).ite h1

theorem satFailed (h : Keeps s x) (i : Nat) : Keeps s (satFailed i x) :=
  have h1 := h.onSatAt i (fun a => { a with failures := min 3 ((satOf x i).failures + 1) }) fun _ ha => ha
  (h1.satSetState i .absent (by decide)).ite h1

/-- A pending set stays empty when one of its marks is taken away. -/
theorem satOk_unmark (r : Nat) {a : Sat} (h : satOk a = true) : satOk { a with marks := a.marks.set r .absent } = true := by
  simp only [satOk, noMarks, Bool.or_eq_true, List.all_eq_true] at h ⊢
  refine h.imp_right fun hm m hmem => ?_
  rcases List.mem_or_eq_of_mem_set hmem with hin | rfl
  · exact hm m hin
  · rfl

theorem satWriteAnswer (h : Keeps s x) (i r data : Nat) : Keeps s (satWriteAnswer i r data x) := by
  unfold Machine.satWriteAnswer
  have unmarked := h.onSatAt i (fun a => { a with marks := a.marks.set r .absent }) fun _ => satOk_unmark r
  exact satInStepWhen ((h.ite unmarked).satAnswered i) i _

theorem satStatusWriteAnswer (h : Keeps s x) (i : Nat) : Keeps s (satStatusWriteAnswer i x) := by
  unfold Machine.satStatusWriteAnswer
  dsimp only
  split
  · have owed := (h.satAnswered i).onSatAt i (fun x => { x with owed := false }) fun _ ha => ha
    split
    · next hm => exact owed.satSetInStep i hm
    · exact owed.satSetState i .behind (by decide)
  · exact h.satAnswered i

theorem satPollAnswer (h : Keeps s x) (i : Nat) (status : Byte) : Keeps s (satPollAnswer i status x) := by
  unfold Machine.satPollAnswer
  have kept := h.onSatAt i (fun x => { x with last := some (statusKept status) }) fun _ ha => ha
  have latched := (kept.onSatAt i (fun x => { x with latch := some (status &&& 0x0F).toNat }) fun _ ha => ha).raise .satellite
  have answered := ((kept.ite (c := (satOf x i).latch = some (status &&& 0x0F).toNat) latched).ite
    (c := (status &&& 0x40 != 0) = true) kept).satAnswered i
  exact (answered.satRestore i).ite answered

theorem passAbsent (h : Keeps s x) (l : Fin 4) : Keeps s (passAbsent l x) := (h.refuse l _).ite (h.answer l _ _)

theorem satHide (h : Keeps s x) (i : Nat) : Keeps s (satHide i x) :=
  h.ite ((h.onSatAt i _ fun _ ha => by exact ha).raise _)

theorem satUnhide (h : Keeps s x) (i : Nat) : Keeps s (satUnhide i x) :=
  (h.onSatAt i _ fun _ _ => satOk_of_state (by simp)).raise _

theorem deferredHideStep (h : Keeps s x) (want : Nat → Bool) : Keeps s (deferredHideStep want x) := by
  unfold Machine.deferredHideStep
  split
  · exact ((h.onSatRest _ rfl).satHide _).answer _ _ _
  · exact h

theorem prunePass (h : Keeps s x) : Keeps s (prunePass x) := by
  unfold Machine.prunePass
  split
  · exact ((h.onSatRest _ rfl).passAbsent _).ite h
  · exact h

/-- A grant changes of the satellites only which polls wait. -/
theorem grantClass_satOk (cls : SatClass) (c : SatCtl) (h : c.sats.all satOk = true) :
    (grantClass cls c).sats.all satOk = true := by
  unfold grantClass
  cases cls with
  | urgent | routine | pass => dsimp only; split <;> exact h
  | poll =>
    dsimp only
    split
    · exact all_modAt h fun _ _ ha => ha
    · exact h

theorem grantStep (h : Keeps s x) : Keeps s (grantStep x) := by
  unfold Machine.grantStep
  have pruned : Keeps s ([0, 1, 2, 3].foldl (fun s (_ : Nat) => Machine.prunePass s) x) :=
    foldl _ (fun _ _ hy => hy.prunePass) _ h
  dsimp only
  split
  · exact pruned
  · split
    · exact pruned.onSat _ (grantClass_satOk _ _)
    · exact pruned

theorem satGrantStep (h : Keeps s x) : Keeps s (satGrantStep x) :=
  (foldl _ (fun _ _ hy => hy.deferredHideStep _) _ h).grantStep

theorem endTrans (h : Keeps s x) : Keeps s (endTrans x) := h.onSatRest _ rfl

end Keeps

end Sys2Proof.Frame

end

section
/-! The operations of the Scene Controller, the Switch Engine, the links, start-up and the show keep the queue and the
invariants: one lemma for each, in the order of the model's definitions. -/

namespace Sys2Proof.Frame.Keeps

open Sys2Proof Sys2Proof.Machine

variable {s x : State}

/-! ## The edit buffer and the control map (chapters 4 and 5) -/

theorem onRecord (h : Keeps s x) (f : Record → Record) : Keeps s (onRecord f x) := h.onBuffer _
theorem onSceneAt (h : Keeps s x) (k : Nat) (f : Scene → Scene) : Keeps s (onSceneAt k f x) := h.onRecord _
theorem onSlotAt (h : Keeps s x) (k : Nat) (f : SlotRec → SlotRec) : Keeps s (onSlotAt k f x) := h.onRecord _
theorem takenEdit (h : Keeps s x) : Keeps s (takenEdit x) := h.onScene _ rfl rfl

theorem evalMap (h : Keeps s x) : Keeps s (evalMap x) := by
  unfold Machine.evalMap
  split <;> exact h.onScene _ rfl rfl

theorem levelChanged (h : Keeps s x) (v : Int) : Keeps s (levelChanged v x) := by
  unfold Machine.levelChanged
  dsimp only
  split
  · exact (h.onSw _).hand _
  · exact (h.onSw _).hand _
  · exact h.onSw _
  · exact (h.onSw _).hand _
  · exact (h.onSw _).hand _

theorem handValue (h : Keeps s x) (t : Target) (v : Int) : Keeps s (handValue t v x) := by
  unfold Machine.handValue
  cases t with
  | param p i =>
    dsimp only
    split
    · exact h.hand _
    · exact h
  | bypass p =>
    dsimp only
    split
    · exact h.hand _
    · exact h
  | level => exact h.levelChanged v
  | sat i r => exact h.satPush _ _ _ _

theorem handChanged (h : Keeps s x) (old : State) (t : Target) : Keeps s (handChanged old t x) := by
  unfold Machine.handChanged
  split
  · exact h.ite (h.handValue _ _)
  · exact h

theorem handAlways (h : Keeps s x) (t : Target) : Keeps s (handAlways t x) := by
  unfold Machine.handAlways
  split
  · exact h.handValue _ _
  · exact h

theorem driveEntry (h : Keeps s x) (k : Nat) : Keeps s (driveEntry k x) := by
  unfold Machine.driveEntry
  split
  · split
    · exact (h.onScene _ rfl rfl).ite ((h.onScene _ rfl rfl).handValue _ _)
    · exact h
  · exact h

theorem driveSource (h : Keeps s x) (src : Nat) : Keeps s (driveSource src x) := by
  unfold Machine.driveSource
  split
  · exact foldl _ (fun _ _ hy => (hy.driveEntry _).ite hy) _ h
  · exact h

theorem writeImage (h : Keeps s x) (sat reg v : Nat) : Keeps s (writeImage sat reg v x) := (h.onRecord _).takenEdit

/-! ## The stash (R89 to R91) -/

theorem stashLeave (h : Keeps s x) (p : StashEntry → Bool) : Keeps s (stashLeave p x) :=
  ((h.stashSublist (fun c => { c with stash := c.stash.filter fun e => !p e }) List.filter_sublist rfl).raise _).ite h

theorem stashOverflow (h : Keeps s x) : Keeps s (stashOverflow x) :=
  h.ite (h.stashSublist _ (List.tail_sublist _) rfl)

/-- After the overflow there is room for one entry. -/
theorem length_stashOverflow (hl : x.scene.stash.length ≤ 4) : (Machine.stashOverflow x).scene.stash.length ≤ 3 := by
  unfold Machine.stashOverflow
  split
  · omega
  · simp only [onScene_scene, List.length_tail]; omega

/-- The overflow leaves a part of the stash. -/
theorem sublist_stashOverflow (x : State) : (Machine.stashOverflow x).scene.stash.Sublist x.scene.stash := by
  unfold Machine.stashOverflow
  split
  · exact List.Sublist.refl _
  · exact List.tail_sublist _

/-- A new newest entry: there is room, and its preset number is not in the stash. -/
theorem stashJoin (h : Keeps s x) (e : StashEntry) (hr : stashInv s = true → x.scene.stash.length ≤ 3)
    (hn : ∀ o ∈ x.scene.stash, o.preset ≠ e.preset) :
    Keeps s (Machine.onScene (fun c => { c with stash := c.stash ++ [e] }) x) := by
  refine ⟨h.1, h.2, h.3, h.4, fun hi => ?_, h.6⟩
  obtain ⟨-, hnodup⟩ := stashInv_iff.1 (h.stash hi)
  have room := hr hi
  refine stashInv_iff.2 ⟨by simp only [onScene_scene, List.length_append, List.length_singleton]; omega, ?_⟩
  simp only [onScene_scene, List.map_append, List.map_cons, List.map_nil]
  refine List.Nodup.append hnodup (List.nodup_singleton _) ?_
  simpa [List.disjoint_singleton] using hn

theorem stashCapture (h : Keeps s x) : Keeps s (stashCapture x) := by
  unfold Machine.stashCapture
  dsimp only
  split
  · have filtered := h.stashSublist (fun c => { c with stash := c.stash.filter fun e => e.preset != x.scene.buffer.preset })
      List.filter_sublist rfl
    refine (filtered.stashOverflow.stashJoin _ (fun hi => ?_) fun o ho => ?_).raise _
    · exact length_stashOverflow (stashInv_iff.1 (filtered.stash hi)).1
    · have := (sublist_stashOverflow _).subset ho
      simp only [onScene_scene, List.mem_filter, bne_iff_ne] at this
      exact this.2
  · exact h

/-! ## Outcomes, guard and completion (R95, R97, R98) -/

theorem cueOutcome (h : Keeps s x) (tag : Nat) (o : SwOutcome) : Keeps s (cueOutcome tag o x) := ((h.onClk _).raise _).ite h

theorem tellOrigin (h : Keeps s x) (q : SwRequest) (o : SwOutcome) (notify : Bool) : Keeps s (tellOrigin q o notify x) := by
  unfold Machine.tellOrigin
  split
  · exact ((h.onSw _).raiseOn _ _).ite (h.onSw _)
  · exact h.cueOutcome _ _

theorem openGuard (h : Keeps s x) (q : SwRequest) : Keeps s (openGuard q x) := (h.onSw _).ite h
theorem endInflight (h : Keeps s x) : Keeps s (endInflight x) := (h.onSw _).onTone _
theorem completeSwitch (h : Keeps s x) (q : SwRequest) : Keeps s (completeSwitch q x) :=
  ((h.endInflight.openGuard q).tellOrigin q _ _).raise _
theorem failSwitch (h : Keeps s x) (q : SwRequest) (o : SwOutcome) : Keeps s (failSwitch q o x) :=
  (h.endInflight.tellOrigin q _ _).raise _

/-! ## Loading and fading out (R99 to R103) -/

theorem askRead (h : Keeps s x) (n : Nat) : Keeps s (askRead n x) := (h.onStoreRest _ rfl rfl).ite (h.onStoreOp _ rfl rfl)

theorem abandonLoad (h : Keeps s x) : Keeps s (abandonLoad x) := by
  refine h.onStore _ (fun hs _ => hs) fun ho => ?_
  dsimp only
  split
  · rfl
  · exact ho

theorem lineJoinStep (h : Keeps s x) : Keeps s (lineJoinStep x) := by
  unfold Machine.lineJoinStep
  split
  · split
    · exact onSw (h.areaOnly (joinLines_dram _ _ _)) _
    · exact h
  · exact h

theorem startFadeOut (h : Keeps s x) (f : Inflight) (len : Nat) : Keeps s (startFadeOut f len x) :=
  lineJoinStep (foldl _ (fun _ _ hy => hy.hand _) _ (foldl _ (fun _ _ hy => hy.hand _) _ (((h.onSw _).onTone _).hand _)))

theorem endLoading (h : Keeps s x) (f : Inflight) : Keeps s (endLoading f x) :=
  (h.startFadeOut _ _).ite (h.failSwitch _ _)

/-! ## The SCENE switch and the arbiter (R93, R96, R109) -/

theorem sceneHand (h : Keeps s x) (old : State) (t : Target) : Keeps s (sceneHand old t x) := by
  unfold Machine.sceneHand
  refine h.ite ?_
  split
  · split
    · exact h.ite (h.satPush _ _ _ _)
    · exact h
  · exact h.handChanged _ _

theorem startScene (h : Keeps s x) (q : SwRequest) (k : Nat) : Keeps s (startScene q k x) := by
  unfold Machine.startScene
  split
  · have targets := fun ts f g k => foldl (s := s) (fun y t => Machine.sceneHand x t y) (fun _ t hy => hy.sceneHand x t) ts
      (((h.onSw f).onBuffer g).onTone k)
    have handed := fun ts f g k w c => ((targets ts f g k).onSw w).hand c
    exact raise (((handed _ _ _ _ _ _).setTunerMode _).ite (handed _ _ _ _ _ _)) _
  · exact h

theorem noChange (h : Keeps s x) (q : SwRequest) : Keeps s (noChange q x) :=
  (((h.setTunerMode _).ite h).openGuard q).tellOrigin q _ _

theorem beginSwitch (h : Keeps s x) (q : SwRequest) : Keeps s (beginSwitch q x) := by
  unfold Machine.beginSwitch
  split
  · exact h.endLoading _
  · exact h.endLoading _
  · exact ((h.onSw _).askRead _).ite ((h.noChange q).ite (h.startScene q _))

theorem promotionStep (h : Keeps s x) : Keeps s (promotionStep x) := by
  unfold Machine.promotionStep
  split
  · exact ((h.onSw _).tellOrigin _ _ _).ite ((h.onSw _).beginSwitch _)
  · exact h

theorem arbiter (h : Keeps s x) (q : SwRequest) : Keeps s (arbiter q x).2 := by
  unfold Machine.arbiter
  have p := h.promotionStep
  dsimp only
  split
  · exact p
  · split
    · exact (p.tellOrigin _ _ _).beginSwitch _
    · split
      · exact ((((p.onSw _).tellOrigin _ _ _).abandonLoad).tellOrigin _ _ _).beginSwitch _
      · split
        · dsimp only; exact (p.tellOrigin _ _ _).onSw _
        · split
          · dsimp only; exact ((p.tellOrigin _ _ _).tellOrigin _ _ _).onSw _
          · exact p

/-! ## Reports of the Tone Engine and the swap (R104, R106, R112) -/

theorem deferredMoveStep (h : Keeps s x) : Keeps s (deferredMoveStep x) := by
  unfold Machine.deferredMoveStep
  split
  · refine ite (ite (h.onSw _) ?_) h
    exact foldl _ (fun _ _ hy => hy.hand _) _ (h.onSw _)
  · exact h

theorem chainRestStep (h : Keeps s x) : Keeps s (chainRestStep x) := by
  unfold Machine.chainRestStep
  have rested := h.onTone fun t => { t with chainRested := false }
  refine ite ?_ h
  dsimp only
  split
  · split
    · exact rested
    · exact (rested.onSw _).hand _
    · exact rested.completeSwitch _
    · exact rested.completeSwitch _
  · exact rested

theorem loadBuffer (h : Keeps s x) (l : Loaded) : Keeps s (loadBuffer l x) := by
  unfold Machine.loadBuffer
  exact h.onScene _ rfl rfl

theorem pushImages (h : Keeps s x) (onlyChanged : Bool) : Keeps s (pushImages onlyChanged x) := by
  refine foldl _ (fun y p hy => ?_) _ h
  split
  · exact hy.ite (hy.satPush _ _ _ _)
  · exact hy

theorem swapLoad (h : Keeps s x) (f : Inflight) : Keeps s (swapLoad f x) := by
  unfold Machine.swapLoad
  split
  · next l _ =>
    cases l.stashSeq with
    | none => exact loadBuffer (ite (stashCapture h) h) _
    | some q => exact loadBuffer (ite (stashCapture (h.stashLeave _)) (h.stashLeave _)) _
  · exact h

theorem swapStep (h : Keeps s x) : Keeps s (swapStep x) := by
  unfold Machine.swapStep
  refine ite ?_ h
  split
  · next f _ =>
    have loaded := ((h.swapLoad f).onScene (fun c => { c with posMap := none }) rfl rfl).evalMap
    have handed := fun g c d => ((loaded.onSw g).hand c).hand d
    have pushed : ∀ {y : State}, Keeps s y → Keeps s (match f.kind with
        | .rebuild => Machine.pushImages true y
        | _ => Machine.pushImages false (Machine.presetTempo (y.scene.buffer.record.bind (·.tempo)) y)) := by
      intro y hy
      split
      · exact hy.pushImages _
      · exact (hy.presetTempo _).pushImages _
    have exited := fun g c d => (((pushed (handed g c d)).setTunerMode .off).ite (c := f.req.exitTuner = true)
      (pushed (handed g c d))).raise .scene
    exact (exited _ _ _).ite ((exited _ _ _).completeSwitch _)
  · exact h

theorem switchClockLoss (h : Keeps s x) : Keeps s (switchClockLoss x) := by
  unfold Machine.switchClockLoss
  split
  · split
    · exact h
    · exact (h.onSw _).hand _
    · exact (h.hand _).completeSwitch _
    · exact (h.hand _).completeSwitch _
  · exact h

/-! ## Links (R170 to R176) -/

theorem onRx (h : Keeps s x) (l : Fin 4) (f : Rx → Rx) : Keeps s (onRx l f x) := h.onLinkAt l _ fun _ => rfl

theorem pumpLink (h : Keeps s x) (l : Fin 4) : Keeps s (pumpLink l x) := by
  unfold Machine.pumpLink
  dsimp only
  split
  · exact h
  · split
    · exact h.onLinkAt l _ fun _ => rfl
    · refine h.ite ?_
      split
      · exact h.onLinkAt l _ fun _ => rfl
      · exact h

theorem pump (h : Keeps s x) : Keeps s (pump x) := (((h.pumpLink 0).pumpLink 1).pumpLink 2).pumpLink 3

theorem txEnd (h : Keeps s x) (l : Fin 4) : Keeps s (txEnd l x) := by
  unfold Machine.txEnd
  have ended := h.onLinkAt l endPacket fun _ => rfl
  split
  · exact (ended.onStartup _).ite (ended.pumpLink l)
  · exact h

theorem busyReply (h : Keeps s x) (l : Fin 4) (p : Packet) : Keeps s (busyReply l p x) :=
  h.onLinkAt l _ fun a => by split <;> rfl

theorem beginRequest (h : Keeps s x) (l : Fin 4) (kind : Nat) : Keeps s (beginRequest l kind x) :=
  h.onLinkAt l _ fun _ => rfl

theorem withdrawRead (h : Keeps s x) (l : Fin 4) : Keeps s (withdrawRead l x) := by
  unfold Machine.withdrawRead
  refine ite ?_ h
  exact (h.onStoreRest (fun c => { c with waitLinks := c.waitLinks.filter fun q => q.link != l }) rfl rfl).onLinkAt l _ fun _ => rfl

theorem breakUpload (h : Keeps s x) (l : Fin 4) : Keeps s (breakUpload l x) := by
  unfold Machine.breakUpload
  split
  · split
    · exact (h.areaOnly (endUpload_dram _ _ _)).raiseOn _ l
    · exact h
  · exact h

theorem breakLink (h : Keeps s x) (l : Fin 4) : Keeps s (breakLink l x) := by
  unfold Machine.breakLink
  have broken := ((h.onLinkAt l orphan fun _ => rfl).withdrawRead l).breakUpload l
  exact (broken.onStartup _).ite broken

/-! ## Start-up (chapter 11) -/

/-- Every entry to start-up: the factory seats and the entry values, with a stored setup and an operation that pass. -/
theorem startupEntry (h : Keeps s x) (c : Store) (op : Option StoreOp) (powered held : Bool)
    (hs : storedSeatsOk x.store.setup = true → storeOpOk x.store.op = true → storedSeatsOk c.setup = true)
    (ho : storeOpOk x.store.op = true → storeOpOk op = true) : Keeps s (startupEntry c op powered held x) := by
  refine ⟨h.1, h.2, fun hi => ?_, fun _ => rfl, fun _ => rfl, fun _ => rfl⟩
  have hx := h.seats hi
  simp only [seatInv, Bool.and_eq_true] at hx ⊢
  obtain ⟨⟨-, hset⟩, hop⟩ := hx
  exact ⟨⟨rfl, hs hset hop⟩, ho hop⟩

/-- A setup whose write was cut short is bad; any other stays. -/
theorem storedSeatsOk_interruptWrite (c : Store) (h : storedSeatsOk c.setup = true) :
    storedSeatsOk (interruptWrite c).setup = true := by
  unfold interruptWrite
  split
  · exact h
  · exact h
  · exact h
  · rfl
  · exact h

/-- The write that goes on over a RESTART holds the same setup. -/
theorem storeOpOk_keepWrite {o : Option StoreOp} (h : storeOpOk o = true) : storeOpOk (keepWrite o) = true := by
  unfold keepWrite
  split
  · exact h
  · exact h
  · exact h
  · exact h
  · rfl

theorem restartStep (h : Keeps s x) : Keeps s (restartStep x) := by
  unfold Machine.restartStep
  refine ite (h.startupEntry _ _ _ _ (fun hs _ => hs) fun ho => ?_) h
  have := storeOpOk_keepWrite ho
  split
  · next hw => rwa [hw] at this
  · rfl

/-- What is hidden is no part of R156. -/
theorem all_satOk_hidden (l : List Sat) (mask : List Bool) (h : l.all satOk = true) :
    (List.zipWith (fun (x : Sat) hidden => { x with hidden := hidden }) l mask).all satOk = true := by
  induction l generalizing mask with
  | nil => rfl
  | cons a t ih =>
    rw [List.all_cons, Bool.and_eq_true] at h
    cases mask with
    | nil => rfl
    | cons m ms => exact Bool.and_eq_true_iff.2 ⟨h.1, ih ms h.2⟩

/-- The seats after a stored setup is taken are the setup's. -/
theorem seats_takeSeat (links : List Link) (seats : List Seat) (h : links.length = seats.length) :
    (List.zipWith (fun x seat => takeSeat false seat x) links seats).map (·.seat) = seats := by
  rw [List.map_zipWith]
  exact List.ext_getElem (by simp [h]) (by simp [takeSeat])

/-- Every block takes its part of a setup whose seats pass. -/
theorem applySetup (h : Keeps s x) (v : Setup) (hv : seatInv s = true → seatsOk v.seats = true) :
    Keeps s (applySetup v x) := by
  unfold Machine.applySetup
  refine hand ?_ _
  refine areaOnly (onSat (onClk (onTuner ?_ _) _) _ fun hs => ?_) rfl
  · refine ⟨h.1, h.2, fun hi => ?_, h.4, h.5, h.6⟩
    have hx := h.seats hi
    have hvs := hv hi
    simp only [seatInv, seatsOk, Bool.and_eq_true, beq_iff_eq, List.length_map, onLink_link, onLink_store] at hx hvs ⊢
    obtain ⟨⟨⟨hl, -⟩, hset⟩, hop⟩ := hx
    obtain ⟨hvl, hvt⟩ := hvs
    have seats := seats_takeSeat x.link.links v.seats (hl.trans hvl.symm)
    exact ⟨⟨⟨by simp [hl, hvl], by rw [seats]; exact hvt⟩, hset⟩, hop⟩
  · exact all_satOk_hidden _ _ hs

theorem beginFirstLoad (h : Keeps s x) : Keeps s (beginFirstLoad x) := ((h.onArea _ rfl).onStoreOp _ rfl rfl).onStartup _

theorem imagesFrom (h : Keeps s x) (k : Nat) : Keeps s (imagesFrom k x) := by
  unfold Machine.imagesFrom
  dsimp only
  split
  · exact ((h.onArea _ rfl).onArea _ (joinImage_dram _ _ _)).onStoreOp _ rfl rfl
  · exact ((h.onArea _ rfl).onStoreOp _ rfl rfl).beginFirstLoad

theorem bootRead (h : Keeps s x) : Keeps s (bootRead x) := by
  unfold Machine.bootRead
  dsimp only
  split
  · next v hv =>
    refine imagesFrom (onStartup (onStartup (h.applySetup v fun hi => ?_) _) _) 0
    have hx := h.seats hi
    simp only [seatInv, Bool.and_eq_true, hv] at hx
    exact hx.1.2
  · exact imagesFrom (onStartup (onStartup (h.applySetup Setup.factory fun _ => rfl) _) _) 0

theorem imageCopied (h : Keeps s x) (k : Nat) : Keeps s (imageCopied k x) := by
  unfold Machine.imageCopied
  split
  · exact imagesFrom (h.area (dramWf_dramWriteAll _ _ _)) _
  · exact h.imagesFrom _

theorem finishFirstLoad (h : Keeps s x) : Keeps s (finishFirstLoad x) := by
  unfold Machine.finishFirstLoad
  split
  · have loaded := fun l c d w => ((((h.loadBuffer l).evalMap.hand c).hand d).onSw w).pushImages false
    exact ((((loaded _ _ _ _).presetTempo _).raise _).onStartup _).releaseHolder _ _ _ _
  · exact h

theorem startPresetRead (h : Keeps s x) (n : Nat) : Keeps s (startPresetRead n x) := by
  unfold Machine.startPresetRead
  have joined := fun c g => ((h.areaOnly (joinLines_dram x.area 0 c)).onStoreOp (fun c => { c with op := none }) rfl rfl).onStartup g
  exact (joined _ _).finishFirstLoad.ite (joined _ _)

/-! ## Cues, show and beat clock (chapter 8) -/

theorem cueSatellite (h : Keeps s x) (i r v : Nat) : Keeps s (cueSatellite i r v x) :=
  (h.writeImage i r v).ite ((h.writeImage i r v).satPush _ _ _ _)

theorem cueSwitch (h : Keeps s x) (tag preset scene precedence guard : Nat) :
    Keeps s (cueSwitch tag preset scene precedence guard x) :=
  ((h.arbiter _).ite ((h.arbiter _).cueOutcome _ _)).ite (h.cueOutcome _ _)

theorem fireCue (h : Keeps s x) (q : Cue) : Keeps s (fireCue q x) := by
  unfold Machine.fireCue
  have marked := fun f => (h.onClk f).raise .cue
  dsimp only
  split
  · exact (marked _).cueSwitch _ _ _ _ _
  · exact (marked _).commandTempo _
  · exact (marked _).setTunerMode _
  · exact (marked _).cueSatellite _ _ _
  · exact (marked _).onClk _

theorem fireList (l : List Cue) : ∀ {x : State}, Keeps s x → Keeps s (fireList l x) := by
  induction l with
  | nil => exact id
  | cons q t ih => exact fun h => (h.fireCue q).ite (ih (h.fireCue q))

theorem fireHere (h : Keeps s x) : Keeps s (fireHere x) := fireList _ h

theorem advanceShow (h : Keeps s x) : Keeps s (advanceShow x) :=
  ((h.onClk _).fireHere.ite ((h.onClk _).fireHere.ite (h.onClk _))).ite h

theorem beatDone (h : Keeps s x) : Keeps s (beatDone x) := (h.onClk _).advanceShow.raise _
theorem beatStep (h : Keeps s x) : Keeps s (beatStep x) := (h.beatDone.onClk _).ite h
theorem passSamples (h : Keeps s x) (k : Nat) : Keeps s (passSamples k x) := (h.onClk _).onTuner _

/-! ## Due events (log 1) -/

theorem cutFadeStep (h : Keeps s x) (l : Nat) : Keeps s (cutFadeStep l x) :=
  (onSw (h.audio (.emptyLane (.refl _) l)) _).ite h

theorem gateClosedStep (h : Keeps s x) (pos : Nat) : Keeps s (gateClosedStep pos x) := by
  unfold Machine.gateClosedStep
  split
  · split
    · exact (h.setInst _ _).ite h
    · exact h
  · exact h

theorem resolveFadeStep (h : Keeps s x) (pos : Nat) : Keeps s (resolveFadeStep pos x) := by
  unfold Machine.resolveFadeStep
  split
  · split
    · exact (h.audio (.cabResolve (.refl _) _ _ _ _)).ite h
    · exact h
  · exact h

theorem crossFadeStep (h : Keeps s x) (p : Place) : Keeps s (crossFadeStep p x) := by
  unfold Machine.crossFadeStep
  split
  · split
    · exact (h.setInst _ _).ite h
    · exact h
  · split
    · exact (h.onTone _).ite h
    · exact h

theorem readStartStep (h : Keeps s x) : Keeps s (readStartStep x) := by
  unfold Machine.readStartStep
  split
  · exact h.onStoreOp _ rfl rfl
  · exact h.onStoreOp _ rfl rfl
  · exact h

theorem clockReturnedStep (h : Keeps s x) : Keeps s (clockReturnedStep x) :=
  (raise (releaseHolder (onTone (h.mon _) _) _ _ _ _) _).ite h

theorem positionStep (h : Keeps s x) (pos : Nat) : Keeps s (positionStep x pos) :=
  (((h.gateClosedStep pos).audio (.weightZero (.refl _) pos)).resolveFadeStep pos).crossFadeStep _

theorem laneStep (h : Keeps s x) (l : Fin 4) : Keeps s (laneStep x l) := (h.cutFadeStep l.val).crossFadeStep _

theorem settleOnce (h : Keeps s x) : Keeps s (settleOnce x) :=
  have lanes := foldl _ (fun _ l hy => hy.laneStep l) [0, 1, 2, 3] h.restartStep.clockReturnedStep.beatStep
  have positions := foldl _ (fun _ pos hy => hy.positionStep pos) _ lanes
  (positions.deferredMoveStep.chainRestStep.lineJoinStep.swapStep.promotionStep.readStartStep).satGrantStep

theorem prelude (h : Keeps s x) : Keeps s (prelude x) := h.settleOnce.settleOnce.settleOnce.pump

end Sys2Proof.Frame.Keeps

end

section
/-! Every command keeps the queue and the invariants: the owners of the rows, the envelope of a request, `exec` and `step`. -/

namespace Sys2Proof.Frame.Keeps

open Sys2Proof Sys2Proof.Machine

variable {s x : State}

/-! ## The Area Manager's rows -/

theorem fillEnd (h : Keeps s x) (a : Nat) : Keeps s (fillEnd a x) := by
  unfold Machine.fillEnd
  have filled := fun f => (h.area (m := fillArea a x.area) (dramWf_dramClear _ _ _)).onSw f
  exact ((filled _).finishFirstLoad.ite (filled _)).ite h

theorem lapse (h : Keeps s x) (l : Fin 4) : Keeps s (lapse l x) := by
  unfold Machine.lapse
  split
  · split
    · exact (h.areaOnly (endUpload_dram _ _ _)).raiseOn _ l
    · exact h
  · exact h

theorem areaJoin (h : Keeps s x) (l : Fin 4) (taps : Nat) : Keeps s (areaJoin l taps x) := by
  unfold Machine.areaJoin
  refine (h.refuse l _).ite ((h.refuse l _).ite ((h.refuse l _).ite ?_))
  split
  · exact (h.onArea _ rfl).answer _ _ _
  · exact h.refuse l _

theorem areaWrite (h : Keeps s x) (l : Fin 4) (words : List Int) : Keeps s (areaWrite l words x) := by
  unfold Machine.areaWrite
  refine (h.refuse l _).ite ?_
  split
  · split
    · exact answer (h.area (dramWf_dramWriteAll _ _ _)) _ _ _
    · exact h.refuse l _
  · exact h.refuse l _

theorem areaUnjoin (h : Keeps s x) (l : Fin 4) : Keeps s (areaUnjoin l x) := by
  unfold Machine.areaUnjoin
  split
  · split
    · exact (h.areaOnly (endUpload_dram _ _ _)).answer _ _ _
    · exact h.refuse l _
  · exact h.refuse l _

theorem imageSave (h : Keeps s x) (l : Fin 4) (slot : Nat) : Keeps s (imageSave l slot x) := by
  unfold Machine.imageSave
  refine (h.refuse l _).ite ?_
  split
  · split
    · exact (h.refuse l _).ite ((h.refuse l _).ite ((h.onArea _ rfl).onStoreOp _ rfl rfl))
    · exact h.refuse l _
  · exact h.refuse l _

/-! ## The Scene Controller's rows -/

theorem control (h : Keeps s x) (source value : Nat) : Keeps s (control source value x) := by
  refine h.ite (driveSource (x := Machine.onScene (fun c => { c with controls := c.controls.set source (min 1023 value) }) x)
    ⟨h.1, h.2, h.3, h.4, h.5, fun hi => ?_⟩ source)
  have hx := h.controls hi
  simp only [controlInv, Bool.and_eq_true, beq_iff_eq, List.all_eq_true, decide_eq_true_eq, onScene_scene] at hx ⊢
  obtain ⟨hlen, hall⟩ := hx
  refine ⟨by simpa using hlen, fun v hv => ?_⟩
  rcases List.mem_or_eq_of_mem_set hv with hin | rfl
  · exact hall v hin
  · exact Nat.min_le_left _ _

theorem withRecord (h : Keeps s x) (l : Fin 4) (f : Record → State → State) (hf : ∀ r, Keeps s (f r x)) :
    Keeps s (withRecord l f x) := by
  unfold Machine.withRecord
  split
  · exact hf _
  · exact h.refuse l _

theorem setBase (h : Keeps s x) (t : Target) (v : Int) : Keeps s (setBase t v x) := by
  unfold Machine.setBase
  cases t with
  | param p i => exact h.onSlotAt _ _
  | bypass p => exact h.onSlotAt _ _
  | level => exact h
  | sat i r => exact h

theorem setParam (h : Keeps s x) (l : Fin 4) (kind pos index value : Nat) (r : Record) :
    Keeps s (setParam l kind pos index value r x) := by
  unfold Machine.setParam Machine.storeParam
  split
  · have stored := fun t v k f => ((h.onSceneAt k f).ite (c := isOverridden x t = true) (h.setBase t v)).takenEdit
    exact (h.refuse l _).ite ((((stored _ _ _ _).handAlways _).ite ((stored _ _ _ _).handChanged _ _)).answer _ _ _)
  · exact h.refuse l _

theorem takeScene (h : Keeps s x) (scene : Nat) (f : Scene → Scene) (t : Option Target) :
    Keeps s (takeScene scene f t x) := by
  unfold Machine.takeScene
  have edited := (h.onSceneAt scene f).takenEdit
  cases t with
  | none => exact edited
  | some t => exact (edited.handChanged _ _).ite edited

theorem sceneSetOverride (h : Keeps s x) (l : Fin 4) (scene : Nat) (raw : RawTarget) (value : Nat) (r : Record) :
    Keeps s (sceneSetOverride l scene raw value r x) := by
  unfold Machine.sceneSetOverride
  split
  · exact (h.refuse l _).ite ((h.refuse l _).ite ((h.takeScene _ _ _).answer _ _ _))
  · exact h.refuse l _

theorem sceneRemoveOverride (h : Keeps s x) (l : Fin 4) (scene : Nat) (raw : RawTarget) (r : Record) :
    Keeps s (sceneRemoveOverride l scene raw r x) := by
  unfold Machine.sceneRemoveOverride
  split
  · exact (h.refuse l _).ite ((h.refuse l _).ite ((h.takeScene _ _ _).answer _ _ _))
  · exact h.refuse l _

theorem takeField (h : Keeps s x) (l : Fin 4) (clamped : Bool) (f : Record → Record) : Keeps s (takeField l clamped f x) :=
  (h.onRecord f).takenEdit.answer _ _ _

theorem takeSlotData (h : Keeps s x) (l : Fin 4) (pos : Nat) (f : SlotRec → SlotRec) : Keeps s (takeSlotData l pos f x) :=
  (h.refuse l _).ite ((h.onSlotAt _ _).takenEdit.answer _ _ _)

theorem setMap (h : Keeps s x) (map : List MapEntry) (driven : List Int) : Keeps s (setMap map driven x) :=
  ((h.onRecord _).onScene (fun c => { c with driven := driven }) rfl rfl).takenEdit

theorem mapAdd (h : Keeps s x) (l : Fin 4) (raw : RawEntry) (r : Record) : Keeps s (mapAdd l raw r x) := by
  unfold Machine.mapAdd
  refine (h.refuse l _).ite ?_
  split
  · split
    · exact h.refuse l _
    · exact ((h.setMap _ _).handAlways _).answer _ _ _
  · exact h.refuse l _

theorem replaceEntry (h : Keeps s x) (k : Nat) (old : Target) (r : Record) (e : MapEntry) :
    Keeps s (replaceEntry k old r e x) :=
  ((h.setMap _ _).driveEntry k).ite (((h.setMap _ _).handChanged x old).handAlways e.target)

theorem mapReplace (h : Keeps s x) (l : Fin 4) (number : Nat) (raw : RawEntry) (r : Record) :
    Keeps s (mapReplace l number raw r x) := by
  unfold Machine.mapReplace
  split
  · split
    · exact h.refuse l _
    · exact (h.replaceEntry _ _ _ _).answer _ _ _
  · exact h.refuse l _

theorem mapRemove (h : Keeps s x) (l : Fin 4) (number : Nat) (r : Record) : Keeps s (mapRemove l number r x) := by
  unfold Machine.mapRemove
  split
  · exact ((h.setMap _ _).handChanged _ _).answer _ _ _
  · exact h.refuse l _

theorem takeChain (h : Keeps s x) (l : Fin 4) (c : ChainPlan) : Keeps s (takeChain l c x) := by
  have taken := ((h.onRecord fun _ => c.record).onScene
    (fun x => { x with driven := c.driven, posMap := some c.posMap }) rfl rfl).takenEdit
  exact ((foldl _ (fun _ t hy => hy.handChanged _ t) _ taken).arbiter _).answer _ _ _

theorem chainBody (h : Keeps s x) (p : Pkt) (plan : Record → List Int → Option ChainPlan) : Keeps s (chainBody p plan x) := by
  unfold Machine.chainBody
  refine (h.refuse _ _).ite ((h.refuse _ _).ite ((h.refuse _ _).ite (h.withRecord _ _ fun r => ?_)))
  split
  · split
    · exact h.refuse _ _
    · exact h.takeChain _ _
  · exact h.refuse _ _

/-! ## The Satellite Controller's rows -/

theorem writeAnswered (h : Keeps s x) : Keeps s (writeAnswered x) := by
  unfold Machine.writeAnswered
  split
  · split
    · exact (h.endTrans.satWriteAnswer _ _ _).ite h
    · exact h
  · exact h

theorem statusWriteAnswered (h : Keeps s x) : Keeps s (statusWriteAnswered x) := by
  unfold Machine.statusWriteAnswered
  split
  · exact (h.endTrans.satStatusWriteAnswer _).ite h
  · exact h

theorem pollAnswered (h : Keeps s x) (status : Byte) : Keeps s (pollAnswered status x) := by
  unfold Machine.pollAnswered
  split
  · exact (h.endTrans.satPollAnswer _ _).ite h
  · exact h

theorem passOutcome (h : Keeps s x) (t : Trans) (data : Byte) : Keeps s (passOutcome t data x) :=
  ((h.satPollAnswer _ _).ite (h.satAnswered _)).ite (h.satWriteAnswer _ _ _)

theorem passAnswered (h : Keeps s x) (data : Byte) : Keeps s (passAnswered data x) := by
  unfold Machine.passAnswered
  split
  · split
    · exact (h.endTrans.passOutcome _ _).answer _ _ _
    · exact h
  · exact h

theorem transFailed (h : Keeps s x) : Keeps s (transFailed x) := by
  unfold Machine.transFailed
  split
  · dsimp only
    split
    · exact (h.endTrans.satFailed _).passAbsent _
    · exact h.endTrans.satFailed _
  · exact h

theorem pollExpiry (h : Keeps s x) : Keeps s (pollExpiry x) :=
  (h.onSat _ fun hs => by simpa [List.all_map, Function.comp_def, satOk, noMarks] using hs).ite h

theorem refreshSat (h : Keeps s x) (i : Nat) : Keeps s (refreshSat i x) :=
  (h.satSetStateAfter i .behind (fun x => { x with marks := x.marks.map (enterMark .routine) }) (by decide) fun _ => rfl).ite h

theorem refreshExpiry (h : Keeps s x) : Keeps s (refreshExpiry x) :=
  (foldl _ (fun _ _ hy => hy.refreshSat _) _ h).ite h

theorem queuePass (h : Keeps s x) (q : PassReq) : Keeps s (queuePass q x) := (h.passAbsent _).ite (h.onSatRest _ rfl)

theorem satWriteArrival (h : Keeps s x) (sat reg value : Nat) : Keeps s (satWriteArrival sat reg value x) :=
  ((h.writeImage _ _ _).satEnter _ _ _).ite ((h.writeImage _ _ _).satPush _ _ _ _)

theorem satClear (h : Keeps s x) (l : Fin 4) (sat : Nat) : Keeps s (satClear l sat x) := by
  have cleared := (h.onSatAt sat (fun x => { x with latch := none }) fun _ ha => ha).raise .satellite
  exact ((cleared.ite h).answer _ _ _).ite (h.refuse l _)

theorem satHiding (h : Keeps s x) (l : Fin 4) (sat value : Nat) : Keeps s (satHiding l sat value x) :=
  (h.refuse l _).ite ((h.answer _ _ _).ite (((h.satUnhide _).answer _ _ _).ite ((h.onSatRest _ rfl).ite
    ((h.satHide _).answer _ _ _))))

/-! ## The Show Clock's rows -/

theorem beatRow (h : Keeps s x) : Keeps s (beatRow x) := ((h.onTone _).passSamples _).beatStep.ite h

theorem pulseCounts (h : Keeps s x) : Keeps s (pulseCounts x) :=
  ((h.onClk _).fireHere.raise _).ite ((h.onClk _).beatDone.ite (h.onClk _))

theorem pulse (h : Keeps s x) : Keeps s (pulse x) :=
  ((h.onClk _).ite (((h.onClk _).onClk _).setTempo _ |>.ite ((h.onClk _).onClk _)).pulseCounts).ite h

theorem takeTap (h : Keeps s x) : Keeps s (takeTap x) := by
  unfold Machine.takeTap
  refine h.ite ((h.onClk _).ite ?_)
  split
  · exact h.onClk _
  · exact h.ite ((h.onClk _).ite ((h.onClk _).setTempo _))

theorem transportReply (h : Keeps s x) (l : Fin 4) : Keeps s (transportReply l x) := h.answer _ _ _

theorem showStart (h : Keeps s x) : Keeps s (showStart x) := ((h.onClk _).ite (h.onClk _).fireHere).ite h
theorem showContinue (h : Keeps s x) : Keeps s (showContinue x) := (h.onClk _).fireHere.ite h

theorem showLocate (h : Keeps s x) (b k : Nat) (chase : Bool) : Keeps s (showLocate b k chase x) := by
  unfold Machine.showLocate
  have located := h.onClk (locateClock b k)
  dsimp only
  split
  · exact ((located.fireCue _).ite located).fireHere.ite ((located.fireCue _).ite located)
  · exact located.fireHere.ite located

theorem cueInsert (h : Keeps s x) (l : Fin 4) (b k kind : Nat) (args : List Nat) : Keeps s (cueInsert l b k kind args x) := by
  unfold Machine.cueInsert
  dsimp only
  split
  · exact (h.refuse l _).ite ((h.refuse l _).ite ((h.refuse l _).ite ((h.onClk _).answer _ _ _)))
  · exact h.refuse l _

theorem cueDelete (h : Keeps s x) (l : Fin 4) (n b k : Nat) : Keeps s (cueDelete l n b k x) := by
  unfold Machine.cueDelete
  split
  · exact ((h.onClk _).answer _ _ _).ite (h.refuse l _)
  · exact h.refuse l _

/-! ## The Preset Store's rows -/

theorem writeDone (h : Keeps s x) (link : Option (Fin 4)) (k : WriteKind) (n : Option Nat) :
    Keeps s (writeDone link k n x) :=
  ((h.onStoreOp (fun c => { c with op := if link.isNone && x.startup.phase == .booting then some (.startRead .setup) else none })
    rfl (by dsimp only; split <;> rfl)).onStoreRest _ rfl rfl).raise _

theorem storeMatch (h : Keeps s x) (n : Nat) (seq : Word32) : Keeps s (storeMatch n seq x) :=
  ((h.onBuffer _).ite ((h.onBuffer _).raise _)).ite (h.stashLeave _)

theorem presetStored (h : Keeps s x) (link : Option (Fin 4)) (n : Nat) (snap : Record) (seq : Word32) :
    Keeps s (presetStored link n snap seq x) := by
  have written := h.onStoreRest
    (fun c => { c with library := c.library.set n ⟨true, some snap, checkWord (recordBytes snap)⟩ }) rfl rfl
  exact (((written.storeMatch n seq).ite written).answerOpt _ _ _).writeDone _ _ _

theorem presetErased (h : Keeps s x) (link : Option (Fin 4)) (n : Nat) : Keeps s (presetErased link n x) := by
  have erased := h.onStoreRest (fun c => { c with library := c.library.set n LibPlace.blank }) rfl rfl
  exact (((erased.onBuffer _).ite erased).answerOpt _ _ _).writeDone _ _ _

theorem imageStored (h : Keeps s x) (link : Option (Fin 4)) (slot a taps : Nat) (words : List Word32) :
    Keeps s (imageStored link slot a taps words x) := by
  have written := h.onStoreRest (fun c => { c with images := c.images.set slot (.good taps words) }) rfl rfl
  refine writeDone ?_ _ _ _
  cases link with
  | none => exact written
  | some l =>
    have taken := written.onArea (imageTaken l slot a taps) (imageTaken_dram _ _ _ _ _)
    exact ((taken.raiseOn .area l).ite taken).answer _ _ _

/-- The seats of a setup that is stored passed while its write was in flight. -/
theorem setupStored (h : Keeps s x) (link : Option (Fin 4)) (snap : Setup) (hop : x.store.op = some (.setupStore link snap)) :
    Keeps s (setupStored link snap x) := by
  have written : Keeps s (Machine.onStore (fun c => { c with setup := .good snap }) x) :=
    h.onStore _ (fun _ ho => by rw [hop] at ho; exact ho) id
  exact (((written.onStartup _).ite written).answerOpt _ _ _).writeDone _ _ _

theorem readAnswer (h : Keeps s x) (l : Fin 4) (n chunk : Nat) : Keeps s (readAnswer l n chunk x) := by
  unfold Machine.readAnswer
  split
  · exact h.refuse l _
  · exact h.refuse l _
  · dsimp only
    split <;> exact h.answer _ _ _

theorem loadRead (h : Keeps s x) (n : Nat) : Keeps s (loadRead n x) := by
  unfold Machine.loadRead
  split
  · split
    · exact h.failSwitch _ _
    · exact h.failSwitch _ _
    · exact h.endLoading _
  · exact h

theorem readPreset (h : Keeps s x) (l : Fin 4) (n chunk : Nat) : Keeps s (readPreset l n chunk x) :=
  (h.refuse l _).ite ((h.onStoreRest _ rfl rfl).ite (h.onStoreOp _ rfl rfl))

theorem readBuffer (h : Keeps s x) (l : Fin 4) (src chunk : Nat) : Keeps s (readBuffer l src chunk x) := by
  unfold Machine.readBuffer
  split
  · dsimp only
    split
    · exact h.answer _ _ _
    · exact h.refuse l _
  · exact h.refuse l _

theorem storePreset (h : Keeps s x) (l : Fin 4) (n src : Nat) : Keeps s (storePreset l n src x) := by
  unfold Machine.storePreset
  refine (h.refuse l _).ite ?_
  split
  · exact (h.refuse l _).ite (h.onStoreOp _ rfl rfl)
  · exact h.refuse l _

theorem erasePreset (h : Keeps s x) (l : Fin 4) (n : Nat) : Keeps s (erasePreset l n x) :=
  (h.refuse l _).ite ((h.refuse l _).ite (h.onStoreOp _ rfl rfl))

/-- The setup that SETUP_SAVE stores holds the seats in force. -/
theorem setupSave (h : Keeps s x) (l : Fin 4) : Keeps s (setupSave l x) := by
  refine (h.refuse l _).ite ⟨h.1, h.2, fun hi => ?_, h.4, h.5, h.6⟩
  have hx := h.seats hi
  simp only [seatInv, Bool.and_eq_true] at hx ⊢
  exact ⟨hx.1, hx.1.1⟩

/-! ## The Switch Engine's rows -/

theorem linkSwitch (h : Keeps s x) (l : Fin 4) (t : SwTarget) (flags : Nat) : Keeps s (linkSwitch l t flags x) :=
  (h.arbiter _).answer _ _ _

theorem switchRequest (h : Keeps s x) (l : Fin 4) (preset scene flags : Nat) : Keeps s (switchRequest l preset scene flags x) :=
  (h.refuse l _).ite ((h.refuse l _).ite (h.linkSwitch _ _ _))

theorem recallRequest (h : Keeps s x) (l : Fin 4) (index flags : Nat) : Keeps s (recallRequest l index flags x) := by
  unfold Machine.recallRequest
  split
  · exact (h.refuse l _).ite (h.linkSwitch _ _ _)
  · exact h.refuse l _

theorem dropStash (h : Keeps s x) (l : Fin 4) (index : Nat) : Keeps s (dropStash l index x) :=
  (((h.stashSublist (fun c => { c with stash := c.stash.eraseIdx index }) (List.eraseIdx_sublist _ _) rfl).raise _).answer
    _ _ _).ite (h.refuse l _)

/-! ## The Tone Engine's rows and the Clock Monitor's -/

/-- Running a frame writes DRAM words one by one. -/
theorem runSamples_dram (f : List (Nat × Word32) × Nat → Stereo → (List (Nat × Word32) × Nat) × Stereo)
    (hf : ∀ st x, dramWf st.1 = true → dramWf (f st x).1.1 = true) (xs : List Stereo) :
    ∀ st, dramWf st.1 = true → dramWf (runSamples f st xs).1.1 = true := by
  induction xs with
  | nil => exact fun _ h => h
  | cons x t ih => exact fun st h => ih _ (hf st x h)

theorem runLine_dram (dram : List (Nat × Word32)) (free : Nat) (i : Inst) (xs : List Stereo) (h : dramWf dram = true) :
    dramWf (runLine dram free i xs).dram = true := by
  unfold runLine
  split
  · exact runSamples_dram _ (fun st x hst => dramWf_lineWrite _ _ _ _ hst) xs (dram, _) h
  · exact h
  · exact h

theorem runInst_dram (env : FrameEnv) (dram : List (Nat × Word32)) (free : Nat) (i : Inst) (xs : List Stereo)
    (h : dramWf dram = true) : dramWf (runInst env dram free i xs).dram = true := by
  unfold runInst
  split
  · exact runLine_dram dram free i xs h
  · split
    · exact h
    · exact h

theorem runChain_dram (env : FrameEnv) (chain : List Position) : ∀ (dram : List (Nat × Word32)) (free : Nat) (xs : List Stereo),
    dramWf dram = true → dramWf (runChain env dram free chain xs).dram = true := by
  induction chain with
  | nil => exact fun _ _ _ h => h
  | cons p ps ih =>
    intro dram free xs h
    unfold runChain
    split
    · exact ih _ _ _ h
    · exact ih _ _ _ (runInst_dram _ _ _ _ _ h)

theorem runLane_dram (inputs : List (List Stereo)) (dram : List (Nat × Word32)) (free : Nat) (l : Lane) (h : dramWf dram = true) :
    dramWf (runLane inputs dram free l).2.2.1 = true := by
  unfold runLane
  split
  · split
    · exact h
    · exact runLine_dram _ _ _ _ h
  · exact h

theorem runLanes_dram (inputs : List (List Stereo)) (lanes : List Lane) : ∀ (dram : List (Nat × Word32)) (free : Nat),
    dramWf dram = true → dramWf (runLanes inputs dram free lanes).2.2.1 = true := by
  induction lanes with
  | nil => exact fun _ _ h => h
  | cons l ls ih => exact fun dram free h => ih _ _ (runLane_dram inputs dram free l h)

theorem runFrame (h : Keeps s x) (c : Captured) : Keeps s (runFrame c x) :=
  ⟨h.1, fun hd => runLanes_dram _ _ _ _ (runChain_dram _ _ _ _ _ (h.2 hd)), h.3, h.4, h.5, h.6⟩

theorem passToBoundary (h : Keeps s x) (k : Nat) : Keeps s (passToBoundary k x) :=
  ((h.passSamples _).beatStep.prelude.passSamples _).ite (h.passSamples k)

theorem boundary (h : Keeps s x) (c : Captured) : Keeps s (boundary c x) := by
  unfold Machine.boundary
  have changed := ((h.passToBoundary (32 - x.tone.framePhase)).onTuner (tunerFrame c)).handLens.onTone fun t =>
    { t with lanes := t.lanes.map laneNatural }
  have taken : Keeps s (takeUp _) := audio (changed.onTone _) (.applyChanges (.refl _) false _)
  exact ((taken.onTone _).runFrame c).onTone _

theorem clockLoss (h : Keeps s x) : Keeps s (clockLoss x) := by
  unfold Machine.clockLoss Machine.setClockHolder
  have changed := fun f => audio ((h.mon ⟨.lost, 0, false⟩).onTone f) (.applyChanges (.refl _) true x.tone.changes)
  have lost := fun f g k => (((changed f).setHolder g k).hand .cutAll).switchClockLoss
  exact ((((lost _ _ _).onTone _).ite (lost _ _ _)).clearTuner.onClk _).raise _

theorem afsEdge (h : Keeps s x) (n : Nat) : Keeps s (afsEdge n x) := by
  unfold Machine.afsEdge
  split
  · exact (((h.mon _).onTone _).passSamples 1).ite (h.mon _)
  · exact h.mon _
  · exact h.mon _

theorem noSignal (h : Keeps s x) : Keeps s (noSignal x) := ((h.onTuner _).ite ((h.onTuner _).raise _)).ite h

/-! ## The Link Controller's rows -/

theorem unknownKind (h : Keeps s x) (l : Fin 4) (kind : Byte) : Keeps s (unknownKind l kind x) := by
  unfold Machine.unknownKind
  refine h.ite ?_
  dsimp only
  split
  · exact (h.onRx _ _).busyReply _ _
  · exact ((h.onRx _ _).beginRequest _ _).answer _ _ _

theorem subscribe (h : Keeps s x) (l : Fin 4) (mask : Nat) : Keeps s (subscribe l mask x) :=
  (h.onLinkTier l (takeMask (maskOf mask)) fun _ => rfl).answer _ _ _

/-- The seats after a link takes a new one. -/
theorem seats_modAt_takeSeat (own : Bool) (seat : Seat) (links : List Link) (k : Nat) :
    (modAt links k (takeSeat own seat)).map (·.seat) = (links.map (·.seat)).set k seat := by
  apply List.ext_getElem?
  intro j
  simp only [List.getElem?_map, getElem?_modAt, List.getElem?_set, List.length_map]
  by_cases hj : j = k
  · subst hj
    by_cases hl : j < links.length
    · simp [hl, Machine.takeSeat]
    · simp [hl]
  · simp [hj, Ne.symm hj]

/-- A link takes a seat that leaves one at tier SETUP. -/
theorem takeSeat (h : Keeps s x) (l k : Nat) (seat : Seat) (hk : k < 4) (hset : keepsSetup k seat x = true) :
    Keeps s (Machine.onLinkAt (Fin.ofNat 4 k) (Machine.takeSeat (k == l) seat) x) := by
  refine ⟨h.1, h.2, fun hi => ?_, h.4, h.5, h.6⟩
  have hval : (Fin.ofNat 4 k).val = k := Nat.mod_eq_of_lt hk
  have hx := h.seats hi
  simp only [seatInv, seatsOk, Bool.and_eq_true, onLinkAt_link, onLinkAt_store, hval, seats_modAt_takeSeat] at hx ⊢
  obtain ⟨⟨⟨hlen, -⟩, hsetup⟩, hop⟩ := hx
  exact ⟨⟨⟨by simpa using hlen, hset⟩, hsetup⟩, hop⟩

theorem seatSet (h : Keeps s x) (l : Fin 4) (k : Nat) (raw : RawSeat) : Keeps s (seatSet l k raw x) := by
  unfold Machine.seatSet
  split
  · next seat _ =>
    split
    · exact h.refuse l _
    · next hk =>
      split
      · exact h.refuse l _
      · next hset =>
        exact (h.takeSeat l.val k seat (by omega) (by simpa using hset)).answerTagged _ _ _ _
  · exact h.refuse l _

theorem panic (h : Keeps s x) (l : Fin 4) : Keeps s (panic l x) :=
  (((((h.onLink _ rfl).setHolder _ _).hand _).onClk _).raise _).answer _ _ _

theorem unpanic (h : Keeps s x) (l : Fin 4) : Keeps s (unpanic l x) :=
  ((((h.onLink _ rfl).releaseHolder _ _ _ _).raise _).ite h).answer _ _ _

/-! ## The envelope of a request (R172) -/

variable {f : State → State} {owner : State → State}

/-- An outside event carries out what is due first. -/
theorem outside {t : State} (h : Machine.outside f s = .next t) (hf : ∀ x, Keeps s x → Keeps s (f x)) : Keeps s t := by
  cases h
  exact (hf _ (prelude (refl s))).ite (refl s)

theorem inside {t : State} (h : Machine.inside f s = .next t) (hf : ∀ x, Keeps s x → Keeps s (f x)) : Keeps s t := by
  cases h
  exact (hf _ (refl s)).ite (refl s)

theorem checkedRequest (h : Keeps s x) (p : Pkt) (cls : Nat) (own : Bool) (ho : ∀ x, Keeps s x → Keeps s (owner x)) :
    Keeps s (checkedRequest p cls own owner x) :=
  (h.refuse _ _).ite ((h.refuse _ _).ite ((h.refuse _ _).ite (ho _ h)))

theorem dispatch (h : Keeps s x) (p : Pkt) (kind cls : Nat) (always own : Bool) (ho : ∀ x, Keeps s x → Keeps s (owner x)) :
    Keeps s (dispatch p kind cls always own owner x) := by
  unfold Machine.dispatch
  refine h.ite ?_
  dsimp only
  split
  · exact (h.onRx _ _).busyReply _ _
  · have begun := (h.onRx p.link fun _ => rxHunt).beginRequest p.link kind
    exact (begun.checkedRequest p cls own ho).ite (((ho _ begun).ite (begun.refuse _ _)).ite (begun.refuse _ _))

theorem request {p : Pkt} {kind cls : Nat} {t : State} (h : Machine.request p kind cls owner s = .next t)
    (ho : ∀ x, Keeps s x → Keeps s (owner x)) : Keeps s t :=
  outside h fun _ hx => hx.dispatch p kind cls false false ho

theorem statusRequest {p : Pkt} {kind : Nat} {content : State → List Byte} {t : State}
    (h : Machine.statusRequest p kind content s = .next t) : Keeps s t :=
  request h fun _ hx => hx.answer _ _ _

theorem fireAndForget {p : Pkt} {t : State} (h : Machine.fireAndForget p owner s = .next t)
    (ho : ∀ x, Keeps s x → Keeps s (owner x)) : Keeps s t :=
  outside h fun _ hx => hx.ite ((hx.onRx _ _).ite (ho _ (hx.onRx _ _)))

theorem edit {p : Pkt} {kind cls expected : Nat} {t : State} (h : Machine.edit p kind cls expected owner s = .next t)
    (ho : ∀ x, Keeps s x → Keeps s (owner x)) : Keeps s t :=
  outside h fun _ hx => hx.dispatch p kind cls false true fun _ hy => (hy.refuse _ _).ite ((hy.refuse _ _).ite (ho _ hy))

theorem sceneEdit {p : Pkt} {expected scene : Nat} {body : Record → State → State}
    {t : State} (h : Machine.sceneEdit p expected scene body s = .next t)
    (ho : ∀ r x, Keeps s x → Keeps s (body r x)) : Keeps s t :=
  edit h fun x hx => hx.withRecord p.link _ fun r => (hx.refuse p.link .badArg).ite (ho r x hx)

theorem chainEdit {p : Pkt} {expected : Nat} {plan : Record → List Int → Option ChainPlan} {t : State}
    (h : Machine.chainEdit p expected plan s = .next t) : Keeps s t :=
  outside h fun _ hx => hx.dispatch p 0x1D 9 false true fun _ hy => (hy.refuse _ _).ite (hy.chainBody p plan)

end Sys2Proof.Frame.Keeps

end

section
/-! Every command and every step keep the queue and the invariants; what the step does with its queue. -/

namespace Sys2Proof.Frame.Keeps

open Sys2Proof Sys2Proof.Machine

variable {s x : State}

/-! ## The remaining owners -/

theorem sceneAdd (h : Keeps s x) (l : Fin 4) (scene : Nat) (r : Record) : Keeps s (sceneAdd l scene r x) :=
  (h.refuse l _).ite ((h.refuse l _).ite ((h.onRecord _).takenEdit.answer _ _ _))

theorem sceneSetName (h : Keeps s x) (l : Fin 4) (scene : Nat) (name : List Nat) : Keeps s (sceneSetName l scene name x) :=
  ((h.takeScene _ _ _).answer _ _ _).ite (h.refuse l _)

theorem sceneRemove (h : Keeps s x) (l : Fin 4) (scene : Nat) (r : Record) : Keeps s (sceneRemove l scene r x) :=
  (h.refuse l _).ite ((h.onBuffer _).takenEdit.answer _ _ _)

theorem presetName (h : Keeps s x) (l : Fin 4) (name : List Nat) : Keeps s (presetName l name x) :=
  (h.takeField l _ _).ite (h.refuse l _)

theorem presetTempoField (h : Keeps s x) (l : Fin 4) (tempo : Nat) : Keeps s (presetTempoField l tempo x) :=
  (h.takeField l _ _).ite (h.takeField l _ _)

theorem shaperRun (h : Keeps s x) (l : Fin 4) (pos start : Nat) (points : List Int) (r : Record) :
    Keeps s (shaperRun l pos start points r x) := (h.takeSlotData l _ _).ite (h.refuse l _)

theorem toneSet (h : Keeps s x) (l : Fin 4) (pos filter knobSet : Nat) (b : Biquad) (r : Record) :
    Keeps s (toneSet l pos filter knobSet b r x) := (h.takeSlotData l _ _).ite (h.refuse l _)

theorem imageSet (h : Keeps s x) (l : Fin 4) (sat reg value : Nat) : Keeps s (imageSet l sat reg value x) :=
  (((h.onRecord _).takenEdit.handChanged _ _).answer _ _ _).ite (h.refuse l _)

theorem imageClear (h : Keeps s x) (l : Fin 4) (sat reg : Nat) (r : Record) : Keeps s (imageClear l sat reg r x) :=
  (((h.onRecord _).takenEdit.handChanged _ _).answer _ _ _).ite (h.refuse l _)

theorem satStatus (h : Keeps s x) (l : Fin 4) (sat : Nat) : Keeps s (satStatus l sat x) :=
  (h.answer l _ _).ite ((h.answer l _ _).ite (h.refuse l _))

theorem satWrite (h : Keeps s x) (l : Fin 4) (sat reg value : Nat) : Keeps s (satWrite l sat reg value x) :=
  ((h.satWriteArrival _ _ _).queuePass _).ite (h.refuse l _)

theorem satRead (h : Keeps s x) (l : Fin 4) (sat reg : Nat) : Keeps s (satRead l sat reg x) :=
  (h.queuePass _).ite (h.refuse l _)

theorem satHoldAuto (h : Keeps s x) (l : Fin 4) (value : Nat) : Keeps s (satHoldAuto l value x) :=
  (h.refuse l _).ite ((h.ite ((h.onSatRest _ rfl).raise _)).answer l _ _)

theorem satRefresh (h : Keeps s x) (l : Fin 4) (value : Nat) : Keeps s (satRefresh l value x) :=
  (h.refuse l _).ite (((h.onSatRest _ rfl).ite ((h.onSatRest _ rfl).raise _)).answer l _ _)

theorem cueList (h : Keeps s x) (l : Fin 4) (start : Nat) : Keeps s (cueList l start x) :=
  (h.refuse l _).ite (h.answer l _ _)

theorem tempoSourceRequest (h : Keeps s x) (l : Fin 4) (v : Nat) : Keeps s (tempoSourceRequest l v x) := by
  unfold Machine.tempoSourceRequest
  split
  · exact (h.ite ((h.onClk _).raise _)).answer l _ _
  · exact h.refuse l _

theorem tempoLock (h : Keeps s x) (l : Fin 4) (v : Nat) : Keeps s (tempoLock l v x) :=
  (h.refuse l _).ite ((h.ite ((h.onClk _).raise _)).answer l _ _)

theorem setBeatsPerBar (h : Keeps s x) (l : Fin 4) (v : Nat) : Keeps s (setBeatsPerBar l v x) :=
  (h.refuse l _).ite ((h.refuse l _).ite ((h.onClk _).answer l _ _))

theorem locateRequest (h : Keeps s x) (l : Fin 4) (b k chase : Nat) : Keeps s (locateRequest l b k chase x) :=
  (h.refuse l _).ite ((h.showLocate _ _ _).transportReply l)

theorem pulseTimeout (h : Keeps s x) : Keeps s (pulseTimeout x) := ((h.onClk _).raise _).ite h

theorem accessSet (h : Keeps s x) (l : Fin 4) (cls tier : Nat) : Keeps s (accessSet l cls tier x) :=
  (h.refuse l _).ite ((h.onLink _ rfl).answer l _ _)

theorem startPreset (h : Keeps s x) (l : Fin 4) (preset scene : Nat) : Keeps s (startPreset l preset scene x) :=
  ((h.onLink _ rfl).answer l _ _).ite (h.refuse l _)

theorem tunerModeRequest (h : Keeps s x) (l : Fin 4) (mode : Nat) : Keeps s (tunerModeRequest l mode x) := by
  unfold Machine.tunerModeRequest
  split
  · exact (h.setTunerMode _).answer l _ _
  · exact h.refuse l _

theorem tunerSource (h : Keeps s x) (l : Fin 4) (source : Nat) : Keeps s (tunerSource l source x) :=
  (h.refuse l _).ite ((h.ite (h.clearTuner.onTuner _)).answer l _ _)

theorem tunerReadingKind (h : Keeps s x) (l : Fin 4) (kind set : Nat) : Keeps s (tunerReadingKind l kind set x) :=
  (h.refuse l _).ite ((h.onTuner _).answer l _ _)

theorem tunerString (h : Keeps s x) (l : Fin 4) (set index note : Nat) (offset : Int) :
    Keeps s (tunerString l set index note offset x) :=
  have taken := fun f st => (h.onTuner f).answer l st []
  (h.refuse l _).ite (((taken _ _).ite (h.refuse l _)).ite ((taken _ _).ite ((taken _ _).ite (h.refuse l _))))

theorem watchdogExpiry (h : Keeps s x) : Keeps s (if x.mon.watchdog then
    match x.mon.state with
    | .present => Machine.clockLoss x
    | .returning => { x with mon := ⟨.lost, 0, false⟩ }
    | .lost => { x with mon := ⟨.lost, 0, false⟩ }
    else x) := by
  refine ite ?_ h
  cases x.mon.state
  case present => exact h.clockLoss
  case returning => exact h.mon _
  case lost => exact h.mon _

/-! ## The supply and RESET_N -/

theorem powerOn (h : Keeps s x) (held : Bool) :
    Keeps s (Machine.startupEntry (interruptWrite x.store) (if held then none else some (.startRead .setup)) true held x) :=
  h.startupEntry _ _ _ _ (fun hs _ => storedSeatsOk_interruptWrite _ hs) fun _ => by cases held <;> rfl

theorem resetAssert (h : Keeps s x) (n : Nat) : Keeps s (if n < 10 then x
    else if x.startup.powered then Machine.startupEntry (interruptWrite x.store) none true true x
    else Machine.onStartup (fun u => { u with resetHeld := true }) x) :=
  h.ite ((h.startupEntry _ _ _ _ (fun hs _ => storedSeatsOk_interruptWrite _ hs) fun _ => rfl).ite (h.onStartup _))

theorem resetRelease (h : Keeps s x) : Keeps s (if x.startup.resetHeld then
    Machine.onStartup (fun u => { u with resetHeld := false })
      (if x.startup.powered then Machine.onStore (fun c => { c with op := some (.startRead .setup) }) x else x)
    else x) :=
  (((h.onStoreOp _ rfl rfl).ite h).onStartup _).ite h

theorem powerLoss (h : Keeps s x) :
    Keeps s (Machine.startupEntry (interruptWrite x.store) none false x.startup.resetHeld x) :=
  h.startupEntry _ _ _ _ (fun hs _ => storedSeatsOk_interruptWrite _ hs) fun _ => rfl

/-! ## Every command -/

theorem exec {c : Instr} {t : State} (h : Machine.exec c s = .next t) : Keeps s t := by
  cases c
  case powerOn => cases h; exact (refl s).powerOn _
  case resetAssert => cases h; exact (refl s).resetAssert _
  case resetRelease => cases h; exact (refl s).resetRelease
  case powerLoss => cases h; exact (refl s).powerLoss
  case restartEntry => exact inside h fun _ hx => hx.restartStep
  case setupReadCompletion =>
    change Machine.execSetupReadCompletion s = .next t at h
    exact outside h fun _ hx => hx.bootRead.ite hx
  case imageCopyCompletion =>
    change Machine.execImageCopyCompletion s = .next t at h
    refine outside h fun _ hx => ?_
    split
    · exact hx.imageCopied _
    · exact hx
  case startPresetReadCompletion =>
    change Machine.execStartPresetReadCompletion s = .next t at h
    refine outside h fun _ hx => ?_
    split
    · exact hx.startPresetRead _
    · exact hx
  case frameBoundary f =>
    change Machine.execFrameBoundary f s = .next t at h
    unfold Machine.execFrameBoundary at h
    split at h
    · exact outside h fun _ hx => (hx.boundary f).ite hx
    · cases h
  case gateClosed => exact inside h fun _ hx => hx.gateClosedStep _
  case bypassWeightZero => exact inside h fun _ hx => hx.audio (.weightZero (.refl _) _)
  case resolveFadeEnd => exact inside h fun _ hx => hx.resolveFadeStep _
  case crossFadeEnd => exact inside h fun _ hx => hx.crossFadeStep _
  case tailTimerExpiry | laneQuiet => exact outside h fun _ hx => hx.onTone _
  case cutFadeEnd => exact inside h fun _ hx => hx.cutFadeStep _
  case chainGainAtRest => exact inside h fun _ hx => hx.chainRestStep
  case watchdogExpiry =>
    change Machine.execWatchdogExpiry s = .next t at h
    exact outside h fun _ hx => hx.watchdogExpiry
  case clockReturned => exact inside h fun _ hx => hx.clockReturnedStep
  case afsEdge => exact outside h fun _ hx => hx.afsEdge _
  case fillCompletion => exact outside h fun _ hx => hx.fillEnd _
  case lapseTimerExpiry => exact outside h fun _ hx => hx.lapse _
  case lineJoin => exact inside h fun _ hx => hx.lineJoinStep
  case storeReadStart => exact inside h fun _ hx => hx.readStartStep
  case presetReadCompletion =>
    change Machine.execPresetReadCompletion s = .next t at h
    refine outside h fun x hx => ?_
    have freed : Keeps s (Machine.onStore (fun c => { c with op := none }) x) := hx.onStoreOp _ rfl rfl
    dsimp only
    split
    · exact freed.ite (freed.loadRead _)
    · exact freed.readAnswer _ _ _
    · exact hx
  case presetStoreCompletion =>
    change Machine.execPresetStoreCompletion s = .next t at h
    refine outside h fun _ hx => ?_
    split
    · exact hx.presetStored _ _ _ _
    · exact hx
  case presetEraseCompletion =>
    change Machine.execPresetEraseCompletion s = .next t at h
    refine outside h fun _ hx => ?_
    split
    · exact hx.presetErased _ _
    · exact hx
  case imageStoreCompletion =>
    change Machine.execImageStoreCompletion s = .next t at h
    refine outside h fun _ hx => ?_
    split
    · exact hx.imageStored _ _ _ _ _
    · exact hx
  case setupStoreCompletion =>
    change Machine.execSetupStoreCompletion s = .next t at h
    refine outside h fun _ hx => ?_
    split
    · next hop => exact hx.setupStored _ _ hop
    · exact hx
  case deferredLaneMove => exact inside h fun _ hx => hx.deferredMoveStep
  case swap => exact inside h fun _ hx => hx.swapStep
  case switchPromotion => exact inside h fun _ hx => hx.promotionStep
  case guardTimerExpiry => exact outside h fun _ hx => hx.onSw _
  case noSignalTimerExpiry => exact outside h fun _ hx => hx.noSignal
  case publicationTimerExpiry =>
    change Machine.execPublicationTimerExpiry s = .next t at h
    exact outside h fun _ hx => (hx.raise _).ite hx
  case beatEvent =>
    change Machine.execBeatEvent s = .next t at h
    unfold Machine.execBeatEvent at h
    split at h
    · exact inside h fun _ hx => hx.beatStep
    · exact outside h fun _ hx => hx.beatRow
  case tclkPulse => exact outside h fun _ hx => hx.pulse
  case pulseTimerExpiry => exact outside h fun _ hx => hx.pulseTimeout
  case satGrant => exact inside h fun _ hx => hx.satGrantStep
  case writeAnswered => exact outside h fun _ hx => hx.writeAnswered
  case statusWriteAnswered => exact outside h fun _ hx => hx.statusWriteAnswered
  case pollAnswered => exact outside h fun _ hx => hx.pollAnswered _
  case passThroughAnswered => exact outside h fun _ hx => hx.passAnswered _
  case transactionFailed => exact outside h fun _ hx => hx.transFailed
  case deferredHide => exact inside h fun _ hx => hx.deferredHideStep _
  case pollTimerExpiry => exact outside h fun _ hx => hx.pollExpiry
  case refreshTimerExpiry => exact outside h fun _ hx => hx.refreshExpiry
  case linkGapTimeout | framingError | checkByteFailure | breakLineHigh | invalidLengthByte =>
    exact outside h fun _ hx => hx.onRx _ _
  case unknownKind => exact outside h fun _ hx => hx.unknownKind _ _
  case linkBreak => exact outside h fun _ hx => hx.breakLink _
  case transmitEnd => exact outside h fun _ hx => hx.txEnd _
  case identify | getStatus => exact outside h fun _ hx => hx.dispatch _ _ _ _ _ fun _ hy => hy.answer _ _ _
  case linkStatus | areaStatus | mapStatus | bufferStatus | tunerStatus | showStatus => exact statusRequest h
  case subscribe => exact request h fun _ hx => hx.subscribe _ _
  case switchStatus => exact request h fun _ hx => (hx.answer _ _ _).freeCount _
  case cueList => exact request h fun _ hx => hx.cueList _ _
  case satStatus => exact request h fun _ hx => hx.satStatus _ _
  case readPreset => exact request h fun _ hx => hx.readPreset _ _ _
  case readBuffer => exact request h fun _ hx => hx.readBuffer _ _ _
  case switch => exact request h fun _ hx => hx.switchRequest _ _ _ _
  case dropStash => exact request h fun _ hx => hx.dropStash _ _
  case tunerMode => exact request h fun _ hx => hx.tunerModeRequest _ _
  case tunerSetSource => exact request h fun _ hx => hx.tunerSource _ _
  case tunerSetReference | tunerSetHysteresis => exact request h fun _ hx => (hx.onTuner _).answer _ _ _
  case tunerSetReadingKind => exact request h fun _ hx => hx.tunerReadingKind _ _ _
  case tunerSetString => exact request h fun _ hx => hx.tunerString _ _ _ _ _
  case tap => exact fireAndForget h fun _ hx => hx.takeTap
  case control => exact fireAndForget h fun _ hx => hx.control _ _
  case tempoSet => exact request h fun _ hx => (hx.commandTempo _).answer _ _ _
  case setParam => exact edit h fun _ hx => hx.withRecord _ _ fun r => hx.setParam _ _ _ _ _ r
  case sceneEditSetOverride => exact sceneEdit h fun r _ hx => hx.sceneSetOverride _ _ _ _ r
  case sceneEditRemoveOverride => exact sceneEdit h fun r _ hx => hx.sceneRemoveOverride _ _ _ r
  case sceneEditSetLevel | sceneEditSetRamp => exact sceneEdit h fun _ _ hx => (hx.takeScene _ _ _).answer _ _ _
  case sceneEditSetName => exact sceneEdit h fun _ _ hx => hx.sceneSetName _ _ _
  case sceneEditAdd => exact edit h fun _ hx => hx.withRecord _ _ fun r => hx.sceneAdd _ _ r
  case sceneEditRemove => exact sceneEdit h fun r _ hx => hx.sceneRemove _ _ r
  case presetEditName => exact edit h fun _ hx => hx.presetName _ _
  case presetEditFadeOut | presetEditFadeIn => exact edit h fun _ hx => hx.takeField _ _ _
  case presetEditTempo => exact edit h fun _ hx => hx.presetTempoField _ _
  case ampDataShaperRun => exact edit h fun _ hx => hx.withRecord _ _ fun r => hx.shaperRun _ _ _ _ r
  case ampDataToneSet => exact edit h fun _ hx => hx.withRecord _ _ fun r => hx.toneSet _ _ _ _ _ r
  case satImageSet => exact edit h fun _ hx => hx.imageSet _ _ _ _
  case satImageClear => exact edit h fun _ hx => hx.withRecord _ _ fun r => hx.imageClear _ _ _ r
  case mapEditAdd => exact edit h fun _ hx => hx.withRecord _ _ fun r => hx.mapAdd _ _ r
  case mapEditReplace => exact edit h fun _ hx => hx.withRecord _ _ fun r => hx.mapReplace _ _ _ r
  case mapEditRemove => exact edit h fun _ hx => hx.withRecord _ _ fun r => hx.mapRemove _ _ r
  case chainEditInsert | chainEditRemove | chainEditMove | chainEditRetype | chainEditSetClass | chainEditSetPolicy
      | chainEditRebuild => exact chainEdit h
  case storePreset => exact request h fun _ hx => hx.storePreset _ _ _
  case erasePreset => exact request h fun _ hx => hx.erasePreset _ _
  case showStart => exact request h fun _ hx => hx.showStart.transportReply _
  case showHold | showStop => exact request h fun _ hx => (hx.onClk _).transportReply _
  case showContinue => exact request h fun _ hx => hx.showContinue.transportReply _
  case showLocate => exact request h fun _ hx => hx.locateRequest _ _ _ _
  case cueInsert => exact request h fun _ hx => hx.cueInsert _ _ _ _ _
  case cueDelete => exact request h fun _ hx => hx.cueDelete _ _ _ _
  case satWrite => exact request h fun _ hx => hx.satWrite _ _ _ _
  case satRead => exact request h fun _ hx => hx.satRead _ _ _
  case satClear => exact request h fun _ hx => hx.satClear _ _
  case tempoSource => exact request h fun _ hx => hx.tempoSourceRequest _ _
  case tempoLock => exact request h fun _ hx => hx.tempoLock _ _
  case clockSetupDefaultTempo | clockSetupPulsesPerBeat => exact request h fun _ hx => (hx.onClk _).answer _ _ _
  case clockSetupBeatsPerBar => exact request h fun _ hx => hx.setBeatsPerBar _ _
  case panic => exact request h fun _ hx => hx.panic _
  case unpanic => exact request h fun _ hx => hx.unpanic _
  case satSetupHoldAuto => exact request h fun _ hx => hx.satHoldAuto _ _
  case satSetupRefresh => exact request h fun _ hx => hx.satRefresh _ _
  case satSetupHide => exact request h fun _ hx => hx.satHiding _ _ _
  case areaJoin => exact request h fun _ hx => hx.areaJoin _ _
  case areaWrite => exact request h fun _ hx => hx.areaWrite _ _
  case areaUnjoin => exact request h fun _ hx => hx.areaUnjoin _
  case imageSave => exact request h fun _ hx => hx.imageSave _ _
  case setupSave => exact request h fun _ hx => hx.setupSave _
  case setupSetMasterLevel => exact request h fun _ hx => ((hx.onLink _ rfl).hand _).answer _ _ _
  case setupSetStartPreset => exact request h fun _ hx => hx.startPreset _ _ _
  case restart => exact request h fun _ hx => hx.answerTagged _ _ _ _
  case seatSet => exact request h fun _ hx => hx.seatSet _ _ _
  case accessSet => exact request h fun _ hx => hx.accessSet _ _ _
  -- RECALL is left to the end: its name is a keyword of Mathlib's.
  · exact request h fun _ hx => hx.recallRequest _ _ _

end Sys2Proof.Frame.Keeps

end

section
/-! The block as a whole: what the step does with its queue, the outcome of every command, the invariants. -/

namespace Sys2Proof.Frame

open Sys2Proof Sys2Proof.Machine

variable {s t : State}

/-- A step is what is due, or a command on the state with the queue's rest. -/
theorem step_cases (h : step s = .next t) :
    (s.pending = [] ∧ t = if live s then prelude s else s) ∨
    ∃ c rest, s.pending = c :: rest ∧ exec c { s with pending := rest } = .next t := by
  unfold step at h
  split at h
  case h_1 c rest hp => exact .inr ⟨c, rest, hp, h⟩
  case h_2 hp => cases h; exact .inl ⟨hp, rfl⟩

/-- A property of the state that does not read the queue, and that every command and what is due keep, is kept by every
step. -/
theorem step_preserves {P : State → Prop} (hq : ∀ s rest, P s → P { s with pending := rest })
    (hk : ∀ s t, Keeps s t → P s → P t) (hs : P s) (h : step s = .next t) : P t := by
  obtain ⟨-, rfl⟩ | ⟨c, rest, -, hc⟩ := step_cases h
  · exact hk s _ (Keeps.ite (Keeps.prelude (.refl s)) (.refl s)) hs
  · exact hk _ t (Keeps.exec hc) (hq s rest hs)

/-- But for the supply, RESET_N and a short frame, a command is a row: one from outside, or one of a due event. -/
theorem exec_row (c : Instr) (s : State) (hf : ∀ f, c = .frameBoundary f → fullFrame f = true) (hon : c ≠ .powerOn)
    (hlow : ∀ n, c ≠ .resetAssert n) (hhigh : c ≠ .resetRelease) (hoff : c ≠ .powerLoss) :
    ∃ f, exec c s = outside f s ∨ exec c s = inside f s := by
  cases c
  case powerOn => exact absurd rfl hon
  case resetAssert n => exact absurd rfl (hlow n)
  case resetRelease => exact absurd rfl hhigh
  case powerLoss => exact absurd rfl hoff
  case frameBoundary f => exact ⟨_, .inl (if_pos (hf f rfl))⟩
  case beatEvent =>
    by_cases hd : beatDue s = true
    · exact ⟨_, .inr (if_pos hd)⟩
    · exact ⟨_, .inl (if_neg hd)⟩
  case restartEntry | gateClosed | bypassWeightZero | resolveFadeEnd | crossFadeEnd | cutFadeEnd | chainGainAtRest
      | clockReturned | lineJoin | storeReadStart | deferredLaneMove | swap | switchPromotion | satGrant | deferredHide =>
    exact ⟨_, .inr rfl⟩
  case tap | control =>
    dsimp only [exec, execTap, execControl, fireAndForget]
    exact ⟨_, .inl rfl⟩
  all_goals
    dsimp only [exec]
    exact ⟨_, .inl rfl⟩

/-- Right after reset nothing is due, and no transmitter begins. -/
theorem prelude_reset : prelude State.reset = State.reset := by
  have settled : settleOnce State.reset = State.reset := rfl
  have pumped : pump State.reset = State.reset := rfl
  simp [prelude, settle, settled, pumped]

theorem outside_dead (h : live s = false) (f : State → State) : outside f s = .next s := by simp [outside, h]

theorem inside_dead (h : live s = false) (f : State → State) : inside f s = .next s := by simp [inside, h]

/-- The supply and RESET_N answer a next state. -/
theorem exec_next (c : Instr) (s : State) (hf : ∀ f, c = .frameBoundary f → fullFrame f = true) : ∃ t, exec c s = .next t := by
  by_cases hsupply : c = .powerOn ∨ (∃ n, c = .resetAssert n) ∨ c = .resetRelease ∨ c = .powerLoss
  · obtain rfl | ⟨n, rfl⟩ | rfl | rfl := hsupply <;> exact ⟨_, rfl⟩
  · push Not at hsupply
    obtain ⟨hon, hlow, hhigh, hoff⟩ := hsupply
    obtain ⟨f, h | h⟩ := exec_row c s hf hon hlow hhigh hoff <;> exact ⟨_, h⟩

/-! ## Deferred hides (R161) -/

theorem hideDue_none {want : Nat → Bool} (h : ∀ q ∈ s.sat.hideWaits, (want q.2 && !satBusy s q.2) = false) :
    deferredHideStep want s = s := by
  have hnone : hideDue s want = none := List.find?_eq_none.2 fun q hq => by simp [h q hq]
  simp [deferredHideStep, hnone]

theorem hideDue_head {l : Fin 4} {i : Nat} {rest : List (Fin 4 × Nat)} {want : Nat → Bool} (hw : want i = true)
    (hb : satBusy s i = false) (h : s.sat.hideWaits = (l, i) :: rest) : hideDue s want = some (l, i) := by
  simp [hideDue, h, hw, hb]

/-- A satellite that is not hidden is hidden, with SATELLITE pending. -/
theorem satHide_shown {i : Nat} (h : (satOf s i).hidden = false) :
    satHide i s = raise .satellite (onSatAt i (fun x => { x with hidden := true, pollWaits := false }) s) := by
  simp [satHide, h]

/-- The head of the list of waiting hides leaves it, where it stands there once. -/
theorem filter_head_ne {α : Type} [BEq α] [LawfulBEq α] {a : α} {rest : List α} (h : a ∉ rest) : (a :: rest).filter (· != a) = rest := by
  rw [List.filter_cons_of_neg (by simp), List.filter_eq_self]
  exact fun b hb => bne_iff_ne.2 fun hba => h (hba ▸ hb)

theorem deferredHideStep_head {l : Fin 4} {i : Nat} {rest : List (Fin 4 × Nat)} {want : Nat → Bool} (hw : want i = true)
    (hb : satBusy s i = false) (h : s.sat.hideWaits = (l, i) :: rest) (hn : (l, i) ∉ rest) (hs : (satOf s i).hidden = false) :
    deferredHideStep want s = answer l .ok [] (raise .satellite { s with sat := { s.sat with
      hideWaits := rest, sats := modAt s.sat.sats i fun x => { x with hidden := true, pollWaits := false } } }) := by
  simp only [deferredHideStep, hideDue_head hw hb h]
  rw [satHide_shown (by exact hs)]
  simp only [onSatAt, onSat, h, filter_head_ne hn]

end Sys2Proof.Frame

section
open Sys2Proof Sys2Proof.Machine Sys2Proof.Frame

/-- Settles O1: the queue's front is what the step reads. -/
theorem stepRunsFrontCommand : Obligations.StepRunsFrontCommand := by
  intro c rest s h
  unfold step
  rw [h]

/-- Settles O2: every command but those of supply and RESET_N is a row, and a row does nothing in a part that does not run. -/
theorem idleAndDeadPartsStay : Obligations.IdleAndDeadPartsStay := by
  have empty : ∀ s : State, s.pending = [] → step s = .next (if live s then prelude s else s) := fun s hp => by simp [step, hp]
  refine ⟨fun s hp hl => ?_, fun s hp hl => ?_, ?_, fun c s hl hf hon hlow hhigh hoff => ?_⟩
  · simp [empty s hp, hl]
  · simp [empty s hp, hl]
  · rw [empty _ rfl, prelude_reset, ite_self]
  · obtain ⟨f, h | h⟩ := exec_row c s hf hon hlow hhigh hoff
    · rw [h, outside_dead hl]
    · rw [h, inside_dead hl]

/-- Settles O3: the queue is the first of the things that every command keeps. -/
theorem execKeepsQueue : Obligations.ExecKeepsQueue := fun _ _ _ h => (Keeps.exec h).pending

/-- Settles O4. -/
theorem everyCommandAnswersNext : Obligations.EveryCommandAnswersNext :=
  ⟨exec_next, fun f s h => by
    change execFrameBoundary f s = .fault .shortFrame
    simp [execFrameBoundary, h]⟩

/-- Settles O7: the invariant is one that every step keeps. -/
theorem stepKeepsDramCanonical : Obligations.StepKeepsDramCanonical :=
  fun _ _ => step_preserves (P := fun s => dramOk s = true) (fun _ _ h => h) fun _ _ k => k.dram

/-- Settles O8: the seat table, the stored setup and the setups in the store's operation are kept together. -/
theorem stepKeepsASetupSeat : Obligations.StepKeepsASetupSeat :=
  fun _ _ => step_preserves (P := fun s => seatInv s = true) (fun _ _ h => h) fun _ _ k => k.seats

/-- Settles O9. -/
theorem stepKeepsInStepEmpty : Obligations.StepKeepsInStepEmpty :=
  fun _ _ => step_preserves (P := fun s => satInv s = true) (fun _ _ h => h) fun _ _ k => k.sats

/-- Settles O10. -/
theorem stepKeepsStashAndControls : Obligations.StepKeepsStashAndControls :=
  ⟨fun _ _ => step_preserves (P := fun s => stashInv s = true) (fun _ _ h => h) fun _ _ k => k.stash,
    fun _ _ => step_preserves (P := fun s => controlInv s = true) (fun _ _ h => h) fun _ _ k => k.controls⟩

/-- Settles O11: the factory state, evaluated. -/
theorem resetMeetsTheInvariants : Obligations.ResetMeetsTheInvariants := ⟨rfl, rfl, rfl, rfl, rfl⟩

/-- Settles O50: the hide at the head of those that wait is the one found due. -/
theorem deferredHideFollowsTheTransaction : Obligations.DeferredHideFollowsTheTransaction := by
  intro i s hl
  have run : exec (.deferredHide i) s = .next (deferredHideStep (fun j => j == i.val) s) := inside_live hl _
  rw [run]
  refine ⟨fun hb => ?_, fun hno => ?_, fun l rest hb h hn hs => ?_⟩
  · refine congrArg _ (hideDue_none fun q _ => ?_)
    by_cases hq : q.2 = i.val
    · simp [hq, hb]
    · simp [hq]
  · exact congrArg _ (hideDue_none fun q hq => by simp [hno q hq])
  · exact congrArg _ (deferredHideStep_head (by simp) hb h hn hs)

end

end

section
/-! What a request's row leaves where its owner answers at once, and the mute holders (R27) in the terms of the claims. -/

namespace Sys2Proof.Frame

open Sys2Proof Sys2Proof.Machine

variable {p : Pkt} {cls kind : Nat} {s x y z : State} {st : Status} {c : List Byte} {owner : State → State}

/-! ## Requests that are answered at once

`x` is the state the owner acts on. It is named by an equation, so that a proof can go on with an `x` that hides what was due. -/

/-- An operation that leaves the links alone keeps every link's request outstanding. -/
theorem outstanding_of_link (h : y.link = x.link) (l : Fin 4) : (linkOf y l).outstanding = (linkOf x l).outstanding := by
  rw [linkOf, h, linkOf]

theorem AudioOnly.outstanding (h : AudioOnly x y) (l : Fin 4) : (linkOf y l).outstanding = (linkOf x l).outstanding :=
  outstanding_of_link h.link l

/-- The row of a request that is let through is its owner's. -/
theorem request_owner (h : Ready p cls s) (hx : heard p kind s = x) : request p kind cls owner s = .next (owner x) := by
  rw [request_ready h, hx]

/-- A request that finds its link free becomes outstanding; RUNNING decides what comes next (R172). -/
theorem dispatch_free {l : Fin 4} (hl : p.link = l) (kind cls : Nat) (always own : Bool) (owner : State → State) (x : State)
    (hears : (linkOf x l).rx.st ≠ .waitHigh) (free : (linkOf x l).outstanding = none) :
    let s1 := onLinkAt l (fun r => { r with rx := rxHunt, outstanding := some ⟨kind, false⟩ }) x
    dispatch p kind cls always own owner x =
      if running x then checkedRequest p cls own owner s1
      else if always then (if p.form = .exact then owner s1 else refuse l .badArg s1)
      else refuse l .starting s1 := by
  subst hl
  have ho : (linkOf (onRx p.link (fun _ => rxHunt) x) p.link).outstanding = none :=
    (linkOf_onLinkAt_keep (fun r => r.outstanding) p.link p.link (fun r => { r with rx := rxHunt }) x
      (fun _ => rfl)).trans free
  simp only [dispatch, if_neg hears, ho, begin_heard]
  rfl

/-- A request whose item its kind does not list is refused before its owner sees it (R172, log 19). -/
theorem request_badItem (h : Ready p cls s) (hx : heard p kind s = x) :
    request { p with form := .badItem } kind cls owner s = .next (filled p kind .badArg [] x) := by
  subst hx
  have enough : ¬ (linkOf (heard p kind s) p.link).seat.tier < classTier (heard p kind s) cls := by
    rw [seat_heard, heard, classTier_onLinkAt]
    exact Nat.not_lt.2 h.tier
  have checked : checkedRequest { p with form := .badItem } cls false owner (heard p kind s) =
      refuse p.link .badArg (heard p kind s) := by
    simp [checkedRequest, enough]
  have refused := dispatch_free (p := { p with form := .badItem }) (l := p.link) rfl kind cls false false owner (prelude s)
    h.hears h.free
  simp only [h.runs, if_true] at refused
  rw [request, outside_live h.live, refused, ← heard, checked, refuse, answer_heard h kind _ _ _ rfl]

/-- A request's row whose owner answers a state that keeps the link's request outstanding. -/
theorem request_answers (h : Ready p cls s) (hx : heard p kind s = x) (ho : owner x = answer p.link st c y)
    (hy : (linkOf y p.link).outstanding = (linkOf x p.link).outstanding) :
    request p kind cls owner s = .next (filled p kind st c y) := by
  subst hx
  rw [request_ready h, ho, answer_heard h kind st c y hy]

/-- A request's row whose owner answers a state with the links as they were. -/
theorem request_fills (h : Ready p cls s) (hx : heard p kind s = x) (ho : owner x = answer p.link st c y)
    (hl : y.link = x.link) : request p kind cls owner s = .next (filled p kind st c y) :=
  request_answers h hx ho (outstanding_of_link hl _)

/-- A request's row whose owner answers and raises a notice, with the links otherwise as they were. -/
theorem request_fills_raise {k : NoticeKind} (h : Ready p cls s) (hx : heard p kind s = x)
    (ho : owner x = answer p.link st c (raise k y)) (hl : y.link = x.link) :
    request p kind cls owner s = .next (filled p kind st c (raise k y)) :=
  request_answers h hx ho ((outstanding_raise k _ y).trans (outstanding_of_link hl _))

/-- A request's row whose owner refuses. -/
theorem request_refuses (h : Ready p cls s) (hx : heard p kind s = x) (ho : owner x = refuse p.link st x) :
    request p kind cls owner s = .next (filled p kind st [] x) := request_fills h hx ho rfl

/-! ## The mute holders (R27) -/

/-- The factor that falls in a clock loss is at 0. -/
theorem muteFallTo_landed (r : Ramp) : (muteFallTo true r).cur = 0 ∧ (muteFallTo true r).target = 0 := by
  unfold muteFallTo rampGo
  split
  · assumption
  · exact ⟨rfl, rfl⟩

/-- A holder that is set already. -/
theorem setHolder_held {get : Holders → Bool} (set : Holders → Bool → Holders) (h : get x.tone.holders = true) :
    setHolder get set x = x := if_pos h

theorem setHolder_new {get : Holders → Bool} (set : Holders → Bool → Holders) (h : get x.tone.holders = false) :
    setHolder get set x = hand .muteFall (onTone (fun t => { t with holders := set t.holders true }) x) := by
  simp [setHolder, h]

theorem releaseHolder_free {get : Holders → Bool} (set : Holders → Bool → Holders) (zero : Bool) (len : Nat)
    (h : get x.tone.holders = false) : releaseHolder get set zero len x = x := by simp [releaseHolder, h]

/-- A holder that is new: the factor falls at the next boundary, or at once in a clock loss (R3). -/
theorem setHolder_present {get : Holders → Bool} (set : Holders → Bool → Holders) (h : get x.tone.holders = false)
    (hp : present x = true) : setHolder get set x =
      onTone (fun t => { t with holders := set t.holders true, changes := t.changes ++ [.muteFall] }) x := by
  rw [setHolder_new set h, hand_present _ _ (by exact hp)]
  rfl

theorem setHolder_lost {get : Holders → Bool} (set : Holders → Bool → Holders) (h : get x.tone.holders = false)
    (hp : present x = false) : setHolder get set x =
      onTone (fun t => { t with holders := set t.holders true, mute := muteFallTo true t.mute }) x := by
  rw [setHolder_new set h, hand_lost _ _ (by exact hp)]
  rfl

/-- The release of a holder beside which another remains. -/
theorem releaseHolder_more {get : Holders → Bool} {set : Holders → Bool → Holders} (len : Nat) (h : get x.tone.holders = true)
    (ha : anyHolder (set x.tone.holders false) = true) :
    releaseHolder get set false len x = onTone (fun t => { t with holders := set t.holders false }) x := by
  simp [releaseHolder, h, ha]

/-- The release of the last holder. -/
theorem releaseHolder_last {get : Holders → Bool} {set : Holders → Bool → Holders} (len : Nat) (h : get x.tone.holders = true)
    (ha : anyHolder (set x.tone.holders false) = false) :
    releaseHolder get set false len x = hand (.muteRise len) (onTone (fun t => { t with holders := set t.holders false }) x) := by
  simp [releaseHolder, h, ha]

theorem releaseHolder_last_present {get : Holders → Bool} {set : Holders → Bool → Holders} (len : Nat)
    (h : get x.tone.holders = true) (ha : anyHolder (set x.tone.holders false) = false) (hp : present x = true) :
    releaseHolder get set false len x =
      onTone (fun t => { t with holders := set t.holders false, changes := t.changes ++ [.muteRise len] }) x := by
  rw [releaseHolder_last len h ha, hand_present _ _ (by exact hp)]
  rfl

theorem releaseHolder_last_lost {get : Holders → Bool} {set : Holders → Bool → Holders} (len : Nat)
    (h : get x.tone.holders = true) (ha : anyHolder (set x.tone.holders false) = false) (hp : present x = false) :
    releaseHolder get set false len x =
      onTone (fun t => { t with holders := set t.holders false, mute := .rest 32768 }) x := by
  rw [releaseHolder_last len h ha, hand_lost _ _ (by exact hp)]
  rfl

end Sys2Proof.Frame

end

section
/-! The Tuner: the table of mode changes and the five settings (7.2). -/

namespace Sys2Proof.Frame

open Sys2Proof Sys2Proof.Machine

variable {x : State}

/-! ## The table of mode changes (R118) -/

/-- The Tuner after a change of mode. -/
def modeTuner (m : TunerMode) (t : Tuner) : Tuner :=
  if t.mode = .off then { clearEstimator (clearDetector { t with mode := m }) with publish := true }
  else if m = .off then { clearEstimator (clearDetector { t with mode := m }) with publish := false }
  else { t with mode := m }

/-- The Tuner's mark among the mute holders after a change of mode from `old`. -/
def modeHolder (old m : TunerMode) (x : State) : State :=
  if m = .mute then setTunerHolder x else if old = .mute then releaseTunerHolder x else x

theorem setTunerMode_same {m : TunerMode} (h : m = x.tuner.mode) : setTunerMode m x = x := if_pos h

theorem setTunerMode_change {m : TunerMode} (h : m ≠ x.tuner.mode) :
    setTunerMode m x = raise .tuner (modeHolder x.tuner.mode m { x with tuner := modeTuner m x.tuner }) := by
  simp only [setTunerMode, if_neg h, modeHolder, modeTuner]
  cases hm : x.tuner.mode <;> cases m <;> simp [onTuner]

/-- The Tuner's mark changes only with its holder, mute factor and what is handed of it. -/
structure MarkOnly (x z : State) : Prop where
  frame : z = { x with tone := z.tone }
  tone : z.tone = { x.tone with holders := z.tone.holders, mute := z.tone.mute, changes := z.tone.changes }

theorem MarkOnly.refl (x : State) : MarkOnly x x := ⟨rfl, rfl⟩

theorem MarkOnly.hold (x : State) : MarkOnly x (setTunerHolder x) := by
  unfold setTunerHolder
  cases h : x.tone.holders.tuner
  · cases hp : present x
    · rw [setHolder_lost _ h hp]
      exact ⟨rfl, rfl⟩
    · rw [setHolder_present _ h hp]
      exact ⟨rfl, rfl⟩
  · rw [setHolder_held _ h]
    exact .refl x

theorem MarkOnly.release (x : State) : MarkOnly x (releaseTunerHolder x) := by
  unfold releaseTunerHolder
  cases h : x.tone.holders.tuner
  · rw [releaseHolder_free _ _ _ h]
    exact .refl x
  · cases ha : anyHolder { x.tone.holders with tuner := false }
    · cases hp : present x
      · rw [releaseHolder_last_lost _ h ha hp]
        exact ⟨rfl, rfl⟩
      · rw [releaseHolder_last_present _ h ha hp]
        exact ⟨rfl, rfl⟩
    · rw [releaseHolder_more _ h ha]
      exact ⟨rfl, rfl⟩

theorem MarkOnly.mode (old m : TunerMode) (x : State) : MarkOnly x (modeHolder old m x) := by
  unfold modeHolder
  split
  · exact .hold x
  · split
    · exact .release x
    · exact .refl x

theorem setTunerHolder_holders (x : State) : (setTunerHolder x).tone.holders = { x.tone.holders with tuner := true } := by
  unfold setTunerHolder
  cases h : x.tone.holders.tuner
  · rw [setHolder_new _ h]
    cases hp : present x
    · rw [hand_lost _ _ (by exact hp)]
      rfl
    · rw [hand_present _ _ (by exact hp)]
      rfl
  · rw [setHolder_held _ h, ← h]

theorem releaseTunerHolder_holders (x : State) : (releaseTunerHolder x).tone.holders = { x.tone.holders with tuner := false } := by
  unfold releaseTunerHolder
  cases h : x.tone.holders.tuner
  · rw [releaseHolder_free _ _ _ h, ← h]
  · cases ha : anyHolder { x.tone.holders with tuner := false }
    · cases hp : present x
      · rw [releaseHolder_last_lost _ h ha hp]
        rfl
      · rw [releaseHolder_last_present _ h ha hp]
        rfl
    · rw [releaseHolder_more _ h ha]
      rfl

/-- The fall of the factor where the Tuner's mark is new: handed, or landed in a clock loss. -/
theorem setTunerHolder_mute (h : x.tone.holders.tuner = false) :
    (present x = true → (setTunerHolder x).tone.changes = x.tone.changes ++ [.muteFall] ∧
      (setTunerHolder x).tone.mute = x.tone.mute) ∧
    (present x = false → (setTunerHolder x).tone.changes = x.tone.changes ∧
      (setTunerHolder x).tone.mute = muteFallTo true x.tone.mute) := by
  unfold setTunerHolder
  refine ⟨fun hp => ?_, fun hp => ?_⟩
  · rw [setHolder_present _ h hp]
    exact ⟨rfl, rfl⟩
  · rw [setHolder_lost _ h hp]
    exact ⟨rfl, rfl⟩

/-- The rise of the factor where the Tuner was the last holder. -/
theorem releaseTunerHolder_mute (h : x.tone.holders = ⟨true, false, false, false⟩) :
    (present x = true → (releaseTunerHolder x).tone.changes = x.tone.changes ++ [.muteRise 16] ∧
      (releaseTunerHolder x).tone.mute = x.tone.mute) ∧
    (present x = false → (releaseTunerHolder x).tone.changes = x.tone.changes ∧
      (releaseTunerHolder x).tone.mute = .rest 32768) := by
  unfold releaseTunerHolder
  refine ⟨fun hp => ?_, fun hp => ?_⟩
  · rw [releaseHolder_last_present _ (by rw [h]) (by rw [h]; rfl) hp]
    exact ⟨rfl, rfl⟩
  · rw [releaseHolder_last_lost _ (by rw [h]) (by rw [h]; rfl) hp]
    exact ⟨rfl, rfl⟩

/-- Another holder remains: the factor stays. -/
theorem releaseTunerHolder_more (h : anyHolder { x.tone.holders with tuner := false } = true) :
    (releaseTunerHolder x).tone.changes = x.tone.changes ∧ (releaseTunerHolder x).tone.mute = x.tone.mute := by
  unfold releaseTunerHolder
  cases ht : x.tone.holders.tuner
  · rw [releaseHolder_free _ _ _ ht]
    exact ⟨rfl, rfl⟩
  · rw [releaseHolder_more _ ht h]
    exact ⟨rfl, rfl⟩

theorem tunerModeCode_tunerModeOf {mode : Nat} {m : TunerMode} (h : tunerModeOf mode = some m) : tunerModeCode m = mode := by
  unfold tunerModeOf at h
  split at h <;> cases h <;> rfl

theorem tunerModeOf_eq_none {mode : Nat} (h : 2 < mode) : tunerModeOf mode = none := by
  unfold tunerModeOf
  split
  · omega
  · omega
  · omega
  · rfl

theorem exec_tunerMode (p : Pkt) (mode : Nat) (s : State) :
    exec (.tunerMode p mode) s = request p 0x10 3 (tunerModeRequest p.link mode) s := rfl

end Sys2Proof.Frame

section
open Sys2Proof Sys2Proof.Machine Sys2Proof.Frame

/-- Settles O31: the mode's tuner and the holder's mark, case by case of the table. -/
theorem tunerModeTakesTheTable : Obligations.TunerModeTakesTheTable := by
  refine ⟨fun p mode s h hm => ?_, fun p mode m s h hm => ?_⟩
  · rw [exec_tunerMode]
    exact request_refuses h rfl (by simp only [tunerModeRequest, tunerModeOf_eq_none hm])
  generalize hx : heard p 0x10 s = y
  intro y clear
  have answers : tunerModeRequest p.link mode y = answer p.link .ok [byte mode] (setTunerMode m y) := by
    simp only [tunerModeRequest, hm, tunerModeCode_tunerModeOf hm]
  refine ⟨fun same => ?_, fun change => ?_⟩
  · rw [exec_tunerMode]
    exact request_fills h hx (by rw [answers, setTunerMode_same same]) rfl
  set u : State := { y with tuner := modeTuner m y.tuner } with hu
  have mark := MarkOnly.mode y.tuner.mode m u
  refine ⟨modeHolder y.tuner.mode m u, ?_, ?_, fun off => ?_, fun off => ?_, fun on on' => ?_, mark.tone, fun mute => ?_,
    fun mute => ?_, fun mute mute' => ?_, fun hp mute new => ?_, fun hp mute last => ?_, fun hp mute new => ?_,
    fun hp mute last => ?_, fun mute more => ?_⟩
  · rw [exec_tunerMode]
    exact request_fills_raise h hx (by rw [answers, setTunerMode_change change]) (by rw [mark.frame])
  · rw [mark.frame]
  · rw [mark.frame]
    simp [hu, modeTuner, off, clear, clearEstimator, clearDetector]
  · rw [mark.frame]
    have on : y.tuner.mode ≠ .off := fun e => change (off.trans e.symm)
    simp [hu, modeTuner, on, off, clear, clearEstimator, clearDetector]
  · rw [mark.frame]
    simp [hu, modeTuner, on, on']
  · simp only [modeHolder, if_pos mute, setTunerHolder_holders, hu]
  · have leaves : m ≠ .mute := fun e => change (e.trans mute.symm)
    simp only [modeHolder, if_neg leaves, if_pos mute, releaseTunerHolder_holders, hu]
  · simp only [modeHolder, if_neg mute, if_neg mute', hu]
  · simp only [modeHolder, if_pos mute]
    exact (setTunerHolder_mute (x := u) new).1 hp
  · have leaves : m ≠ .mute := fun e => change (e.trans mute.symm)
    simp only [modeHolder, if_neg leaves, if_pos mute]
    exact (releaseTunerHolder_mute (x := u) last).1 hp
  · simp only [modeHolder, if_pos mute]
    obtain ⟨hc, hmute⟩ := (setTunerHolder_mute (x := u) new).2 hp
    rw [hmute]
    exact ⟨hc, muteFallTo_landed _⟩
  · have leaves : m ≠ .mute := fun e => change (e.trans mute.symm)
    simp only [modeHolder, if_neg leaves, if_pos mute]
    exact (releaseTunerHolder_mute (x := u) last).2 hp
  · have leaves : m ≠ .mute := fun e => change (e.trans mute.symm)
    simp only [modeHolder, if_neg leaves, if_pos mute]
    exact releaseTunerHolder_more (x := u) more

/-- Settles O32: each item is refused, or writes its own fields of the Tuner. -/
theorem tunerSetChangesOneSetting : Obligations.TunerSetChangesOneSetting := by
  intro p s h
  generalize hx : heard p 0x11 s = x
  intro y t re no
  refine ⟨fun v hv => ?_, fun v hv same => ?_, fun v hv change => ?_, fun v => ?_, fun v => ?_, fun n => ?_, fun n hn => ?_,
    fun k n hkn => ?_, fun n i note off hni => ?_, fun n i note off hn hi => ?_⟩
  · exact request_refuses h hx (if_pos hv)
  · refine request_fills h hx ?_ rfl
    simp only [tunerSource, if_neg (Nat.not_lt.2 hv), if_pos (show (v == 1) = x.tuner.sourceB from same), y]
  · intro z
    have answers : tunerSource p.link v y = answer p.link .ok [] (if t.state = .silent then z else raise .tuner z) := by
      simp only [tunerSource, if_neg (Nat.not_lt.2 hv), if_neg (show (v == 1) ≠ y.tuner.sourceB from change), clearTuner]
      split <;> rfl
    by_cases hs : t.state = .silent
    · rw [if_pos hs] at answers ⊢
      exact request_fills h hx answers rfl
    · rw [if_neg hs] at answers ⊢
      exact request_fills_raise h hx answers rfl
  · exact request_fills h hx rfl rfl
  · exact request_fills h hx rfl rfl
  · exact request_fills h hx rfl rfl
  · exact request_fills h hx (if_neg (by omega)) rfl
  · exact request_refuses h hx (if_pos hkn)
  · exact request_refuses h hx (if_pos hni)
  · intro l x st with_
    have within : ¬ (3 < n ∨ 7 < i) := by omega
    have owner : tunerString p.link n i note off y = if note = 255 then
          if i < l.length then answer p.link .ok [] { y with tuner := with_ (l.eraseIdx i) t } else refuse p.link .badArg y
        else if i < l.length then answer p.link st [] { y with tuner := with_ (l.set i x) t }
        else if i = l.length ∧ l.length < 8 then answer p.link st [] { y with tuner := with_ (l ++ [x]) t }
        else refuse p.link .badArg y := if_neg within
    refine ⟨fun rem hin => ?_, fun rem hout => ?_, fun set hin => ?_, fun set hend => ?_, fun set hout => ?_⟩
    · exact request_fills h hx (by rw [owner, if_pos rem, if_pos hin]) rfl
    · exact request_refuses h hx (by rw [owner, if_pos rem, if_neg (Nat.not_lt.2 hout)])
    · exact request_fills h hx (by rw [owner, if_neg set, if_pos hin]) rfl
    · have room : i = l.length ∧ l.length < 8 := ⟨hend, by omega⟩
      exact request_fills h hx (by rw [owner, if_neg set, if_neg (by omega), if_pos room]) rfl
    · exact request_refuses h hx (by rw [owner, if_neg set, if_neg (by omega), if_neg (by omega)])

end

end

section
/-! The Show Clock's requests: source, lock and setup of the clock (8.1), transport (8.3), the cue list (8.4). -/

namespace Sys2Proof.ShowClock

open Sys2Proof Sys2Proof.Machine

variable {x : State} {l : Fin 4}

/-! ## The source (R134) -/

theorem tempoSourceCode_of {v : Nat} {src : TempoSource} (h : tempoSourceOf v = some src) : tempoSourceCode src = v := by
  unfold tempoSourceOf at h
  split at h <;> cases h <;> rfl

theorem tempoSourceOf_eq_none {v : Nat} (h : 3 ≤ v) : tempoSourceOf v = none := by
  match v, h with
  | _ + 3, _ => rfl

theorem tempoSourceRequest_same {v : Nat} (h : tempoSourceOf v = some x.clk.source) :
    tempoSourceRequest l v x = answer l .ok [byte v] x := by
  simp only [tempoSourceRequest, h, if_true, tempoSourceCode_of h]

theorem tempoSourceRequest_change {v : Nat} {src : TempoSource} (h : tempoSourceOf v = some src) (hc : src ≠ x.clk.source) :
    tempoSourceRequest l v x =
      answer l .ok [byte v] (raise .clock { x with clk := changeSource src x.clk }) := by
  simp only [tempoSourceRequest, h, if_neg hc, tempoSourceCode_of h]
  rfl

/-- The transport where the source leaves EXTERNAL: an ARMED show stops (R146). -/
theorem disarmShow_eq (c : Show) :
    disarmShow c = { c with transport := if c.transport = .armed then .stopped else c.transport } := by
  unfold disarmShow
  split <;> rfl

theorem changeSource_enter {c : Show} (h : c.source ≠ .external) : changeSource .external c = enterExternal c := by
  unfold changeSource
  cases hs : c.source <;> simp_all

theorem changeSource_leaveTap {c : Show} (h : c.source = .external) :
    changeSource .tap c = endTaps (disarmShow (leaveExternal .tap c)) := by simp [changeSource, h]

theorem changeSource_leaveInternal {c : Show} (h : c.source = .external) :
    changeSource .internal c = disarmShow (leaveExternal .internal c) := by simp [changeSource, h]

theorem changeSource_toTap {c : Show} (h : c.source = .internal) : changeSource .tap c = endTaps { c with source := .tap } := by
  simp [changeSource, h]

theorem changeSource_toInternal {c : Show} (h : c.source = .tap) :
    changeSource .internal c = endTaps { c with source := .internal } := by simp [changeSource, h]

/-! ## Transport (R144) -/

theorem showStart_external (h : x.clk.transport = .stopped) (hs : x.clk.source = .external) :
    showStart x = { x with clk := { x.clk with transport := .armed } } := by simp [showStart, h, hs, onClk]

theorem showStart_runs (h : x.clk.transport = .stopped) (hs : x.clk.source ≠ .external) :
    showStart x = fireHere { x with clk := { x.clk with
      transport := .running, bar := 1, beat := 1, countdown := (beatLen x.clk.tempo : Nat), bc := beatLen x.clk.tempo
      beatCount := 0 } } := by
  rw [showStart, if_pos h, if_neg hs]
  rfl

theorem showStart_other (h : x.clk.transport ≠ .stopped) : showStart x = x := if_neg h

theorem holdShow_running {c : Show} (h : c.transport = .running) : holdShow c = { c with transport := .held } := if_pos h

theorem holdShow_other {c : Show} (h : c.transport ≠ .running) : holdShow c = c := if_neg h

theorem showContinue_held (h : x.clk.transport = .held) :
    showContinue x = fireHere { x with clk := { x.clk with transport := .running } } := if_pos h

theorem showContinue_other (h : x.clk.transport ≠ .held) : showContinue x = x := if_neg h

/-! ## A locate (R145) -/

/-- The clock at a new position, before the transport acts. -/
def located (b k : Nat) (c : Show) : Show :=
  { c with bar := b, beat := k, cues := c.cues.map fun q => { q with fired := posBefore q.bar q.beat b k } }

theorem locateClock_eq (b k : Nat) (c : Show) : locateClock b k c =
    if c.transport ≠ .running then { located b k c with transport := .held }
    else if c.source = .external then located b k c
    else { located b k c with countdown := (beatLen c.tempo : Nat), bc := beatLen c.tempo, beatCount := 0 } := by
  unfold locateClock
  cases ht : c.transport <;> simp [located, rephase, loadCountdown, ht]

theorem locateClock_rests {b k : Nat} {c : Show} (ht : c.transport ≠ .running) :
    locateClock b k c = { located b k c with transport := .held } := by rw [locateClock_eq, if_pos ht]

theorem locateClock_external {b k : Nat} {c : Show} (ht : c.transport = .running) (hs : c.source = .external) :
    locateClock b k c = located b k c := by rw [locateClock_eq, if_neg (not_not.2 ht), if_pos hs]

theorem locateClock_rephases {b k : Nat} {c : Show} (ht : c.transport = .running) (hs : c.source ≠ .external) :
    locateClock b k c =
      { located b k c with countdown := (beatLen c.tempo : Nat), bc := beatLen c.tempo, beatCount := 0 } := by
  rw [locateClock_eq, if_neg (not_not.2 ht), if_neg hs]

theorem cues_locateClock (b k : Nat) (c : Show) : (locateClock b k c).cues = (located b k c).cues := by
  rw [locateClock_eq]
  split
  · rfl
  · split <;> rfl

theorem showLocate_plain {b k chase : Nat} (h : chase = 0 ∨ (chase = 1 ∧ chaseCue b k (located b k x.clk).cues = none)) :
    showLocate b k (chase == 1) x =
      let z : State := { x with clk := locateClock b k x.clk }
      if z.clk.transport = .running then fireHere z else z := by
  unfold showLocate
  simp only [onClk, cues_locateClock]
  obtain rfl | ⟨rfl, hn⟩ := h
  · cases chaseCue b k (located b k x.clk).cues <;> rfl
  · rw [hn]

theorem showLocate_chases {b k : Nat} {q : Cue} (h : chaseCue b k (located b k x.clk).cues = some q) :
    showLocate b k true x =
      let z := fireCue q { x with clk := locateClock b k x.clk }
      if z.clk.transport = .running then fireHere z else z := by
  unfold showLocate
  simp only [onClk, cues_locateClock, h, if_true]

theorem locateRequest_ok {b k chase : Nat} (hok : 1 ≤ b ∧ b ≤ 9999 ∧ 1 ≤ k ∧ k ≤ x.clk.bpb) (hc : chase ≤ 1) :
    locateRequest l b k chase x = transportReply l (showLocate b k (chase == 1) x) := by
  obtain ⟨h1, h2, h3, h4⟩ := hok
  exact if_neg (by omega)

/-! ## The cue list (R147) -/

/-- A cue that is inserted at a position of the list. -/
def newCue (b k : Nat) (a : CueAction) (c : Show) : Cue := ⟨b, k, a, insertedFired c b k, .none, c.nextTag⟩

/-- The list's number of the cue that is inserted at a position. -/
def newNumber (b k : Nat) (c : Show) : Nat := (c.cues.filter fun x => !posBefore b k x.bar x.beat).length

theorem cuePosOk_iff {c : Show} {b k : Nat} : cuePosOk c b k = true ↔ 1 ≤ b ∧ b ≤ 9999 ∧ 1 ≤ k ∧ k ≤ c.bpb := by
  simp [cuePosOk, and_assoc]

theorem cueInsert_refused {b k kind : Nat} {args : List Nat} (h : actionOf kind args = none ∨ cuePosOk x.clk b k = false) :
    cueInsert l b k kind args x = refuse l .badArg x := by
  unfold cueInsert
  cases ha : actionOf kind args with
  | none => rfl
  | some a => simp [(h.resolve_left (by simp [ha]))]

theorem cueInsert_full {b k kind : Nat} {args : List Nat} (h : (actionOf kind args).isSome) (hok : cuePosOk x.clk b k = true)
    (hf : 64 ≤ x.clk.cues.length) : cueInsert l b k kind args x = refuse l .full x := by
  obtain ⟨a, ha⟩ := Option.isSome_iff_exists.1 h
  simp [cueInsert, ha, hok, hf]

theorem cueInsert_crowded {b k kind : Nat} {args : List Nat} (h : (actionOf kind args).isSome) (hok : cuePosOk x.clk b k = true)
    (hf : x.clk.cues.length < 64) (hc : 4 ≤ (x.clk.cues.filter fun q => q.bar == b && q.beat == k).length) :
    cueInsert l b k kind args x = refuse l .crowded x := by
  obtain ⟨a, ha⟩ := Option.isSome_iff_exists.1 h
  simp [cueInsert, ha, hok, Nat.not_le.2 hf, hc]

theorem cueInsert_taken {b k kind : Nat} {args : List Nat} {a : CueAction} {clamped : Bool}
    (ha : actionOf kind args = some (a, clamped)) (hok : cuePosOk x.clk b k = true) (hf : x.clk.cues.length < 64)
    (hc : (x.clk.cues.filter fun q => q.bar == b && q.beat == k).length < 4) :
    cueInsert l b k kind args x = answer l (okOr clamped) [byte (newNumber b k x.clk)] { x with clk := { x.clk with
      cues := insertCue (newCue b k a x.clk) x.clk.cues, nextTag := x.clk.nextTag + 1 } } := by
  simp [cueInsert, ha, hok, Nat.not_le.2 hf, Nat.not_le.2 hc, onClk, newCue, newNumber]

theorem actionOf_unlisted {kind : Nat} (h : 4 < kind) (a : List Nat) : actionOf kind a = none := by
  match kind, h with
  | _ + 5, _ => rfl

theorem actionOf_switch {n m pr : Nat} (hi lo : Nat) (hn : n < 128) (hm : m < 4) (hp : pr < 4) :
    actionOf 0 [n, m, pr, hi, lo] =
      some (.switch n m pr (min 2000 (256 * hi + lo)), decide (2000 < 256 * hi + lo)) := if_pos ⟨hn, hm, hp⟩

theorem actionOf_tempo (hi lo : Nat) (a : List Nat) : actionOf 1 (hi :: lo :: a) = some
    (.tempo (clampNat 300 3000 (256 * hi + lo)), decide (clampNat 300 3000 (256 * hi + lo) ≠ 256 * hi + lo)) := rfl

theorem actionOf_tuner {w : Nat} (a : List Nat) (hw : w ≤ 1) : actionOf 2 (w :: a) = some (.tuner (w == 1), false) :=
  if_pos (Nat.lt_succ_of_le hw)

theorem actionOf_satellite {i r : Nat} (v : Nat) (a : List Nat) (hi : i ≤ 7) (hr : r ≤ 15) :
    actionOf 3 (i :: r :: v :: a) = some (.satellite i r (min 255 v), decide (255 < v)) :=
  if_pos ⟨Nat.lt_succ_of_le hi, Nat.lt_succ_of_le hr⟩

theorem actionOf_stop (a : List Nat) : actionOf 4 a = some (.stop, false) := rfl

/-- The first argument bytes decide whether an action's kind takes them (R147). -/
theorem actionOf_isSome {kind : Nat} {a : List Nat} (h : kind = 1 ∨ kind = 4 ∨
    (kind = 0 ∧ ∃ n m pr g, a = n :: m :: pr :: g ∧ n ≤ 127 ∧ m ≤ 3 ∧ pr ≤ 3) ∨
    (kind = 2 ∧ ∃ w g, a = w :: g ∧ w ≤ 1) ∨ (kind = 3 ∧ ∃ i r g, a = i :: r :: g ∧ i ≤ 7 ∧ r ≤ 15)) :
    (actionOf kind a).isSome := by
  obtain rfl | rfl | ⟨rfl, n, m, pr, g, rfl, hn, hm, hp⟩ | ⟨rfl, w, g, rfl, hw⟩ | ⟨rfl, i, r, g, rfl, hi, hr⟩ := h
  · rfl
  · rfl
  · have args : n < 128 ∧ m < 4 ∧ pr < 4 := by omega
    simp [actionOf, args]
  · simp [actionOf_tuner g hw]
  · have args : i < 8 ∧ r < 16 := by omega
    simp [actionOf, args]

theorem actionOf_switch_refused {n m pr : Nat} (g : List Nat) (h : 127 < n ∨ 3 < m ∨ 3 < pr) :
    actionOf 0 (n :: m :: pr :: g) = none := by
  have args : ¬ (n < 128 ∧ m < 4 ∧ pr < 4) := by omega
  exact if_neg args

theorem actionOf_tuner_refused {w : Nat} (g : List Nat) (h : 1 < w) : actionOf 2 (w :: g) = none := if_neg (Nat.not_lt.2 h)

theorem actionOf_satellite_refused {i r : Nat} (g : List Nat) (h : 7 < i ∨ 15 < r) : actionOf 3 (i :: r :: g) = none := by
  have args : ¬ (i < 8 ∧ r < 16) := by omega
  exact if_neg args

theorem cueDelete_taken {n b k : Nat} {q : Cue} (hq : x.clk.cues[n]? = some q) (hb : q.bar = b) (hk : q.beat = k) :
    cueDelete l n b k x = answer l .ok [] { x with clk := { x.clk with cues := x.clk.cues.eraseIdx n } } := by
  simp [cueDelete, hq, hb, hk, onClk]

theorem cueDelete_refused {n b k : Nat} (h : ∀ q, x.clk.cues[n]? = some q → q.bar ≠ b ∨ q.beat ≠ k) :
    cueDelete l n b k x = refuse l .badArg x := by
  unfold cueDelete
  cases hq : x.clk.cues[n]? with
  | none => rfl
  | some q =>
    refine if_neg fun ⟨hb, hk⟩ => ?_
    rcases h q hq with h | h
    · exact h hb
    · exact h hk

end Sys2Proof.ShowClock

section
open Sys2Proof Sys2Proof.Machine Sys2Proof.Frame Sys2Proof.ShowClock

/-- Settles O36: the row's owner for each pair of sources. -/
theorem tempoSourceChanges : Obligations.TempoSourceChanges := by
  intro p v s h
  generalize hx : heard p 0x2A s = x
  intro y c re calm b
  have changes : ∀ src, tempoSourceOf v = some src → src ≠ x.clk.source →
      exec (.tempoSource p v) s = .next (re (changeSource src x.clk)) := fun src hv hc =>
    request_fills_raise h hx (tempoSourceRequest_change hv hc) rfl
  refine ⟨fun hv => ?_, fun hv => ?_, ?_, ?_, ?_, ?_, ?_⟩
  · exact request_refuses h hx (by simp only [tempoSourceRequest, tempoSourceOf_eq_none hv])
  · exact request_fills h hx (tempoSourceRequest_same hv) rfl
  · rintro rfl hs
    rw [changes .external rfl (Ne.symm hs), changeSource_enter hs]
    rfl
  · rintro rfl hs
    have hs : x.clk.source = .external := hs
    rw [changes .tap rfl (by simp [hs]), changeSource_leaveTap hs, disarmShow_eq]
    rfl
  · rintro rfl hs
    have hs : x.clk.source = .external := hs
    rw [changes .internal rfl (by simp [hs]), changeSource_leaveInternal hs, disarmShow_eq]
    rfl
  · rintro rfl hs
    have hs : x.clk.source = .internal := hs
    rw [changes .tap rfl (by simp [hs]), changeSource_toTap hs]
    rfl
  · rintro rfl hs
    have hs : x.clk.source = .tap := hs
    rw [changes .internal rfl (by simp [hs]), changeSource_toInternal hs]
    rfl

/-- Settles O37. -/
theorem clockSetupTakesThreeItems : Obligations.ClockSetupTakesThreeItems := by
  intro p v s h
  generalize hx : heard p 0x2C s = x
  intro y c re
  refine ⟨request_badItem h hx, request_fills h hx rfl rfl, request_fills h hx rfl rfl, fun ht => ?_, fun hv => ?_,
    fun ht h1 h16 hq => ?_, fun ht h1 h16 hq => ?_⟩
  · exact request_refuses h hx (if_pos (.inl ht))
  · exact request_refuses h hx (if_pos (.inr hv))
  all_goals
    have taken : ¬ (x.clk.transport ≠ .stopped ∨ v < 1 ∨ 16 < v) := by
      rintro (hn | hlo)
      · exact hn ht
      · omega
  · have above : x.clk.cues.any (fun q => decide (v < q.beat)) = true := by simpa using hq
    exact request_refuses h hx ((if_neg taken).trans (if_pos above))
  · have none_above : ¬ x.clk.cues.any (fun q => decide (v < q.beat)) = true := by simpa using hq
    exact request_fills h hx ((if_neg taken).trans (if_neg none_above)) rfl

/-- Settles O38: each request's action in each state of the show. -/
theorem transportRequestsMoveTheShow : Obligations.TransportRequestsMoveTheShow := by
  intro p s h
  refine ⟨?_, ?_, ?_, ?_⟩
  · generalize hx : heard p 0x20 s = x
    intro y re cued b
    refine ⟨fun ht hs => ?_, fun ht hs => ?_, fun ht => ?_⟩
    · exact request_fills h hx (by rw [showStart_external ht hs]; rfl) rfl
    · exact (request_owner h hx).trans (by rw [showStart_runs ht hs]; rfl)
    · exact request_fills h hx (by rw [showStart_other ht]; rfl) rfl
  · generalize hx : heard p 0x21 s = x
    intro y re
    refine ⟨fun ht => ?_, fun ht => ?_⟩
    · exact request_fills h hx (by rw [onClk, holdShow_running ht]; rfl) rfl
    · exact request_fills h hx (by rw [onClk, holdShow_other ht]; rfl) rfl
  · generalize hx : heard p 0x22 s = x
    intro y re cued
    refine ⟨fun ht => ?_, fun ht => ?_⟩
    · exact (request_owner h hx).trans (by rw [showContinue_held ht]; rfl)
    · exact request_fills h hx (by rw [showContinue_other ht]; rfl) rfl
  · generalize hx : heard p 0x23 s = x
    exact request_fills h hx rfl rfl

/-- Settles O40: the clock at the new position, then the chase and the cues there. -/
theorem locateSetsThePosition : Obligations.LocateSetsThePosition := by
  intro p b k s h
  generalize hx : heard p 0x24 s = x
  intro y c re cued n ok
  have runs : ∀ chase, ok → chase ≤ 1 → exec (.showLocate p b k chase) s =
      .next (cued (showLocate b k (chase == 1) x)) := fun chase hok hc => (request_owner h hx).trans (congrArg _ (locateRequest_ok hok hc))
  refine ⟨fun hok chase => ?_, fun chase hc => ?_, fun chase hok hc => ?_, fun q hok hq => ?_⟩
  · refine request_refuses h hx (if_pos ?_)
    by_contra hn
    exact hok (by simp only [ok, y]; omega)
  · exact request_refuses h hx (if_pos (by omega))
  · have moves : exec (.showLocate p b k chase) s = .next (cued (let z : State := { x with clk := locateClock b k x.clk }
        if z.clk.transport = .running then fireHere z else z)) := by
      rw [runs chase hok (by omega), showLocate_plain hc]
    refine ⟨fun ht => ?_, fun ht hs => ?_, fun ht hs => ?_⟩
    · refine request_fills h hx ((locateRequest_ok hok (by omega)).trans ?_) rfl
      rw [showLocate_plain hc, locateClock_rests (c := x.clk) ht]
      rfl
    · rw [moves, locateClock_external (c := x.clk) ht hs]
      exact congrArg (fun z => Host.Outcome.next (cued z)) (if_pos ht)
    · rw [moves, locateClock_rephases (c := x.clk) ht hs]
      exact congrArg (fun z => Host.Outcome.next (cued z)) (if_pos ht)
  · rw [runs 1 hok le_rfl]
    exact congrArg (fun z => Host.Outcome.next (cued z)) ((showLocate_chases hq).trans (by rw [locateClock_eq]; rfl))

/-- Settles O41: the checks in order, then the list with the cue or without it. -/
theorem cuesEnterAndLeaveTheList : Obligations.CuesEnterAndLeaveTheList := by
  intro p b k s h
  refine ⟨?_, ?_⟩
  · generalize hx : heard p 0x25 s = x
    intro y c ok fired n re no legal
    have isOk : ok → cuePosOk x.clk b k = true := fun hok => cuePosOk_iff.2 hok
    refine ⟨fun hok kind a => ?_, fun kind a hk => ?_, fun n m pr g hn => ?_, fun w a hw => ?_, fun i r a hi => ?_,
      fun kind a hok hl => ⟨fun hf => ?_, fun hf hc => ?_⟩, fun hok hf hc => ?_⟩
    · have bad : cuePosOk x.clk b k = false := by
        rw [Bool.eq_false_iff]
        exact fun e => hok (cuePosOk_iff.1 e)
      exact request_refuses h hx (cueInsert_refused (.inr bad))
    · exact request_refuses h hx (cueInsert_refused (.inl (actionOf_unlisted hk a)))
    · exact request_refuses h hx (cueInsert_refused (.inl (actionOf_switch_refused g hn)))
    · exact request_refuses h hx (cueInsert_refused (.inl (actionOf_tuner_refused a hw)))
    · exact request_refuses h hx (cueInsert_refused (.inl (actionOf_satellite_refused a hi)))
    · exact request_refuses h hx (cueInsert_full (actionOf_isSome hl) (isOk hok) hf)
    · exact request_refuses h hx (cueInsert_crowded (actionOf_isSome hl) (isOk hok) hf hc)
    · have taken : ∀ kind args a clamped, actionOf kind args = some (a, clamped) →
          exec (.cueInsert p b k kind args) s = .next (re (okOr clamped) a) := fun kind args a clamped ha =>
        request_fills h hx (cueInsert_taken ha (isOk hok) hf hc) rfl
      exact ⟨fun n m pr hi lo hn hm hp => taken _ _ _ _ (actionOf_switch hi lo hn hm hp),
        fun hi lo a => taken _ _ _ _ (actionOf_tempo hi lo a), fun w a hw => taken _ _ _ _ (actionOf_tuner a hw),
        fun i r v a hi hr => taken _ _ _ _ (actionOf_satellite v a hi hr), fun a => taken _ _ _ _ (actionOf_stop a)⟩
  · generalize hx : heard p 0x26 s = x
    intro y
    refine ⟨fun n q hq hb hk => ?_, fun n q hq hbk => ?_, fun n hn => ?_⟩
    · exact request_fills h hx (cueDelete_taken hq hb hk) rfl
    · exact request_refuses h hx (cueDelete_refused fun q' hq' => by cases hq.symm.trans hq'; exact hbk)
    · exact request_refuses h hx (cueDelete_refused fun q' hq' => by simp [List.getElem?_eq_none hn, y] at hq')

end

end

section
/-! TEMPO_SET and TEMPO_LOCK (8.1), with the synced lengths that a change of tempo hands in a clock loss (R141). -/

namespace Sys2Proof.ShowClock

open Sys2Proof Sys2Proof.Machine Sys2Proof.Frame

variable {x : State} {l : Fin 4}

theorem clampNat_eq_ite (v : Nat) : clampNat 300 3000 v = if v < 300 then 300 else if 3000 < v then 3000 else v := by
  unfold clampNat
  split
  · omega
  · split <;> omega

theorem modAt_congr {α : Type} {l : List α} {i : Nat} {f g : α → α} (h : ∀ a, l[i]? = some a → f a = g a) :
    modAt l i f = modAt l i g := by
  unfold modAt
  cases ha : l[i]? with
  | none => rfl
  | some a => simp only [h a ha]

/-! ## Synced lengths that are taken up at once (R14, R141) -/

/-- A live position after a synced length is taken up in a clock loss. -/
def syncedPosition (n : Nat) (p : Position) : Position :=
  match p.inst with
  | some i =>
    match i.proc with
    | .delay w d next held _ fade clamped =>
      if parCur i 1 = 1 then { p with inst := some (retime true { i with proc := .delay w d next held (some n) fade clamped }) }
      else p
    | _ => p
  | none => p

theorem takeSyncLen_lost (k n : Nat) (x : State) :
    takeSyncLen true k n x = { x with tone := { x.tone with chain := modAt x.tone.chain k (syncedPosition n) } } := by
  cases hp : x.tone.chain[k]? with
  | none => simp [takeSyncLen, instAt, modAt, hp]
  | some p =>
    have becomes : ∀ g, syncedPosition n p = g p → modAt x.tone.chain k (syncedPosition n) = modAt x.tone.chain k g :=
      fun g hg => modAt_congr fun a ha => by rw [← Option.some.inj (hp.symm.trans ha), hg]
    have stays : syncedPosition n p = p → modAt x.tone.chain k (syncedPosition n) = x.tone.chain := fun h => by
      rw [becomes (fun a => a) h, modAt_id]
    unfold takeSyncLen
    simp only [instAt, hp, Option.bind_some]
    cases hi : p.inst with
    | none => rw [stays (by simp [syncedPosition, hi])]
    | some i =>
      dsimp only
      split
      · next w d nxt held syn fade clamped hproc =>
        split
        · next hsync =>
          rw [becomes (fun a => { a with inst := some (retime true { i with proc := .delay w d nxt held (some n) fade clamped }) })
            (by simp only [syncedPosition, hi, hproc, hsync, if_true])]
          rfl
        · next hsync => rw [stays (by simp [syncedPosition, hi, hproc, hsync])]
      · next hproc =>
        rw [stays]
        unfold syncedPosition
        rw [hi]
        dsimp only
        split
        · next h => exact absurd h (hproc _ _ _ _ _ _ _)
        · rfl

/-- The synced length to hand to a position, where it differs from the one last handed (R141). -/
def newLen (x : State) (k : Nat) : Option Nat :=
  match (syncedLens x).getD k none with
  | some n => if x.clk.handed.getD k none = some n then none else some n
  | none => none

theorem lensChanges_eq (x : State) : lensChanges x = (List.range 12).filterMap fun k => (newLen x k).map (.syncLen k) := by
  unfold lensChanges newLen
  refine List.filterMap_congr fun k _ => ?_
  cases (syncedLens x).getD k none with
  | none => rfl
  | some n => dsimp only; split <;> rfl

/-- Lengths that are taken up one after another, each at its own position. -/
theorem applyChanges_syncLen (f : Nat → Option Nat) (m : Nat) (x : State) :
    ∃ chain, applyChanges true ((List.range m).filterMap fun k => (f k).map (.syncLen k)) x =
        { x with tone := { x.tone with chain := chain } } ∧ chain.length = x.tone.chain.length ∧
      ∀ k, chain[k]? = match f k with
        | some n => if k < m then x.tone.chain[k]?.map (syncedPosition n) else x.tone.chain[k]?
        | none => x.tone.chain[k]? := by
  induction m with
  | zero => exact ⟨x.tone.chain, rfl, rfl, fun k => by cases f k <;> simp⟩
  | succ m ih =>
    obtain ⟨chain, hx, hlen, hk⟩ := ih
    have split_ : ∀ cs, applyChanges true (((List.range m).filterMap fun k => (f k).map (.syncLen k)) ++ cs) x =
        applyChanges true cs { x with tone := { x.tone with chain := chain } } := fun cs => by
      rw [← hx]
      exact List.foldl_append
    rw [List.range_succ, List.filterMap_append, split_]
    cases hm : f m with
    | none =>
      refine ⟨chain, by simp [hm, applyChanges], hlen, fun k => ?_⟩
      rw [hk k]
      by_cases he : k = m
      · rw [he, hm]
      · cases f k with
        | none => rfl
        | some n => simp only [show (k < m + 1) = (k < m) by simp; omega]
    | some n =>
      refine ⟨modAt chain m (syncedPosition n), by simp [hm, applyChanges, applyChange, takeSyncLen_lost],
        by rw [length_modAt, hlen], fun k => ?_⟩
      rw [getElem?_modAt, hk k]
      by_cases he : k = m
      · subst he
        simp [hm]
      · rw [if_neg he]
        cases f k with
        | none => rfl
        | some n => simp only [show (k < m + 1) = (k < m) by simp; omega]

/-- In a clock loss the synced lengths that differ are taken up at once, position by position (R141). -/
theorem handLens_lost (hp : present x = false) :
    ∃ chain, handLens x = { x with tone := { x.tone with chain := chain }, clk := { x.clk with handed := syncedLens x } } ∧
      chain.length = x.tone.chain.length ∧ ∀ k, chain[k]? = match newLen x k with
        | some n => if k < 12 then x.tone.chain[k]?.map (syncedPosition n) else x.tone.chain[k]?
        | none => x.tone.chain[k]? := by
  obtain ⟨chain, hx, hlen, hk⟩ := applyChanges_syncLen (newLen x) 12 { x with clk := { x.clk with handed := syncedLens x } }
  refine ⟨chain, ?_, hlen, hk⟩
  rw [← lensChanges_eq] at hx
  simp only [handLens, hp, Bool.false_eq_true, if_false]
  exact hx

/-! ## TEMPO_SET (R133) -/

theorem setTempo_same {v : Nat} (h : clampNat 300 3000 v = x.clk.tempo) : setTempo v x = x := if_pos h

/-- The tempo alone changes where the clock is present, or nothing changes. -/
theorem setTempo_plain {v : Nat} (h : present x = true ∨ clampNat 300 3000 v = x.clk.tempo) :
    setTempo v x = { x with clk := { x.clk with tempo := clampNat 300 3000 v } } := by
  rcases h with h | h
  · exact setTempo_present h v
  · rw [setTempo_same h, h]

theorem setTempo_lost {v : Nat} (hp : present x = false) (h : clampNat 300 3000 v ≠ x.clk.tempo) :
    setTempo v x = handLens { x with clk := { x.clk with tempo := clampNat 300 3000 v } } := by
  simp only [setTempo, if_neg h, hp, Bool.false_eq_true, if_false]
  rfl

theorem commandTempo_internal {v : Nat} (h : x.clk.source = .internal) : commandTempo v x = setTempo v x := by
  simp [commandTempo, h]

theorem commandTempo_tap {v : Nat} (h : x.clk.source = .tap) : commandTempo v x = onClk endTaps (setTempo v x) := by
  simp [commandTempo, h]

theorem commandTempo_external {v : Nat} (h : x.clk.source = .external) : commandTempo v x = x := by simp [commandTempo, h]

/-- TEMPO_SET of a new tempo in a clock loss: the tempo, the synced lengths, and under TAP the end of the series. -/
theorem commandTempo_lost {v : Nat} (hs : x.clk.source ≠ .external) (hp : present x = false)
    (hc : clampNat 300 3000 v ≠ x.clk.tempo) :
    let set : State := { x with clk := { x.clk with tempo := clampNat 300 3000 v } }
    ∃ chain, commandTempo v x = { x with
        tone := { x.tone with chain := chain }
        clk := { x.clk with
          tempo := clampNat 300 3000 v, handed := syncedLens set
          tapLast := if x.clk.source = .tap then none else x.clk.tapLast
          taps := if x.clk.source = .tap then [] else x.clk.taps } } ∧
      chain.length = x.tone.chain.length ∧
      ∀ k, chain[k]? = match newLen set k with
        | some n => if k < 12 then x.tone.chain[k]?.map (syncedPosition n) else x.tone.chain[k]?
        | none => x.tone.chain[k]? := by
  intro set
  obtain ⟨chain, hl, hlen, hk⟩ := handLens_lost (x := set) hp
  refine ⟨chain, ?_, hlen, hk⟩
  have lost : setTempo v x = handLens set := setTempo_lost hp hc
  cases hsrc : x.clk.source
  case internal =>
    rw [commandTempo_internal hsrc, lost, hl]
    rfl
  case tap =>
    rw [commandTempo_tap hsrc, lost, hl]
    rfl
  case external => exact absurd hsrc hs

/-- The synced length that R141 forms for a live position. -/
def syncedAt (x : State) (k : Nat) : Option Nat :=
  match instAt x k with
  | some i => if i.stype = .delay ∧ parCur i 1 = 1 then some (syncedLen x.clk.tempo (parCur i 2)) else none
  | none => none

theorem syncedLens_eq (x : State) : syncedLens x = (List.range 12).map (syncedAt x) := rfl

theorem newLen_eq_some {k n : Nat} :
    newLen x k = some n ↔ k < 12 ∧ syncedAt x k = some n ∧ x.clk.handed.getD k none ≠ some n := by
  have lens : (syncedLens x).getD k none = if k < 12 then syncedAt x k else none := by
    by_cases hk : k < 12
    · simp [syncedLens_eq, List.getD_eq_getElem?_getD, hk]
    · simp [syncedLens_eq, List.getD_eq_getElem?_getD, hk]
  unfold newLen
  rw [lens]
  by_cases hk : k < 12
  · simp only [if_pos hk]
    cases syncedAt x k with
    | none => simp
    | some m =>
      by_cases hm : x.clk.handed.getD k none = some m
      · simp only [hm, if_true]
        constructor
        · intro h; cases h
        · rintro ⟨-, h, hne⟩; exact absurd h hne
      · simp only [hm, if_false]
        constructor
        · rintro h; cases h; exact ⟨hk, rfl, hm⟩
        · rintro ⟨-, h, -⟩; exact h
  · simp [hk]

theorem newLen_eq_none {k : Nat} (h : 12 ≤ k ∨ syncedAt x k = none ∨ syncedAt x k = x.clk.handed.getD k none) :
    newLen x k = none := by
  refine Option.eq_none_iff_forall_ne_some.2 fun n hn => ?_
  obtain ⟨hk, hat, hne⟩ := newLen_eq_some.1 hn
  rcases h with h | h | h
  · omega
  · rw [hat] at h; cases h
  · exact hne (h.symm.trans hat)

theorem syncedPosition_delay {n w d : Nat} {i : Inst} {nxt held syn : Option Nat} {fade : Ramp} {clamped : Bool} {ty : SlotType}
    (hp : i.proc = .delay w d nxt held syn fade clamped) (h : parCur i 1 = 1) :
    syncedPosition n ⟨ty, some i⟩ = ⟨ty, some (retime true { i with proc := .delay w d nxt held (some n) fade clamped })⟩ := by
  simp [syncedPosition, hp, h]

theorem parCur_of_syncedAt {k n : Nat} {ty : SlotType} {i : Inst} (hk : x.tone.chain[k]? = some ⟨ty, some i⟩)
    (h : syncedAt x k = some n) : parCur i 1 = 1 := by
  simp only [syncedAt, instAt, hk, Option.bind_some] at h
  split at h
  · next hd => exact hd.2
  · cases h

end Sys2Proof.ShowClock

section
open Sys2Proof Sys2Proof.Machine Sys2Proof.Frame Sys2Proof.ShowClock

/-- Settles O34: the tempo in force by source; in a clock loss the synced lengths follow at once, position by position. -/
theorem tempoCommandsAct : Obligations.TempoCommandsAct := by
  intro p v s
  refine ⟨fun h => ?_, fun h => ?_⟩
  · generalize hx : heard p 0x14 s = x
    intro y t st
    have hpres : present (prelude s) = present x := by rw [← hx, present_heard]
    have ht : clampNat 300 3000 v = t := clampNat_eq_ite v
    have owner : ∀ z, commandTempo v x = z → x.clk.source ≠ .external → z.clk.tempo = t → z.clk.source = x.clk.source →
        tempoSet p.link v x = answer p.link st (be2 t ++ [byte (tempoSourceCode x.clk.source)]) z := by
      rintro _ rfl hs htempo hsrc
      have outside_ext : (x.clk.source != .external) = true := bne_iff_ne.2 hs
      simp only [tempoSet, htempo, hsrc, ht, st, outside_ext, Bool.true_and]
    rw [hpres]
    refine ⟨fun hs hp => ?_, fun hs hp => ?_, fun hs hp hc => ?_, fun hs => ?_⟩
    · have hs : x.clk.source = .internal := hs
      have command : commandTempo v x = { x with clk := { x.clk with tempo := t } } := by
        rw [commandTempo_internal hs, setTempo_plain (ht ▸ hp), ht]
      have answers := owner _ command (by simp [hs]) rfl rfl
      rw [hs] at answers
      exact request_fills h hx answers rfl
    · have hs : x.clk.source = .tap := hs
      have command : commandTempo v x = { x with clk := { x.clk with tempo := t, tapLast := none, taps := [] } } := by
        rw [commandTempo_tap hs, setTempo_plain (ht ▸ hp), ht]
        rfl
      have answers := owner _ command (by simp [hs]) rfl rfl
      rw [hs] at answers
      exact request_fills h hx answers rfl
    · intro len tap
      obtain ⟨chain, hcmd, hlen, hk⟩ := commandTempo_lost (x := x) hs hp (ht ▸ hc)
      simp only [ht] at hcmd hk
      have code : byte (tempoSourceCode x.clk.source) = if tap then 1 else 0 := by
        simp only [tap, y]
        cases hsrc : x.clk.source
        case internal => rfl
        case tap => rfl
        case external => exact absurd hsrc hs
      have answers := owner _ hcmd hs rfl rfl
      rw [code] at answers
      have row := request_fills h hx answers rfl
      refine ⟨_, row, rfl, hlen, fun k ty i hki =>
        ⟨fun j w d nxt held syn f cl n hij hproc hk12 hn hne => ?_, fun hsame => ?_⟩⟩
      · subst hij
        have hat : syncedAt { x with clk := { x.clk with tempo := t } } k = some n := hn
        have hnew := newLen_eq_some.2 ⟨hk12, hat, hne⟩
        refine (hk k).trans ?_
        simp only [hnew, if_pos hk12]
        rw [show x.tone.chain[k]? = _ from hki, Option.map_some, syncedPosition_delay hproc (parCur_of_syncedAt (x := { x with clk := { x.clk with tempo := t } }) hki hat)]
      · refine (hk k).trans ?_
        rw [newLen_eq_none (x := { x with clk := { x.clk with tempo := t } }) hsame]
        exact hki
    · have hs : x.clk.source = .external := hs
      refine request_fills h hx ?_ rfl
      simp [tempoSet, commandTempo_external hs, hs, okOr, tempoSourceCode, y]
      rfl
  · generalize hx : heard p 0x2B s = x
    intro y
    have flag : v ≤ 1 → flagByte (v == 1) = byte v := fun hv => by
      obtain rfl | rfl : v = 0 ∨ v = 1 := by omega
      · rfl
      · rfl
    refine ⟨fun hv => ?_, fun hv same => ?_, fun hv change => ?_⟩
    · exact request_refuses h hx (if_pos hv)
    · exact request_fills h hx (by simp only [tempoLock, if_neg (Nat.not_lt.2 hv), if_pos (show (v == 1) = x.clk.lock from same), flag hv]; rfl) rfl
    · exact request_fills_raise h hx (by simp only [tempoLock, if_neg (Nat.not_lt.2 hv), if_neg (show (v == 1) ≠ x.clk.lock from change), flag hv]; rfl) rfl

end

end

section
/-! The firing of cues (8.4) and the countdown's beat event (8.2, 8.3). -/

namespace Sys2Proof.ShowClock

open Sys2Proof Sys2Proof.Machine Sys2Proof.Frame

variable {x : State}

/-! ## Firing (R148) -/

/-- Cues that hold no STOP all fire, one after another. -/
theorem fireList_noStop {l : List Cue} (h : ∀ q ∈ l, q.action ≠ .stop) (x : State) :
    fireList l x = l.foldl (fun z q => fireCue q z) x := by
  have := fireList_append l [] x h
  simpa [fireList] using this

/-- A STOP is the last cue that fires. -/
theorem fireList_stop {pre post : List Cue} {q : Cue} (h : ∀ q ∈ pre, q.action ≠ .stop) (hq : q.action = .stop) (x : State) :
    fireList (pre ++ q :: post) x = fireCue q (pre.foldl (fun z q => fireCue q z) x) := by
  rw [fireList_append pre _ x h, fireList, if_pos hq]

/-- The marks, the outcome and the notice of a cue that fires, before its action. -/
def cueMarked (q : Cue) (x : State) : State :=
  raise .cue { x with clk := { x.clk with
    lastFired := some (q.bar, q.beat)
    cues := x.clk.cues.map fun a => if a.tag = q.tag then { a with fired := true, outcome := .done } else a } }

/-- A cue that fires is marked, then acts. -/
theorem fireCue_eq (q : Cue) (x : State) : fireCue q x = match q.action with
    | .switch p k pr g => cueSwitch q.tag p k pr g (cueMarked q x)
    | .tempo t => commandTempo t (cueMarked q x)
    | .tuner watch => setTunerMode (if watch then .watch else .off) (cueMarked q x)
    | .satellite i r v => cueSatellite i r v (cueMarked q x)
    | .stop => onClk stopShow (cueMarked q x) := rfl

theorem cueSwitch_illegal {tag n k pr g : Nat} (h : switchArgsOk x n k false = false) :
    cueSwitch tag n k pr g x = cueOutcome tag .badArg x := by simp [cueSwitch, h]

theorem cueSwitch_legal {tag n k pr g : Nat} (h : switchArgsOk x n k false = true) :
    let a := arbiter ⟨.preset n k, false, false, false, .cue tag, pr, g⟩ x
    cueSwitch tag n k pr g x = if a.1 = .taken then a.2 else cueOutcome tag a.1 a.2 := by simp [cueSwitch, h]

/-- A cue's marks leave the tempo, the countdown and the position alone. -/
theorem fireCue_tempo {q : Cue} {t : Nat} (hq : q.action = .tempo t) (hp : present x = true) (hs : x.clk.source ≠ .external) :
    (fireCue q x).clk.tempo = clampNat 300 3000 t ∧ (fireCue q x).clk.beat = x.clk.beat ∧
      (fireCue q x).clk.countdown = x.clk.countdown := by
  have hp' : present (cueMarked q x) = true := hp
  have fires : fireCue q x = commandTempo t (cueMarked q x) := by rw [fireCue_eq, hq]
  rw [fires]
  cases hsrc : x.clk.source
  case internal =>
    have fired : commandTempo t (cueMarked q x) = _ := (commandTempo_internal (x := cueMarked q x) hsrc).trans (setTempo_present hp' t)
    rw [fired]
    exact ⟨rfl, rfl, rfl⟩
  case tap =>
    have fired : commandTempo t (cueMarked q x) = _ := (commandTempo_tap (x := cueMarked q x) hsrc).trans (congrArg _ (setTempo_present hp' t))
    rw [fired]
    exact ⟨rfl, rfl, rfl⟩
  case external => exact absurd hsrc hs

/-! ## The countdown's beat event (R139, R140, R143) -/

/-- The state when the samples up to the countdown's beat event have passed. -/
def arrived (y : State) : State :=
  { y with
    clk := { y.clk with
      pos := y.clk.pos + BitVec.ofNat 32 (samplesToBeat y.clk), sinceBeat := y.clk.sinceBeat + samplesToBeat y.clk
      countdown := y.clk.countdown - 256 * (samplesToBeat y.clk : Int) }
    tone := { y.tone with framePhase := y.tone.framePhase + samplesToBeat y.clk }
    tuner := { y.tuner with pos := y.tuner.pos + BitVec.ofNat 32 (samplesToBeat y.clk) } }

/-- The clock at the beat event, before a RUNNING show moves and the countdown is loaded again. -/
def beatClock (y : State) : Show :=
  { y.clk with
    pos := y.clk.pos + BitVec.ofNat 32 (samplesToBeat y.clk), sinceBeat := 0, beatCount := (y.clk.beatCount + 1) % 48
    countdown := y.clk.countdown - 256 * (samplesToBeat y.clk : Int) }

/-- A beat event that has come: nothing has to pass. -/
theorem arrived_due (h : x.clk.countdown ≤ 0) : arrived x = x := by
  have hn : samplesToBeat x.clk = 0 := by unfold samplesToBeat; omega
  simp [arrived, hn]

theorem countdown_arrived (y : State) : (arrived y).clk.countdown ≤ 0 := by
  have : y.clk.countdown - 256 * (samplesToBeat y.clk : Int) ≤ 0 := by unfold samplesToBeat; omega
  exact this

theorem beatDue_iff : beatDue x = true ↔ present x = true ∧ x.clk.source ≠ .external ∧ x.clk.countdown ≤ 0 := by
  simp [beatDue, and_assoc]

theorem exec_beatEvent_due {s : State} (hl : live s = true) (h : beatDue s = true) :
    exec .beatEvent s = .next (beatStep (arrived s)) := by
  obtain ⟨-, -, hc⟩ := beatDue_iff.1 h
  rw [arrived_due hc]
  exact (if_pos h).trans (inside_live hl _)

theorem exec_beatEvent_later {s : State} (hl : live s = true) (h : beatDue s = false) :
    exec .beatEvent s = .next (beatRow (prelude s)) :=
  (if_neg (by simp [h])).trans (outside_live hl _)

theorem beatRow_within (hp : present x = true) (hs : x.clk.source ≠ .external)
    (hn : x.tone.framePhase + samplesToBeat x.clk ≤ 32) : beatRow x = beatStep (arrived x) := by
  unfold beatRow
  rw [if_pos ⟨hp, hs, hn⟩]
  simp [passSamples, onTuner, onClk, onTone, hs, arrived]

theorem beatRow_beyond (h : present x = false ∨ x.clk.source = .external ∨ 32 < x.tone.framePhase + samplesToBeat x.clk) :
    beatRow x = x := by
  refine if_neg fun ⟨hp, hs, hn⟩ => ?_
  rcases h with h | h | h
  · simp [h] at hp
  · exact hs h
  · omega

/-- The event itself: the show moves on, BEAT is pending, the countdown is loaded with the tempo then in force. -/
theorem beatStep_arrived (hp : present x = true) (hs : x.clk.source ≠ .external) :
    beatStep (arrived x) =
      onClk reloadCountdown (raise .beat (advanceShow { arrived x with clk := beatClock x })) :=
  if_pos ((beatDue_iff (x := arrived x)).2 ⟨hp, hs, countdown_arrived x⟩)

end Sys2Proof.ShowClock

section
open Sys2Proof Sys2Proof.Machine Sys2Proof.Frame Sys2Proof.ShowClock

/-- Settles O39: the firing of a list, and each action on the marked list. -/
theorem unfiredCueFires : Obligations.UnfiredCueFires := by
  refine ⟨fun s => ?_, fun s q => ?_⟩
  · intro here
    have fires : fireHere s = fireList here s := rfl
    refine ⟨fun h => fireList_noStop h s, fun pre q post hl hpre hq => ?_⟩
    rw [fires, hl, fireList_stop hpre hq]
  · intro z
    have hz : cueMarked q s = z := rfl
    have fires := fireCue_eq q s
    rw [hz] at fires
    refine ⟨fun hq => ?_, fun t hq => ?_, fun w hq => ?_, fun i r v hq => ?_, fun n k pr g hq hargs => ?_,
      fun n k pr g hq hargs => ?_⟩
    all_goals rw [hq] at fires
    · exact fires
    · exact fires
    · exact fires
    · rw [fires]
      simp only [cueSatellite, pushed_eq]
    · exact fires.trans (cueSwitch_illegal hargs)
    · intro a
      have legal := fires.trans (cueSwitch_legal hargs)
      exact ⟨fun ha => legal.trans (if_pos ha), fun ha => legal.trans (if_neg ha)⟩

/-- Settles O42: at the event the show moves by its transport and position, then the countdown is loaded again. -/
theorem beatEventMovesTheBeat : Obligations.BeatEventMovesTheBeat := by
  intro s hl due ahead acts
  have event : ∀ y : State, exec .beatEvent s = .next (beatStep (arrived y)) → present y = true → y.clk.source ≠ .external →
      acts y := fun y hex hp hs => by
    rw [beatStep_arrived hp hs] at hex
    set w : State := { arrived y with clk := beatClock y } with hw
    unfold acts
    intro n b c z calm fires
    have moves : ∀ v, advanceShow w = v → exec .beatEvent s = .next (onClk reloadCountdown (raise .beat v)) :=
      fun v hv => hv ▸ hex
    refine ⟨fun hr hk => ?_, fun hr hk hb => ?_, fun hr => ?_, fun hr hk hcalm => ?_, fun hr hk hb hcalm => ?_,
      fun hr hk hb => ?_, fun q t hr hk hq hone => ?_⟩
    · exact moves _ (advanceShow_nextBeat (s := w) hr hk)
    · exact moves _ (advanceShow_nextBar (s := w) hr hk hb)
    · exact moves _ (advanceShow_idle (s := w) hr)
    · exact moves _ ((advanceShow_nextBeat (s := w) hr hk).trans (fireHere_noCue hcalm))
    · exact moves _ ((advanceShow_nextBar (s := w) hr hk hb).trans (fireHere_noCue hcalm))
    · exact moves _ (advanceShow_lastBar (s := w) hr hk hb)
    · set v : State := { w with clk := { w.clk with beat := w.clk.beat + 1 } } with hv
      have fired : fireHere v = fireCue q v := by
        have here : fireHere v = fireList [q] v := congrArg (fireList · v) hone
        rw [here, fireList_noStop (by simp [hq])]
        rfl
      obtain ⟨htempo, hbeat, hcount⟩ := fireCue_tempo (x := v) hq hp hs
      refine ⟨_, moves _ ((advanceShow_nextBeat (s := w) hr hk).trans fired), hbeat, htempo, ?_, ?_⟩
      · exact congrArg beatLen htempo
      · exact congrArg₂ (· + ·) hcount (congrArg (fun t => (beatLen t : Int)) htempo)
  refine ⟨fun h => ?_, fun h hp hs hn => ?_, fun h hout => ?_⟩
  · exact event s (exec_beatEvent_due hl (beatDue_iff.2 h)) h.1 h.2.1
  · have later : beatDue s = false := Bool.eq_false_iff.2 fun e => h (beatDue_iff.1 e)
    refine event _ ?_ hp hs
    rw [exec_beatEvent_later hl later, beatRow_within hp hs hn]
  · have later : beatDue s = false := Bool.eq_false_iff.2 fun e => h (beatDue_iff.1 e)
    rw [exec_beatEvent_later hl later, beatRow_beyond hout]

end

end

section
/-! The Satellite Controller: what its operations leave in one satellite, and the claims about answers, failures, pass-through
requests, setup items and timers (chapter 9). -/

namespace Sys2Proof.Frame

open Sys2Proof Sys2Proof.Machine Sys2Proof.ShowClock

variable {x y z : State} {i : Nat} {a : Sat} {b : Bool}

/-! ## One satellite and its notice

Every operation on a satellite leaves a new value in its place, and possibly SATELLITE pending. `satLeft` is that shape; the
operations are computed on it. -/

/-- The state with value `a` in place `i` of the satellites, SATELLITE pending where `b`. -/
def satLeft (i : Nat) (a : Sat) (b : Bool) (y : State) : State :=
  if b then raise .satellite (onSatAt i (fun _ => a) y) else onSatAt i (fun _ => a) y

theorem raise_raise (k : NoticeKind) (y : State) : raise k (raise k y) = raise k y := by
  simp [raise, onLink, BitVec.or_assoc]

theorem satOf_onSatAt_same (h : i < y.sat.sats.length) (f : Sat → Sat) : satOf (onSatAt i f y) i = f (satOf y i) := by
  simp only [satOf, onSatAt, onSat, List.getD_eq_getElem?_getD, getElem?_modAt, if_true, List.getElem?_eq_getElem h,
    Option.map_some, Option.getD_some]

theorem satOf_onSatAt_ne {j : Nat} (h : j ≠ i) (f : Sat → Sat) (y : State) : satOf (onSatAt i f y) j = satOf y j := by
  simp [satOf, onSatAt, onSat, List.getD_eq_getElem?_getD, getElem?_modAt, h]

theorem satOf_onSatAt_cases (i : Nat) (f : Sat → Sat) (y : State) :
    satOf (onSatAt i f y) i = f (satOf y i) ∨ satOf (onSatAt i f y) i = satOf y i := by
  by_cases h : i < y.sat.sats.length
  · exact .inl (satOf_onSatAt_same h f)
  · refine .inr ?_
    simp only [satOf, onSatAt, onSat, List.getD_eq_getElem?_getD, getElem?_modAt, if_true,
      List.getElem?_eq_none (Nat.not_lt.1 h), Option.map_none]

theorem onSatAt_const (f : Sat → Sat) (a : Sat) (y : State) :
    onSatAt i f (onSatAt i (fun _ => a) y) = onSatAt i (fun _ => f a) y := by
  simp [onSatAt, onSat, modAt_modAt]

/-- Any update of satellite `i` puts a value in its place. -/
theorem onSatAt_eq_satLeft (f : Sat → Sat) :
    onSatAt i f y = satLeft i (f (satOf y i)) false y := by
  simp only [satLeft, Bool.false_eq_true, if_false, onSatAt, onSat]
  have value : ∀ c, y.sat.sats[i]? = some c → f c = f (satOf y i) := fun c hc => by
    simp only [satOf, List.getD_eq_getElem?_getD, hc, Option.getD_some]
  rw [modAt_congr value]

theorem satLeft_same : satLeft i (satOf y i) false y = y := by
  rw [← onSatAt_eq_satLeft (fun a => a)]
  simp [onSatAt, onSat, modAt_id]

theorem onSatAt_satLeft (f : Sat → Sat) : onSatAt i f (satLeft i a b y) = satLeft i (f a) b y := by
  cases b
  · exact onSatAt_const f a y
  · exact congrArg (raise .satellite) (onSatAt_const f a y)

theorem raise_satLeft : raise .satellite (satLeft i a b y) = satLeft i a true y := by
  cases b
  · rfl
  · exact raise_raise _ _

theorem satOf_satLeft (h : i < y.sat.sats.length) : satOf (satLeft i a b y) i = a := by
  cases b <;> exact satOf_onSatAt_same h _

section
variable (h : i < y.sat.sats.length)
include h

theorem satSetState_satLeft (st : SatState) :
    satSetState i st (satLeft i a b y) = satLeft i { a with state := st } (b || decide (a.state ≠ st)) y := by
  unfold satSetState
  rw [satOf_satLeft h]
  by_cases hs : a.state = st
  · subst hs
    simp
  · rw [if_neg hs, onSatAt_satLeft, raise_satLeft]
    simp [hs]

theorem satRestore_satLeft : satRestore i (satLeft i a b y) =
    satLeft i { a with marks := List.replicate 16 .routine, owed := true, state := .restoring }
      (b || decide (a.state ≠ .restoring)) y := by
  rw [satRestore, onSatAt_satLeft, satSetState_satLeft h]

theorem satAnswered_satLeft : satAnswered i (satLeft i a b y) =
    if a.state = .unknown ∨ a.state = .absent then
      satLeft i { a with failures := 0, marks := List.replicate 16 .routine, owed := true, state := .restoring } true y
    else satLeft i { a with failures := 0 } b y := by
  unfold satAnswered
  rw [satOf_satLeft h, onSatAt_satLeft]
  by_cases hs : a.state = .unknown ∨ a.state = .absent
  · rw [if_pos hs, if_pos hs, satRestore_satLeft h]
    rcases hs with hs | hs <;> simp [hs]
  · rw [if_neg hs, if_neg hs]

theorem satFailed_satLeft : satFailed i (satLeft i a b y) =
    if min 3 (a.failures + 1) = 3 then
      satLeft i { a with failures := min 3 (a.failures + 1), state := .absent } (b || decide (a.state ≠ .absent)) y
    else satLeft i { a with failures := min 3 (a.failures + 1) } b y := by
  unfold satFailed
  simp only [satOf_satLeft h, onSatAt_satLeft]
  split
  · rw [satSetState_satLeft h]
  · rfl

/-- The satellite's value after an answered write (R156), before its state follows. -/
theorem satWriteAnswer_satLeft (r data : Nat) : satWriteAnswer i r data (satLeft i a b y) =
    let m := if a.desired.getD r 0 = data then a.marks.set r .absent else a.marks
    let z := satAnswered i (satLeft i { a with marks := m } b y)
    if (satOf z i).state = .behind ∧ noMarks (satOf z i) then satSetState i .inStep z else z := by
  unfold satWriteAnswer
  rw [satOf_satLeft h, onSatAt_satLeft]
  by_cases hd : a.desired.getD r 0 = data
  · simp only [hd, bne_self_eq_false, Bool.false_eq_true, if_false, if_true]
  · simp only [hd, bne_iff_ne.2 hd, if_true, if_false]

theorem satStatusWriteAnswer_satLeft : satStatusWriteAnswer i (satLeft i a b y) =
    if a.state = .restoring then
      satSetState i (if noMarks a then .inStep else .behind) (satLeft i { a with failures := 0, owed := false } b y)
    else satAnswered i (satLeft i a b y) := by
  unfold satStatusWriteAnswer
  rw [satOf_satLeft h]
  by_cases hs : a.state = .restoring
  · rw [if_pos hs, if_pos hs, satAnswered_satLeft h, if_neg (by simp [hs])]
    simp only [onSatAt_satLeft, satOf_satLeft h]
    rfl
  · rw [if_neg hs, if_neg hs]

theorem satPollAnswer_satLeft (status : Byte) : satPollAnswer i status (satLeft i a b y) =
    let latch := if status &&& 0x40 = 0 then a.latch else some (status &&& 0x0F).toNat
    let z := satAnswered i
      (satLeft i { a with last := some (status &&& 0xCF), latch := latch } (b || decide (latch ≠ a.latch)) y)
    if status &&& 0x80 = 0 then z else satRestore i z := by
  unfold satPollAnswer
  simp only [satOf_satLeft h, onSatAt_satLeft, raise_satLeft]
  simp only [bne_iff_ne, ne_eq, ite_not, statusKept]
  by_cases fault : status &&& 0x40 = 0
  · simp only [fault, if_true, not_true, decide_false, Bool.or_false]
  · by_cases same : a.latch = some (status &&& 0x0F).toNat
    · simp only [fault, if_false, same, if_true, not_true, decide_false, Bool.or_false]
    · simp only [fault, if_false, same, Ne.symm same, not_false_eq_true, decide_true, Bool.or_true]

end

/-! ## The end of a transaction -/

/-- What the end of a transaction may leave: value `a` in satellite `i`, the line idle, and SATELLITE pending where state or latch
changed (R168). -/
def Settled (i : Nat) (a : Sat) (y z : State) : Prop :=
  satOf z i = a ∧ (∀ j, j ≠ i → satOf z j = satOf y j) ∧ z.sat = { y.sat with inFlight := none, sats := z.sat.sats } ∧
    z = { y with sat := z.sat, link := z.link } ∧
    z.link = if a.state = (satOf y i).state ∧ a.latch = (satOf y i).latch then y.link else (raise .satellite y).link

theorem settled_satLeft (h : i < y.sat.sats.length)
    (hb : b = !decide (a.state = (satOf y i).state ∧ a.latch = (satOf y i).latch)) :
    Settled i a y (satLeft i a b (endTrans y)) := by
  have others : ∀ j, j ≠ i → satOf (satLeft i a b (endTrans y)) j = satOf y j := fun j hj => by
    cases b <;> exact satOf_onSatAt_ne hj _ (endTrans y)
  refine ⟨satOf_satLeft (y := endTrans y) h, others, ?_, ?_, ?_⟩
  · cases b <;> rfl
  · cases b <;> rfl
  · by_cases same : a.state = (satOf y i).state ∧ a.latch = (satOf y i).latch
    · simp only [same, and_self, decide_true, Bool.not_true] at hb
      subst hb
      rw [if_pos same]
      rfl
    · simp only [same, decide_false, Bool.not_false] at hb
      subst hb
      rw [if_neg same]
      rfl

/-- A restored satellite (R157): every register ROUTINE, the status write owed. -/
def restored (x : Sat) : Sat := { x with marks := List.replicate 16 .routine, owed := true, state := .restoring }

theorem satLeft_endTrans : satLeft i (satOf y i) false (endTrans y) = endTrans y :=
  satLeft_same (y := endTrans y)

section
variable (h : i < y.sat.sats.length)
include h

/-! ### An answered register write (R156) -/

theorem writeAnswer_restores (r data : Nat) (hs : (satOf y i).state = .unknown ∨ (satOf y i).state = .absent) :
    Settled i (restored { satOf y i with
      failures := 0, marks := if (satOf y i).desired.getD r 0 = data then (satOf y i).marks.set r .absent else (satOf y i).marks })
      y (satWriteAnswer i r data (endTrans y)) := by
  have value := satWriteAnswer_satLeft (y := endTrans y) (a := satOf y i) (b := false) h r data
  rw [satLeft_endTrans] at value
  simp only [satAnswered_satLeft (y := endTrans y) h, if_pos hs, satOf_satLeft (y := endTrans y) h, reduceCtorEq, false_and, if_false] at value
  rw [value]
  exact settled_satLeft h (by rcases hs with hs | hs <;> simp [restored, hs])

theorem writeAnswer_inStep (r data : Nat) (hs : (satOf y i).state = .behind)
    (hm : ∀ k ∈ (if (satOf y i).desired.getD r 0 = data then (satOf y i).marks.set r .absent else (satOf y i).marks), k = .absent) :
    Settled i { satOf y i with
      failures := 0, state := .inStep
      marks := if (satOf y i).desired.getD r 0 = data then (satOf y i).marks.set r .absent else (satOf y i).marks }
      y (satWriteAnswer i r data (endTrans y)) := by
  have value := satWriteAnswer_satLeft (y := endTrans y) (a := satOf y i) (b := false) h r data
  have known : ¬ ((satOf y i).state = .unknown ∨ (satOf y i).state = .absent) := by simp [hs]
  rw [satLeft_endTrans] at value
  simp only [satAnswered_satLeft (y := endTrans y) h, if_neg known, satOf_satLeft (y := endTrans y) h, noMarks,
    List.all_eq_true, beq_iff_eq, if_pos (And.intro hs hm), satSetState_satLeft (y := endTrans y) h] at value
  rw [value]
  exact settled_satLeft h (by simp [hs])

theorem writeAnswer_stays (r data : Nat)
    (hs : (satOf y i).state = .restoring ∨ (satOf y i).state = .inStep ∨ (satOf y i).state = .behind ∧
      ∃ k ∈ (if (satOf y i).desired.getD r 0 = data then (satOf y i).marks.set r .absent else (satOf y i).marks), k ≠ .absent) :
    Settled i { satOf y i with
      failures := 0
      marks := if (satOf y i).desired.getD r 0 = data then (satOf y i).marks.set r .absent else (satOf y i).marks }
      y (satWriteAnswer i r data (endTrans y)) := by
  have value := satWriteAnswer_satLeft (y := endTrans y) (a := satOf y i) (b := false) h r data
  have known : ¬ ((satOf y i).state = .unknown ∨ (satOf y i).state = .absent) := by
    rcases hs with hs | hs | ⟨hs, -⟩ <;> simp [hs]
  rw [satLeft_endTrans] at value
  have full : ¬ ((satOf y i).state = .behind ∧ ∀ k ∈ (if (satOf y i).desired.getD r 0 = data then
      (satOf y i).marks.set r .absent else (satOf y i).marks), k = .absent) := by
    rintro ⟨hbeh, all⟩
    rcases hs with hs | hs | ⟨-, k, hk, mark⟩
    · simp [hs] at hbeh
    · simp [hs] at hbeh
    · exact mark (all k hk)
  simp only [satAnswered_satLeft (y := endTrans y) h, if_neg known, satOf_satLeft (y := endTrans y) h, noMarks,
    List.all_eq_true, beq_iff_eq, if_neg full] at value
  rw [value]
  exact settled_satLeft h (by simp)

/-! ### An answered status write (R157) -/

theorem statusWriteAnswer_ends (hs : (satOf y i).state = .restoring) :
    Settled i { satOf y i with
      failures := 0, owed := false, state := if noMarks (satOf y i) then .inStep else .behind }
      y (satStatusWriteAnswer i (endTrans y)) := by
  have value := satStatusWriteAnswer_satLeft (y := endTrans y) (a := satOf y i) (b := false) h
  rw [satLeft_endTrans, if_pos hs, satSetState_satLeft (y := endTrans y) h] at value
  rw [value]
  exact settled_satLeft h (by cases noMarks (satOf y i) <;> simp [hs])

theorem statusWriteAnswer_restores (hs : (satOf y i).state = .unknown ∨ (satOf y i).state = .absent) :
    Settled i (restored { satOf y i with failures := 0 }) y (satStatusWriteAnswer i (endTrans y)) := by
  have value := satStatusWriteAnswer_satLeft (y := endTrans y) (a := satOf y i) (b := false) h
  rw [if_neg (by rcases hs with hs | hs <;> simp [hs]), satAnswered_satLeft (y := endTrans y) h, if_pos hs,
    satLeft_endTrans] at value
  rw [value]
  exact settled_satLeft h (by rcases hs with hs | hs <;> simp [restored, hs])

theorem statusWriteAnswer_stays (hs : (satOf y i).state = .behind ∨ (satOf y i).state = .inStep) :
    Settled i { satOf y i with failures := 0 } y (satStatusWriteAnswer i (endTrans y)) := by
  have value := satStatusWriteAnswer_satLeft (y := endTrans y) (a := satOf y i) (b := false) h
  rw [if_neg (by rcases hs with hs | hs <;> simp [hs]), satAnswered_satLeft (y := endTrans y) h,
    if_neg (by rcases hs with hs | hs <;> simp [hs]), satLeft_endTrans] at value
  rw [value]
  exact settled_satLeft h (by simp)

/-! ### An answered poll (R158) -/

theorem pollAnswer_restores (status : Byte)
    (hs : status &&& 0x80 ≠ 0 ∨ (satOf y i).state = .unknown ∨ (satOf y i).state = .absent) :
    Settled i (restored { satOf y i with
      failures := 0, last := some (status &&& 0xCF)
      latch := if status &&& 0x40 = 0 then (satOf y i).latch else some (status &&& 0x0F).toNat })
      y (satPollAnswer i status (endTrans y)) := by
  have value := satPollAnswer_satLeft (y := endTrans y) (a := satOf y i) (b := false) h status
  rw [satLeft_endTrans] at value
  simp only [satAnswered_satLeft (y := endTrans y) h] at value
  by_cases unseen : (satOf y i).state = .unknown ∨ (satOf y i).state = .absent
  · simp only [if_pos unseen, satRestore_satLeft (y := endTrans y) h, Bool.true_or, ite_self] at value
    rw [value]
    exact settled_satLeft h (by rcases unseen with hu | hu <;> simp [restored, hu])
  · simp only [if_neg unseen, satRestore_satLeft (y := endTrans y) h, if_neg (hs.resolve_right unseen), Bool.false_or] at value
    rw [value]
    refine settled_satLeft h ?_
    by_cases hr : (satOf y i).state = .restoring
    · simp [restored, hr]
    · simp [restored, hr, eq_comm (a := SatState.restoring)]

theorem pollAnswer_stays (status : Byte)
    (hs : status &&& 0x80 = 0 ∧ (satOf y i).state ≠ .unknown ∧ (satOf y i).state ≠ .absent) :
    Settled i { satOf y i with
      failures := 0, last := some (status &&& 0xCF)
      latch := if status &&& 0x40 = 0 then (satOf y i).latch else some (status &&& 0x0F).toNat }
      y (satPollAnswer i status (endTrans y)) := by
  have value := satPollAnswer_satLeft (y := endTrans y) (a := satOf y i) (b := false) h status
  obtain ⟨up, hu, ha⟩ := hs
  rw [satLeft_endTrans] at value
  simp only [satAnswered_satLeft (y := endTrans y) h, hu, ha, or_self, if_false, if_pos up] at value
  rw [value]
  exact settled_satLeft h (by simp)

end

/-! ## The rows of the answers -/

section
variable {s : State} {t : Trans} (hl : live s = true) (hf : (prelude s).sat.inFlight = some t)
include hl hf

theorem exec_writeAnswered (ht : t.link = none) (hr : t.read = false) (hreg : t.reg < 16) :
    exec .writeAnswered s = .next (satWriteAnswer t.sat t.reg t.data (endTrans (prelude s))) := by
  refine (outside_live hl _).trans (congrArg _ ?_)
  simp only [writeAnswered, hf, ht, hr, hreg, and_self, if_true]

theorem exec_statusWriteAnswered (hr : t.read = false) (hreg : t.reg = 16) :
    exec .statusWriteAnswered s = .next (satStatusWriteAnswer t.sat (endTrans (prelude s))) := by
  refine (outside_live hl _).trans (congrArg _ ?_)
  simp only [statusWriteAnswered, hf, hr, hreg, and_self, if_true]

theorem exec_pollAnswered (status : Byte) (hc : t.cls = .poll) :
    exec (.pollAnswered status) s = .next (satPollAnswer t.sat status (endTrans (prelude s))) := by
  refine (outside_live hl _).trans (congrArg _ ?_)
  simp only [pollAnswered, hf, hc, if_true]

theorem exec_passThroughAnswered {l : Fin 4} (v : Byte) (ht : t.link = some l) :
    exec (.passThroughAnswered v) s =
      .next (answer l .ok [if t.read then v else byte t.data] (passOutcome t v (endTrans (prelude s)))) := by
  refine (outside_live hl _).trans (congrArg _ ?_)
  simp only [passAnswered, hf, ht]

theorem exec_transactionFailed_own (ht : t.link = none) :
    exec .transactionFailed s = .next (satFailed t.sat (endTrans (prelude s))) := by
  refine (outside_live hl _).trans (congrArg _ ?_)
  simp only [transFailed, hf, ht]

theorem exec_transactionFailed_pass {l : Fin 4} (ht : t.link = some l) :
    exec .transactionFailed s = .next (passAbsent l (satFailed t.sat (endTrans (prelude s)))) := by
  refine (outside_live hl _).trans (congrArg _ ?_)
  simp only [transFailed, hf, ht]

end

/-- What a failure leaves of its satellite, the line idle (R153). -/
theorem satFailed_endTrans (h : i < y.sat.sats.length) : satFailed i (endTrans y) =
    let n := min 3 ((satOf y i).failures + 1)
    if n < 3 ∨ (satOf y i).state = .absent then onSatAt i (fun x => { x with failures := n }) (endTrans y)
    else raise .satellite (onSatAt i (fun x => { x with failures := n, state := .absent }) (endTrans y)) := by
  have value : (satOf (onSatAt i (fun x => { x with failures := min 3 ((satOf y i).failures + 1) }) (endTrans y)) i).state =
      (satOf y i).state := by rw [satOf_onSatAt_same (y := endTrans y) h]; rfl
  have count : satOf (endTrans y) i = satOf y i := rfl
  simp only [satFailed, satSetState, count, value]
  by_cases third : min 3 ((satOf y i).failures + 1) = 3
  · rw [if_pos third]
    by_cases gone : (satOf y i).state = .absent
    · rw [if_pos gone, if_pos (.inr gone)]
    · rw [if_neg gone, if_neg (by simp only [third, gone]; decide)]
      simp only [onSatAt, onSat, modAt_modAt]
  · rw [if_neg third, if_pos (.inl (by omega))]

/-! ## The arbiter (R166) -/

/-- With two classes waiting or more, the run of the highest decides (R166). -/
theorem arbitrate_many {c l : SatClass} (mid : List SatClass) (run : Option (SatClass × Nat)) (hne : c ≠ l) :
    arbitrate run (c :: mid ++ [l]) = match run with
      | some (d, n) => if d = c then (if n = 8 then some (l, none) else some (c, some (c, n + 1))) else some (c, some (c, 1))
      | none => some (c, some (c, 1)) := by
  have last : (c :: mid ++ [l]).getLast? = some l := List.getLast?_concat ..
  simp only [arbitrate, last]
  exact if_neg hne

/-! ## Pass-through requests (R164, R165) -/

section
variable {s : State} {p : Pkt} {kind cls : Nat} {owner : State → State}

/-- A request's row whose owner leaves the satellite's silence to the seat's quiet-absent flag (R165). -/
theorem request_passAbsent (h : Ready p cls s) (hx : heard p kind s = x) (ho : owner x = passAbsent p.link y)
    (hseat : (linkOf y p.link).seat = (linkOf x p.link).seat)
    (hout : (linkOf y p.link).outstanding = (linkOf x p.link).outstanding) :
    request p kind cls owner s =
      .next (if (linkOf x p.link).seat.quiet then filled p kind .noAnswer [] y else filled p kind .ok [0xFF] y) := by
  have split : owner x = if (linkOf x p.link).seat.quiet then answer p.link .noAnswer [] y else answer p.link .ok [0xFF] y := by
    rw [ho, passAbsent, hseat]
    rfl
  by_cases quiet : (linkOf x p.link).seat.quiet = true
  · rw [if_pos quiet] at split ⊢
    exact request_answers h hx split hout
  · rw [if_neg quiet] at split ⊢
    exact request_answers h hx split hout

end

/-- An update that keeps a field of the satellite. -/
theorem satField_onSatAt {β : Type} (get : Sat → β) (f : Sat → Sat) (hf : ∀ a, get (f a) = get a) (i : Nat) (z : State) :
    get (satOf (onSatAt i f z) i) = get (satOf z i) := by
  simp only [satOf, onSatAt, onSat, List.getD_eq_getElem?_getD, getElem?_modAt, if_true]
  cases z.sat.sats[i]? <;> simp [hf]

/-- An entry in the pending set of an IN_STEP satellite makes it BEHIND (R156). -/
theorem satFilled_onSatAt {f : Sat → Sat} (hf : ∀ a, (f a).state = a.state) (i : Nat) (z : State) :
    satFilled i (onSatAt i f z) = if (satOf z i).state = .inStep then
      raise .satellite (onSatAt i (fun x => { x with state := .behind }) (onSatAt i f z)) else onSatAt i f z := by
  unfold satFilled satSetState
  rw [satField_onSatAt (·.state) f hf]
  by_cases hs : (satOf z i).state = .inStep
  · simp [hs]
  · simp [hs]

/-- What SAT_WRITE's register leaves in the desired value, where nothing else drives it, and in the pending set (R164). -/
def writeMarked (free : Bool) (r v : Nat) (x : Sat) : Sat :=
  { x with
    desired := if free then x.desired.set r v else x.desired
    marks := modAt x.marks r fun m => if m = .urgent then .urgent else .routine }

theorem enterMark_routine (m : Mark) : enterMark .routine m = if m = .urgent then .urgent else .routine := by
  simp [enterMark]

theorem writeImage_eq {rec : Record} (hr : y.scene.buffer.record = some rec) (i r v : Nat) :
    writeImage i r v y = edited { rec with images := setImage i r v rec.images } y := by
  simp only [writeImage, takenEdit, onRecord, onBuffer, onScene, edited, hr, Option.map_some]

/-- SAT_WRITE's arrival (R164). -/
theorem satWriteArrival_eq {rec : Record} (hr : y.scene.buffer.record = some rec) (i r v : Nat) :
    satWriteArrival i r v y =
      let z := onSatAt i (writeMarked (!(isDriven y (.sat i r) || isOverridden y (.sat i r))) r v)
        (edited { rec with images := setImage i r v rec.images } y)
      if (satOf y i).state = .inStep then raise .satellite (onSatAt i (fun x => { x with state := .behind }) z) else z := by
  have driven : isDriven (edited { rec with images := setImage i r v rec.images } y) (.sat i r) = isDriven y (.sat i r) := by
    simp only [isDriven, edited, hr, Option.map_some]
  have overridden : isOverridden (edited { rec with images := setImage i r v rec.images } y) (.sat i r) =
      isOverridden y (.sat i r) := by
    simp only [isOverridden, edited, hr, Option.map_some]
    rfl
  have marked : enterMark .routine = fun m => if m = .urgent then .urgent else .routine := funext enterMark_routine
  simp only [satWriteArrival, writeImage_eq hr, driven, overridden]
  cases isDriven y (.sat i r) || isOverridden y (.sat i r)
  · simp only [Bool.false_eq_true, if_false, Bool.not_false, satPush, marked]
    exact satFilled_onSatAt (f := writeMarked true r v) (fun _ => rfl) i _
  · simp only [if_true, Bool.not_true, satEnter, marked]
    exact satFilled_onSatAt (f := writeMarked false r v) (fun _ => rfl) i _

/-- What SAT_WRITE's arrival keeps: whether the satellite is hidden or ABSENT, and the links' requests and seats. -/
theorem satWriteArrival_keeps {rec : Record} (hr : y.scene.buffer.record = some rec) (i r v : Nat) (l : Fin 4) :
    (satOf (satWriteArrival i r v y) i).hidden = (satOf y i).hidden ∧
    ((satOf (satWriteArrival i r v y) i).state = .absent ↔ (satOf y i).state = .absent) ∧
    (linkOf (satWriteArrival i r v y) l).seat = (linkOf y l).seat ∧
    (linkOf (satWriteArrival i r v y) l).outstanding = (linkOf y l).outstanding := by
  rw [satWriteArrival_eq hr]
  set z := onSatAt i (writeMarked (!(isDriven y (.sat i r) || isOverridden y (.sat i r))) r v)
    (edited { rec with images := setImage i r v rec.images } y) with hz
  have hidden : (satOf z i).hidden = (satOf y i).hidden := satField_onSatAt (·.hidden) (writeMarked _ r v) (fun _ => rfl) i _
  have state : (satOf z i).state = (satOf y i).state := satField_onSatAt (·.state) (writeMarked _ r v) (fun _ => rfl) i _
  by_cases hs : (satOf y i).state = .inStep
  · simp only [if_pos hs]
    have behind : (satOf (onSatAt i (fun x => { x with state := .behind }) z) i).state ≠ .absent := by
      rcases satOf_onSatAt_cases i (fun x => { x with state := .behind }) z with he | he <;> simp [he, state, hs]
    refine ⟨(satField_onSatAt (·.hidden) (fun x => { x with state := .behind }) (fun _ => rfl) i z).trans hidden, ?_,
      seat_raise .., outstanding_raise ..⟩
    exact iff_of_false behind (by simp [hs])
  · simp only [if_neg hs]
    exact ⟨hidden, by rw [state], rfl, rfl⟩

/-! ## The refresh (R159) -/

/-- Does the refresh enter a satellite's registers? -/
def refreshes (x : Sat) : Bool := x.state == .inStep && !x.hidden

theorem refreshes_iff (x : Sat) : refreshes x = true ↔ x.state = .inStep ∧ x.hidden = false := by simp [refreshes]

/-- A satellite after the refresh: every register entered, BEHIND. -/
def refreshed (x : Sat) : Sat :=
  if refreshes x then
    { x with state := .behind, marks := x.marks.map fun m => if m = .urgent then .urgent else .routine }
  else x

/-- The state with the satellites `l`, SATELLITE pending where `b`. -/
def satsLeft (l : List Sat) (b : Bool) (y : State) : State :=
  if b then raise .satellite (onSat (fun c => { c with sats := l }) y) else onSat (fun c => { c with sats := l }) y

theorem sats_satsLeft (l : List Sat) (b : Bool) (y : State) :
    (satsLeft l b y).sat = { y.sat with sats := l } := by cases b <;> rfl

theorem raise_onSatAt_satsLeft (l : List Sat) (b : Bool) (i : Nat) (f : Sat → Sat) (y : State) :
    raise .satellite (onSatAt i f (satsLeft l b y)) = satsLeft (modAt l i f) true y := by
  cases b
  · rfl
  · exact raise_raise .satellite (onSatAt i f (onSat (fun c => { c with sats := l }) y))

theorem modAt_append_cons {α : Type} (l t : List α) (a : α) (f : α → α) :
    modAt (l ++ a :: t) l.length f = l ++ f a :: t := by
  simp [modAt]

/-- The refresh of the first `k` satellites. -/
def refreshedTo (k : Nat) (y : State) : State :=
  satsLeft ((y.sat.sats.take k).map refreshed ++ y.sat.sats.drop k) ((y.sat.sats.take k).any refreshes) y

theorem refreshSat_due (hx : refreshes (satOf y i) = true) : refreshSat i y = raise .satellite (onSatAt i refreshed y) := by
  obtain ⟨step, shown⟩ : (satOf y i).state = .inStep ∧ (satOf y i).hidden = false := (refreshes_iff _).1 hx
  have marked : enterMark .routine = fun m => if m = .urgent then .urgent else .routine := funext enterMark_routine
  have there : ∀ a, y.sat.sats[i]? = some a → refreshed a =
      { a with state := .behind, marks := a.marks.map fun m => if m = .urgent then .urgent else .routine } := by
    intro a ha
    have value : satOf y i = a := by rw [satOf, List.getD_eq_getElem?_getD, ha, Option.getD_some]
    rw [refreshed, if_pos (value ▸ hx)]
  rw [refreshSat, if_pos ⟨step, shown⟩, satSetState, satField_onSatAt (·.state) _ (by intro; rfl), if_neg (by simp [step]),
    marked]
  simp only [onSatAt, onSat, modAt_modAt, modAt_congr there]

theorem refreshSat_still (hx : refreshes (satOf y i) = false) : refreshSat i y = y := by
  refine if_neg fun ⟨step, shown⟩ => ?_
  exact Bool.false_ne_true (hx.symm.trans ((refreshes_iff _).2 ⟨step, shown⟩))

theorem refreshSat_refreshedTo (h : i < y.sat.sats.length) : refreshSat i (refreshedTo i y) = refreshedTo (i + 1) y := by
  set a := y.sat.sats[i] with ha
  set front := (y.sat.sats.take i).map refreshed with hfront
  have place : front.length = i := by simp [hfront, Nat.le_of_lt h]
  have now : refreshedTo i y = satsLeft (front ++ a :: y.sat.sats.drop (i + 1)) ((y.sat.sats.take i).any refreshes) y := by
    rw [refreshedTo, List.drop_eq_getElem_cons h]
  have next : refreshedTo (i + 1) y =
      satsLeft (front ++ refreshed a :: y.sat.sats.drop (i + 1)) ((y.sat.sats.take i).any refreshes || refreshes a) y := by
    simp only [refreshedTo, List.take_add_one, List.getElem?_eq_getElem h, Option.toList_some, List.map_append, List.map_cons,
      List.map_nil, List.any_append, List.any_cons, List.any_nil, Bool.or_false, List.append_assoc, List.cons_append,
      List.nil_append, hfront, ha]
  have value : satOf (refreshedTo i y) i = a := by
    rw [now, satOf, sats_satsLeft, List.getD_eq_getElem?_getD, List.getElem?_append_right (Nat.le_of_eq place), place]
    simp
  by_cases due : refreshes a = true
  · rw [refreshSat_due (value ▸ due), next, now, raise_onSatAt_satsLeft, due, Bool.or_true]
    conv_lhs => rw [← place, modAt_append_cons, place]
  · rw [refreshSat_still (by simpa [value] using due), next, now, refreshed, if_neg due, Bool.eq_false_iff.2 due, Bool.or_false]

theorem refreshSat_foldl (k : Nat) (h : k ≤ y.sat.sats.length) :
    (List.range k).foldl (fun x i => refreshSat i x) y = refreshedTo k y := by
  induction k with
  | zero => simp [refreshedTo, satsLeft, onSat]
  | succ k ih => rw [List.range_succ, List.foldl_append, ih (by omega)]; exact refreshSat_refreshedTo h

end Sys2Proof.Frame

end

section
open Sys2Proof Sys2Proof.Machine Sys2Proof.Frame
/-- Settles O44: the run counts the grants of the highest class. -/
theorem arbiterRunsEightThenYields : Obligations.ArbiterRunsEightThenYields := by
  intro h l mid run hne
  refine ⟨rfl, by simp [arbitrate], ?_, ?_, ?_, ?_⟩ <;> rw [arbitrate_many mid run hne]
  · rintro rfl
    simp
  · rintro n hn rfl
    simp [hn]
  · rintro c n hc rfl
    simp [hc]
  · rintro rfl
    rfl

/-- Settles O46: each answer is computed on the satellite's value. -/
theorem answersSettleTheSatellite : Obligations.AnswersSettleTheSatellite := by
  intro s t hl hf ht hi
  have write := exec_writeAnswered hl hf ht
  have status := exec_statusWriteAnswered hl hf
  have poll := exec_pollAnswered hl hf
  generalize prelude s = y at *
  intro _ x fresh ends
  refine ⟨fun hr hreg => ?_, fun hr hreg => ?_, fun st hc => ?_⟩
  · intro m x1
    have row := write hr hreg
    exact ⟨fun hs => ⟨_, row, writeAnswer_restores hi _ _ hs⟩, fun hs hm => ⟨_, row, writeAnswer_inStep hi _ _ hs hm⟩,
      fun hs hm => ⟨_, row, writeAnswer_stays hi _ _ (.inr (.inr ⟨hs, hm⟩))⟩,
      fun hs => ⟨_, row, writeAnswer_stays hi _ _ (hs.imp_right .inl)⟩⟩
  · intro x1
    have row := status hr hreg
    refine ⟨fun hs hm => ?_, fun hs hm => ?_, fun hs => ⟨_, row, statusWriteAnswer_restores hi hs⟩,
      fun hs => ⟨_, row, statusWriteAnswer_stays hi hs⟩⟩
    · have empty : noMarks x = true := by simpa [noMarks] using hm
      have value := statusWriteAnswer_ends hi hs
      rw [if_pos empty] at value
      exact ⟨_, row, value⟩
    · have full : ¬ noMarks x = true := by simpa [noMarks] using hm
      have value := statusWriteAnswer_ends hi hs
      rw [if_neg full] at value
      exact ⟨_, row, value⟩
  · intro latch x1
    have row := poll st hc
    exact ⟨fun hs => ⟨_, row, pollAnswer_restores hi st hs⟩, fun hs => ⟨_, row, pollAnswer_stays hi st hs⟩⟩

/-- Settles O47: the failure is counted, and the reply follows the transaction's link. -/
theorem failuresAndPassThroughsEnd : Obligations.FailuresAndPassThroughsEnd := by
  intro s t hl hf hi
  have own := exec_transactionFailed_own hl hf
  have pass := fun {l} => exec_transactionFailed_pass (l := l) hl hf
  have answered := fun {l} => exec_passThroughAnswered (l := l) hl hf
  generalize prelude s = y at *
  intro _ x n idle failed counted
  have value : satFailed t.sat (endTrans y) = counted := satFailed_endTrans hi
  have seat : ∀ l, (linkOf counted l).seat = (linkOf y l).seat := fun l => by
    by_cases few : n < 3 ∨ x.state = .absent
    · simp only [counted, if_pos few]
      rfl
    · simp only [counted, if_neg few, seat_raise]
      rfl
  refine ⟨fun ht => ?_, fun l ht quiet => ?_, fun l ht quiet => ?_, fun l v ht hr hreg => ?_, fun l v ht hr hreg => ?_,
    fun l v ht hr => ?_⟩
  · rw [own ht, value]
  · rw [pass ht, value, passAbsent, seat, if_pos quiet]
    rfl
  · rw [pass ht, value, passAbsent, seat, if_neg fun q => Bool.false_ne_true (quiet.symm.trans q)]
  · rw [answered v ht, passOutcome, if_pos hr, if_pos hr, if_neg (Nat.ne_of_lt hreg)]
    rfl
  · rw [answered v ht, passOutcome, if_pos hr, if_pos hr, if_pos hreg]
    rfl
  · rw [answered v ht, passOutcome, if_neg (by simp [hr]), if_neg (by simp [hr])]
    rfl

/-- Settles O48: each request is refused, answered at once, or queued. -/
theorem passThroughRequestsQueue : Obligations.PassThroughRequestsQueue := by
  intro p i r v s h
  refine ⟨?_, ?_, ?_⟩
  · generalize hx : heard p 0x28 s = x
    intro y
    refine ⟨fun out => ?_, fun hi hr shown there => ?_, fun hi hr away => ?_⟩
    · exact request_refuses h hx (if_neg (by omega))
    · refine (request_owner h hx).trans (congrArg _ ?_)
      rw [satRead, if_pos ⟨hi, hr⟩, queuePass, if_neg (by simp [y, shown, there])]
      rfl
    · refine request_passAbsent h hx ?_ rfl rfl
      rw [satRead, if_pos ⟨hi, hr⟩, queuePass, if_pos away]
  · generalize hx : heard p 0x27 s = x
    intro y
    refine ⟨fun out => request_refuses h hx (if_neg (by omega)), ?_⟩
    intro rec hi hr hrec free z u
    have arrives : satWriteArrival i r v y = u := satWriteArrival_eq hrec i r v
    have keeps := satWriteArrival_keeps hrec i r v p.link
    rw [arrives] at keeps
    obtain ⟨hidden, absent, seat, outstanding⟩ := keeps
    have owner : satWrite p.link i r v y = queuePass ⟨p.link, i, r, true⟩ u := by
      rw [satWrite, if_pos ⟨hi, by omega⟩, arrives]
    refine ⟨fun shown there => ?_, fun away => ?_⟩
    · refine (request_owner h hx).trans (congrArg _ ?_)
      rw [owner, queuePass, if_neg (by simp [hidden, absent, shown, there])]
      rfl
    · refine request_passAbsent h hx ?_ seat outstanding
      rw [owner, queuePass, if_pos (by rwa [hidden, absent])]
  · generalize hx : heard p 0x29 s = x
    intro y
    refine ⟨fun out => request_refuses h hx (if_neg (by omega)), fun hi none => ?_, fun hi latched => ?_⟩
    · refine request_fills h hx ?_ rfl
      simp only [satClear, if_pos hi, y] at none ⊢
      simp only [none, Option.isSome_none, Bool.false_eq_true, if_false]
    · refine request_fills_raise h hx ?_ rfl
      rw [satClear, if_pos hi, if_pos (Option.isSome_iff_ne_none.2 latched)]
      rfl

/-- Settles O49: each item is refused, changes nothing, or changes what it names. -/
theorem satSetupHoldsRefreshesHides : Obligations.SatSetupHoldsRefreshesHides := by
  intro p i v s h
  generalize hx : heard p 0x2E s = x
  intro y c ok no at_
  refine ⟨fun big => ⟨?_, ?_⟩, ?_, fun out => ?_, fun hv same => ?_, fun hv change => ?_, fun hv same => ?_,
    fun hv change => ?_, fun hi hv same => ?_, fun hi hv was => ?_, fun hi hv was free => ?_, fun hi hv was busy => ?_⟩
  · exact request_refuses h hx (if_pos big)
  · exact request_refuses h hx (if_pos big)
  · exact request_badItem h hx
  · exact request_refuses h hx (if_pos out)
  · refine request_fills h hx ?_ rfl
    rw [satHoldAuto, if_neg (Nat.not_lt.2 hv)]
    simp only [show x.sat.holdAuto = (v == 1) from same, if_true, y]
  · refine request_fills_raise h hx ?_ rfl
    rw [satHoldAuto, if_neg (Nat.not_lt.2 hv)]
    simp only [if_neg (show ¬ x.sat.holdAuto = (v == 1) from change)]
    rfl
  · refine request_fills h hx ?_ rfl
    rw [satRefresh, if_neg (Nat.not_lt.2 hv)]
    simp only [if_pos (show x.sat.refresh = (v == 1) from same), onSat]
    rw [← show x.sat.refresh = (v == 1) from same]
  · refine request_fills_raise h hx ?_ rfl
    rw [satRefresh, if_neg (Nat.not_lt.2 hv)]
    simp only [if_neg (show ¬ x.sat.refresh = (v == 1) from change)]
    rfl
  · refine request_fills h hx ?_ rfl
    rw [satHiding, if_neg (by omega)]
    exact if_pos same
  · refine request_fills_raise h hx ?_ rfl
    subst hv
    rw [satHiding, if_neg (by omega)]
    simp only [show (satOf x i).hidden = true from was]
    rfl
  · refine request_fills_raise h hx ?_ rfl
    subst hv
    rw [satHiding, if_neg (by omega)]
    have hides : satHide i x = _ := satHide_shown was
    simp only [hides, show (satOf x i).hidden = false from was, show satBusy x i = false from free,
      beq_self_eq_true, Bool.false_eq_true, Bool.true_eq_false, if_false]
    rfl
  · refine (request_owner h hx).trans (congrArg _ ?_)
    subst hv
    rw [satHiding, if_neg (by omega)]
    simp only [show (satOf x i).hidden = false from was, show satBusy x i = true from busy, beq_self_eq_true,
      Bool.false_eq_true, Bool.true_eq_false, if_false, if_true]
    rfl

/-- Settles O51: outside hold-auto the timers mark every satellite they concern. -/
theorem satelliteTimersExpire : Obligations.SatelliteTimersExpire := by
  intro s hl
  have poll : exec .pollTimerExpiry s = .next (pollExpiry (prelude s)) := outside_live hl _
  have refresh : exec .refreshTimerExpiry s = .next (refreshExpiry (prelude s)) := outside_live hl _
  generalize prelude s = y at *
  intro _ c
  refine ⟨fun on auto => ?_, fun off => ?_, fun off => ?_, fun on want auto eight => ?_⟩
  · rw [poll, pollExpiry, if_pos (by simp only [show y.sat.pollTimer = true from on, show y.sat.holdAuto = false from auto]; rfl)]
    rfl
  · rw [poll, pollExpiry, if_neg]
    rcases off with off | auto
    · simp only [show y.sat.pollTimer = false from off, Bool.false_and, Bool.false_eq_true, not_false_eq_true]
    · simp only [show y.sat.holdAuto = true from auto, Bool.not_true, Bool.and_false, Bool.false_eq_true, not_false_eq_true]
  · rw [refresh, refreshExpiry, if_neg]
    rcases off with off | off | auto
    · simp only [show y.sat.refTimer = false from off, Bool.false_and, Bool.false_eq_true, not_false_eq_true]
    · simp only [show y.sat.refresh = false from off, Bool.and_false, Bool.false_and, Bool.false_eq_true, not_false_eq_true]
    · simp only [show y.sat.holdAuto = true from auto, Bool.not_true, Bool.and_false, Bool.false_eq_true, not_false_eq_true]
  · have all : y.sat.sats.take 8 = y.sat.sats := List.take_of_length_le (Nat.le_of_eq eight)
    have none : y.sat.sats.drop 8 = [] := List.drop_eq_nil_of_le (Nat.le_of_eq eight)
    refine ⟨refreshedTo 8 y, ?_, ?_, ?_, ?_⟩
    · rw [refresh, refreshExpiry, if_pos, refreshSat_foldl 8 (Nat.le_of_eq (Eq.symm eight))]
      simp only [show y.sat.refTimer = true from on, show y.sat.refresh = true from want,
        show y.sat.holdAuto = false from auto, Bool.not_false, Bool.and_self]
    · rw [refreshedTo, satsLeft]
      split <;> rfl
    · have each : refreshed = fun x => if x.state = .inStep ∧ x.hidden = false then
          { x with state := .behind, marks := x.marks.map fun m => if m = .urgent then .urgent else .routine } else x :=
        funext fun x => by simp only [refreshed, refreshes_iff]
      rw [refreshedTo, sats_satsLeft, all, none, List.append_nil, each]
    · rw [refreshedTo, all]
      by_cases some : ∃ x ∈ c.sats, x.state = .inStep ∧ x.hidden = false
      · rw [if_pos some, satsLeft, if_pos (by simpa only [List.any_eq_true, refreshes_iff] using some)]
        rfl
      · rw [if_neg some, satsLeft, if_neg (by simpa only [List.any_eq_true, refreshes_iff] using some)]
        rfl

end

section
/-! The satellite link's bits, what waits for a grant, and the claim about SAT_GRANT (9.1, 9.6, 12.6). -/

namespace Sys2Proof.Frame

open Sys2Proof Sys2Proof.Machine

variable {x y z : State}

/-! ## Bits, most significant first -/

theorem bitsMsb_succ (w n : Nat) : bitsMsb (w + 1) n = bitsMsb w (n / 2) ++ [n.testBit 0] := by
  simp only [bitsMsb, List.range_succ, List.map_append, List.map_cons, List.map_nil, Nat.add_sub_cancel, Nat.sub_self]
  refine congrArg (· ++ _) (List.map_congr_left fun k hk => ?_)
  have below : w - k = (w - 1 - k) + 1 := by have := List.mem_range.1 hk; omega
  rw [below, Nat.testBit_succ]

theorem bitsValue_concat (l : List Bool) (b : Bool) : bitsValue (l ++ [b]) = 2 * bitsValue l + b.toNat := by
  simp [bitsValue]

/-- The bits of a number spell it. -/
theorem bitsValue_bitsMsb (w n : Nat) : bitsValue (bitsMsb w n) = n % 2 ^ w := by
  induction w generalizing n with
  | zero => simp [bitsMsb, bitsValue, Nat.mod_one]
  | succ w ih =>
    have low : (n.testBit 0).toNat = n % 2 := by
      rw [Nat.testBit_zero]
      rcases Nat.mod_two_eq_zero_or_one n with h | h <;> simp [h]
    rw [bitsMsb_succ, bitsValue_concat, ih, low, pow_succ, Nat.mul_comm (2 ^ w), Nat.mod_mul, Nat.add_comm]

theorem length_bitsMsb (w n : Nat) : (bitsMsb w n).length = w := by simp [bitsMsb]

theorem getElem?_bitsMsb {w k : Nat} (h : k < w) (n : Nat) : (bitsMsb w n)[k]? = some (n.testBit (w - 1 - k)) := by
  simp [bitsMsb, h]

/-! ## Pieces of work carried out one after another -/

/-- A step that either leaves the state or makes less work is done with all work after as many steps as there is work. -/
theorem iterate_settled {f : State → State} {work : State → Nat} (less : ∀ s, f s = s ∨ work (f s) < work s) (n : Nat) (s : State)
    (h : work s ≤ n) : f (f^[n] s) = f^[n] s := by
  induction n generalizing s with
  | zero => exact (less s).resolve_right (by omega)
  | succ n ih =>
    rw [Function.iterate_succ_apply]
    rcases less s with same | fewer
    · have fixed : ∀ k, f^[k] s = s := fun k => Function.iterate_fixed same k
      rw [same, fixed, same]
    · exact ih (f s) (by omega)

/-- Four steps from a state, where the first of them leaves at most three pieces of work. -/
theorem iterate_after_first {f : State → State} {work : State → Nat} (less : ∀ s, f s = s ∨ work (f s) < work s) (s : State)
    (h : work (f s) ≤ 3) : f^[4] (f s) = f^[4] s := by
  rw [Function.iterate_succ_apply' f 3 (f s), iterate_settled less 3 (f s) h]
  rfl

theorem foldl_four (f : State → State) (s : State) : [0, 1, 2, 3].foldl (fun s (_ : Nat) => f s) s = f^[4] s := rfl

theorem answer_link (l : Fin 4) (st : Status) (c : List Byte) (z : State) :
    answer l st c z = { z with link := (answer l st c z).link } := by
  unfold answer answerTagged
  split
  · split <;> rfl
  · rfl

theorem sat_answer (l : Fin 4) (st : Status) (c : List Byte) (z : State) : (answer l st c z).sat = z.sat := by
  rw [answer_link]

theorem startup_answer (l : Fin 4) (st : Status) (c : List Byte) (z : State) : (answer l st c z).startup = z.startup := by
  rw [answer_link]

/-! ## Hides that wait and requests to be removed -/

theorem satHide_sat (i : Nat) (z : State) : (satHide i z).sat.hideWaits = z.sat.hideWaits := by
  unfold satHide
  split <;> rfl

theorem satHide_startup (i : Nat) (z : State) : (satHide i z).startup = z.startup := by
  unfold satHide
  split <;> rfl

theorem deferredHideStep_less (want : Nat → Bool) (s : State) :
    deferredHideStep want s = s ∨ (deferredHideStep want s).sat.hideWaits.length < s.sat.hideWaits.length := by
  unfold deferredHideStep
  cases due : hideDue s want with
  | none => exact .inl rfl
  | some q =>
    refine .inr ?_
    simp only [sat_answer, satHide_sat]
    exact List.length_filter_lt_length_iff_exists.2 ⟨q, List.mem_of_find?_eq_some due, by simp⟩

theorem passAbsent_sat (l : Fin 4) (z : State) : (passAbsent l z).sat = z.sat := by
  unfold passAbsent
  split <;> exact sat_answer ..

theorem passAbsent_startup (l : Fin 4) (z : State) : (passAbsent l z).startup = z.startup := by
  unfold passAbsent
  split <;> exact startup_answer ..

theorem prunePass_less (s : State) : prunePass s = s ∨ (prunePass s).sat.queue.length < s.sat.queue.length := by
  unfold prunePass
  cases hq : s.sat.queue with
  | nil => exact .inl rfl
  | cons q t =>
    simp only
    split
    · refine .inr ?_
      rw [passAbsent_sat]
      simp [onSat]
    · exact .inl rfl

theorem hidesStep_still (h : ∀ q ∈ x.sat.hideWaits, satBusy x q.2 = true) : hidesStep x = x := by
  have still : deferredHideStep (fun _ => true) x = x := hideDue_none fun q hq => by simp [h q hq]
  rw [hidesStep, foldl_four]
  exact Function.iterate_fixed still 4

/-- With no hide due and no request to be removed, the arbiter alone acts. -/
theorem prunes_still (h : ∀ q, x.sat.queue.head? = some q → (satOf x q.sat).hidden = false ∧ (satOf x q.sat).state ≠ .absent) :
    [0, 1, 2, 3].foldl (fun s (_ : Nat) => prunePass s) x = x := by
  have still : prunePass x = x := by
    unfold prunePass
    cases hq : x.sat.queue with
    | nil => rfl
    | cons q t =>
      obtain ⟨shown, there⟩ := h q (by rw [hq, List.head?_cons])
      exact if_neg (by simp [shown, there])
  rw [foldl_four]
  exact Function.iterate_fixed still 4

/-- A hide that is carried out before the grant. -/
theorem satGrantStep_hide (h : x.sat.hideWaits.length ≤ 4) (hz : deferredHideStep (fun _ => true) x = z)
    (less : z.sat.hideWaits.length < x.sat.hideWaits.length) : satGrantStep x = satGrantStep z := by
  subst hz
  have same := iterate_after_first (work := (·.sat.hideWaits.length)) (deferredHideStep_less fun _ => true) x (by omega)
  rw [satGrantStep, satGrantStep, hidesStep, hidesStep, foldl_four, foldl_four, same]

/-- A request removed before the grant. -/
theorem grantStep_prune (hz : prunePass x = z) (h : z.sat.queue.length ≤ 3) : grantStep x = grantStep z := by
  subst hz
  have same := iterate_after_first (work := (·.sat.queue.length)) prunePass_less x h
  rw [grantStep, grantStep, foldl_four, foldl_four, same]

/-! ## What waits (R166, R167) -/

theorem mem_indicesFrom {α : Type} {p : α → Bool} {l : List α} {k j : Nat} :
    j ∈ indicesFrom p k l ↔ ∃ r a, l[r]? = some a ∧ p a = true ∧ j = k + r := by
  induction l generalizing k with
  | nil => simp [indicesFrom]
  | cons b t ih =>
    have members : j ∈ indicesFrom p k (b :: t) ↔ (p b = true ∧ j = k) ∨ j ∈ indicesFrom p (k + 1) t := by
      by_cases hb : p b = true <;> simp [indicesFrom, hb]
    rw [members, ih]
    constructor
    · rintro (⟨hb, rfl⟩ | ⟨r, a, ha, hp, rfl⟩)
      · exact ⟨0, b, rfl, hb, rfl⟩
      · exact ⟨r + 1, a, ha, hp, by omega⟩
    · rintro ⟨_ | r, a, ha, hp, rfl⟩
      · obtain rfl : b = a := by simpa using ha
        exact .inl ⟨hp, rfl⟩
      · exact .inr ⟨r, a, ha, hp, by omega⟩

theorem indicesFrom_pairwise {α : Type} (p : α → Bool) (k : Nat) (l : List α) : (indicesFrom p k l).Pairwise (· < ·) := by
  induction l generalizing k with
  | nil => exact .nil
  | cons b t ih =>
    unfold indicesFrom
    split
    · refine List.pairwise_cons.2 ⟨fun j hj => ?_, ih _⟩
      obtain ⟨r, a, -, -, rfl⟩ := mem_indicesFrom.1 hj
      omega
    · exact ih _

/-- A register of satellite `x` waits in a mark class: it is marked, or it stands for the owed status write. -/
def RegWaits (c : SatCtl) (cls : Mark) (x : Sat) (r : Nat) : Prop :=
  (c.holdAuto = false ∧ x.hidden = false ∧ x.state ≠ .absent) ∧
    (x.marks[r]? = some cls ∨
      cls = .routine ∧ r = 16 ∧ x.owed = true ∧ x.state = .restoring ∧ ∀ m ∈ x.marks, m = .absent)

theorem mem_satKeys {c : SatCtl} {cls : Mark} {i k : Nat} :
    k ∈ satKeys c cls i ↔ ∃ r, k = 17 * i + r ∧ RegWaits c cls (c.sats.getD i Sat.entry) r := by
  set x := c.sats.getD i Sat.entry with hx
  have eligible : satEligible c x = true ↔ c.holdAuto = false ∧ x.hidden = false ∧ x.state ≠ .absent := by
    simp only [satEligible, Bool.and_eq_true, Bool.not_eq_true', bne_iff_ne]
    tauto
  have marked : k ∈ (indicesFrom (· == cls) 0 x.marks).map (i * 17 + ·) ↔ ∃ r, k = 17 * i + r ∧ x.marks[r]? = some cls := by
    simp only [List.mem_map, mem_indicesFrom, beq_iff_eq]
    constructor
    · rintro ⟨_, ⟨r, a, ha, rfl, rfl⟩, rfl⟩
      exact ⟨r, by omega, ha⟩
    · rintro ⟨r, rfl, ha⟩
      exact ⟨r, ⟨r, cls, ha, rfl, by omega⟩, by omega⟩
  have owing : (k ∈ if cls = .routine ∧ x.owed ∧ x.state = .restoring ∧ noMarks x then [i * 17 + 16] else []) ↔
      k = 17 * i + 16 ∧ cls = .routine ∧ x.owed = true ∧ x.state = .restoring ∧ ∀ m ∈ x.marks, m = .absent := by
    have empty : noMarks x = true ↔ ∀ m ∈ x.marks, m = .absent := by simp [noMarks]
    rw [← empty]
    split <;> rename_i h
    · simp only [List.mem_singleton, Nat.mul_comm i, h, and_self, and_true]
    · simp only [List.not_mem_nil, false_iff]
      exact fun hk => h hk.2
  by_cases he : satEligible c x = true
  · have admitted := eligible.1 he
    simp only [satKeys, ← hx, if_pos he, List.mem_append, marked, owing]
    constructor
    · rintro (⟨r, hk, hm⟩ | ⟨hk, h⟩)
      · exact ⟨r, hk, admitted, .inl hm⟩
      · exact ⟨16, hk, admitted, .inr ⟨h.1, rfl, h.2⟩⟩
    · rintro ⟨r, hk, -, hm | ⟨h, rfl, rest⟩⟩
      · exact .inl ⟨r, hk, hm⟩
      · exact .inr ⟨hk, h, rest⟩
  · simp only [satKeys, ← hx, if_neg he, List.not_mem_nil, false_iff]
    rintro ⟨r, -, hw, -⟩
    exact he (eligible.2 hw)

/-- A place without a satellite holds nothing that waits. -/
theorem not_regWaits_entry (c : SatCtl) {cls : Mark} (h : cls ≠ .absent) (r : Nat) : ¬ RegWaits c cls Sat.entry r := by
  rintro ⟨-, marked | ⟨-, -, owed, -⟩⟩
  · exact h (List.eq_of_mem_replicate (List.mem_of_getElem? marked))
  · exact Bool.false_ne_true owed

/-- What waits in a mark class (R166, R167). -/
theorem mem_satWaiting {c : SatCtl} {cls : Mark} (h : cls ≠ .absent) {k : Nat} : k ∈ satWaiting c cls ↔
    ∃ i r x, i < 8 ∧ c.sats[i]? = some x ∧ k = 17 * i + r ∧ RegWaits c cls x r := by
  simp only [satWaiting, List.mem_flatMap, List.mem_range, mem_satKeys]
  constructor
  · rintro ⟨i, hi, r, hk, hw⟩
    cases hx : c.sats[i]? with
    | none => exact absurd hw (by rw [List.getD_eq_getElem?_getD, hx]; exact not_regWaits_entry c h r)
    | some x => exact ⟨i, r, x, hi, hx, hk, by rwa [List.getD_eq_getElem?_getD, hx] at hw⟩
  · rintro ⟨i, r, x, hi, hx, hk, hw⟩
    exact ⟨i, hi, r, hk, by rwa [List.getD_eq_getElem?_getD, hx]⟩

/-- The keys stand in ascending order. -/
theorem satWaiting_pairwise {c : SatCtl} (cls : Mark) (h : ∀ x ∈ c.sats, x.marks.length = 16) :
    (satWaiting c cls).Pairwise (· < ·) := by
  have sixteen : ∀ i, (c.sats.getD i Sat.entry).marks.length = 16 := fun i => by
    rw [List.getD_eq_getElem?_getD]
    cases hx : c.sats[i]? with
    | none => rfl
    | some x => exact h x (List.mem_of_getElem? hx)
  have bounds : ∀ i k, k ∈ satKeys c cls i → 17 * i ≤ k ∧ k < 17 * (i + 1) := by
    intro i k hk
    obtain ⟨r, rfl, -, hr | ⟨-, rfl, -⟩⟩ := mem_satKeys.1 hk
    · have := (List.getElem?_eq_some_iff.1 hr).1
      rw [sixteen] at this
      omega
    · omega
  refine List.pairwise_flatMap.2 ⟨fun i _ => ?_, List.pairwise_lt_range.imp fun {i j} hij a ha b hb => ?_⟩
  · unfold satKeys
    simp only
    split
    · refine List.pairwise_append.2 ⟨List.pairwise_map.2 ((indicesFrom_pairwise _ _ _).imp fun h => by omega), ?_, ?_⟩
      · split <;> simp
      · intro a ha b hb
        obtain ⟨j, hj, rfl⟩ := List.mem_map.1 ha
        obtain ⟨r, m, hr, -, rfl⟩ := mem_indicesFrom.1 hj
        have := (List.getElem?_eq_some_iff.1 hr).1
        rw [sixteen] at this
        split at hb
        · rw [List.mem_singleton.1 hb]
          omega
        · cases hb
    · exact .nil
  · have := bounds i a ha
    have := bounds j b hb
    omega

/-! ## The scan (R167) -/

/-- The first entry of an ascending list after a position is the least one after it. -/
theorem find?_after {l : List Nat} (sorted : l.Pairwise (· < ·)) (after k : Nat) :
    l.find? (fun j => decide (after < j)) = some k ↔ k ∈ l ∧ after < k ∧ ∀ j ∈ l, after < j → k ≤ j := by
  induction l with
  | nil => simp
  | cons b t ih =>
    obtain ⟨least, rest⟩ := List.pairwise_cons.1 sorted
    by_cases hb : after < b
    · rw [List.find?_cons_of_pos (by simpa using hb)]
      constructor
      · rintro ⟨⟩
        refine ⟨List.mem_cons_self, hb, fun j hj _ => ?_⟩
        rcases List.mem_cons.1 hj with rfl | ht
        · exact Nat.le_refl _
        · exact Nat.le_of_lt (least j ht)
      · rintro ⟨hk, -, all⟩
        have first := all b List.mem_cons_self hb
        rcases List.mem_cons.1 hk with rfl | ht
        · rfl
        · exact absurd (least k ht) (by omega)
    · rw [List.find?_cons_of_neg (by simpa using hb), ih rest]
      constructor
      · rintro ⟨hk, hafter, all⟩
        refine ⟨List.mem_cons_of_mem _ hk, hafter, fun j hj hja => ?_⟩
        rcases List.mem_cons.1 hj with rfl | ht
        · exact absurd hja hb
        · exact all j ht hja
      · rintro ⟨hk, hafter, all⟩
        rcases List.mem_cons.1 hk with rfl | ht
        · exact absurd hafter hb
        · exact ⟨ht, hafter, fun j hj => all j (List.mem_cons_of_mem _ hj)⟩

/-- The scan takes the first entry after its position, and wraps to the lowest. -/
theorem scanNext_iff {l : List Nat} (sorted : l.Pairwise (· < ·)) {k : Nat} (hk : k ∈ l) (after : Nat) :
    scanNext after l = some k ↔
      (after < k ∧ ∀ j ∈ l, after < j → k ≤ j) ∨ ((∀ j ∈ l, j ≤ after) ∧ ∀ j ∈ l, k ≤ j) := by
  have found := find?_after sorted after
  unfold scanNext
  cases hf : l.find? fun j => decide (after < j) with
  | some m =>
    obtain ⟨hm, past, least⟩ := (found m).1 hf
    simp only [Option.some.injEq]
    constructor
    · rintro rfl
      exact .inl ⟨past, least⟩
    · rintro (⟨hak, all⟩ | ⟨none, -⟩)
      · exact Nat.le_antisymm (least k hk hak) (all m hm past)
      · exact absurd (none m hm) (by omega)
  | none =>
    have none : ∀ j ∈ l, j ≤ after := fun j hj => by simpa using List.find?_eq_none.1 hf j hj
    simp only
    cases l with
    | nil => cases hk
    | cons b t =>
      obtain ⟨least, -⟩ := List.pairwise_cons.1 sorted
      simp only [List.head?_cons, Option.some.injEq]
      constructor
      · rintro rfl
        refine .inr ⟨none, fun j hj => ?_⟩
        rcases List.mem_cons.1 hj with rfl | ht
        · exact Nat.le_refl _
        · exact Nat.le_of_lt (least j ht)
      · rintro (⟨hak, -⟩ | ⟨-, all⟩)
        · exact absurd (none k hk) (by omega)
        · have := all b List.mem_cons_self
          rcases List.mem_cons.1 hk with rfl | ht
          · rfl
          · exact absurd (least k ht) (by omega)

/-! ## The classes (R166) and the grant -/

theorem mem_satPolls {c : SatCtl} {k : Nat} : k ∈ satPolls c ↔
    k < 8 ∧ c.holdAuto = false ∧ ∃ x, c.sats[k]? = some x ∧ x.pollWaits = true ∧ x.hidden = false := by
  simp only [satPolls, List.mem_filter, List.mem_range, Bool.and_eq_true, Bool.not_eq_true', List.getD_eq_getElem?_getD]
  cases hx : c.sats[k]? with
  | none => simp [Sat.entry]
  | some x => simp; tauto

theorem satPolls_pairwise (c : SatCtl) : (satPolls c).Pairwise (· < ·) := List.pairwise_lt_range.filter _

theorem satClasses_sublist (c : SatCtl) : (satClasses c).Sublist [.urgent, .pass, .routine, .poll] := by
  unfold satClasses
  split <;> split <;> split <;> split <;> decide

theorem mem_satClasses (c : SatCtl) :
    (.urgent ∈ satClasses c ↔ satWaiting c .urgent ≠ []) ∧ (.pass ∈ satClasses c ↔ c.queue ≠ []) ∧
    (.routine ∈ satClasses c ↔ satWaiting c .routine ≠ []) ∧ (.poll ∈ satClasses c ↔ satPolls c ≠ []) := by
  have member : ∀ (p : Prop) [Decidable p] (a b : SatClass), a ∈ (if p then [] else [b]) ↔ a = b ∧ ¬ p := by
    intro p _ a b
    split <;> simp [*]
  simp only [satClasses, List.mem_append, member, reduceCtorEq, false_and, or_false, false_or, true_and, ne_eq, and_self]

/-- The grant of an idle line where nothing is to be removed first. -/
theorem grantStep_idle (h : ∀ q, x.sat.queue.head? = some q → (satOf x q.sat).hidden = false ∧ (satOf x q.sat).state ≠ .absent)
    (idle : x.sat.inFlight = none) {cls : SatClass} {run : Option (SatClass × Nat)}
    (ha : arbitrate x.sat.run (satClasses x.sat) = some (cls, run)) :
    grantStep x = { x with sat := { grantClass cls x.sat with run := run } } := by
  simp only [grantStep, prunes_still h, idle, ha]
  rfl

end Sys2Proof.Frame

section
open Sys2Proof Sys2Proof.Machine Sys2Proof.Frame

/-- Settles O45: the bits, what waits, what is done before the grant, and the grant of each class. -/
theorem satGrantBeginsTheNext : Obligations.SatGrantBeginsTheNext := by
  refine ⟨?_, ?_, ?_, ?_, ?_, ?_, ?_⟩
  · intro t hs hr hd v
    have sat : (bitsMsb 3 t.sat).length = 3 := length_bitsMsb ..
    have reg : (bitsMsb 5 t.reg).length = 5 := length_bitsMsb ..
    refine ⟨?_, rfl, fun k hk => ?_, fun k hk => ?_, fun hw k hk => ?_⟩
    · cases hread : t.read <;> simp [v, sdatFrame, hread, length_bitsMsb]
    · simp only [v, sdatFrame, List.cons_append, List.getElem?_cons_succ, List.append_assoc]
      rw [List.getElem?_append_left (by omega), getElem?_bitsMsb hk]
    · simp only [v, sdatFrame, List.cons_append, List.getElem?_cons_succ, List.append_assoc]
      rw [List.getElem?_append_right (by omega), List.getElem?_append_left (by omega), sat, show k + 3 - 3 = k by omega,
        getElem?_bitsMsb hk]
    · simp only [v, sdatFrame, hw, List.cons_append, List.getElem?_cons_succ, List.append_assoc]
      rw [List.getElem?_append_right (by omega), List.getElem?_append_right (by omega), sat, reg,
        show k + 8 - 3 - 5 = k by omega]
      exact getElem?_bitsMsb hk _
  · intro r rest b
    refine ⟨rfl, rfl, rfl, ?_⟩
    have bits : (List.range 8).map (fun k => b.getLsbD (7 - k)) = bitsMsb 8 b.toNat := by
      rfl
    have eight : (bitsMsb 8 b.toNat).take 8 = bitsMsb 8 b.toNat := List.take_of_length_le (by rw [length_bitsMsb])
    rw [bits, sdatAnswer, if_pos rfl, eight, bitsValue_bitsMsb, Nat.mod_eq_of_lt b.isLt, byte, BitVec.ofNat_toNat,
      BitVec.setWidth_eq]
  · exact fun s => ⟨fun h => by rw [sdatDriven, h]; rfl, fun t h => by rw [sdatDriven, h]; rfl⟩
  · intro c k waits
    refine ⟨?_, ?_, mem_satPolls, fun h => ⟨satWaiting_pairwise _ h, satWaiting_pairwise _ h⟩, satPolls_pairwise c,
      satClasses_sublist c, mem_satClasses c⟩
    · rw [mem_satWaiting (by decide)]
      constructor
      · rintro ⟨i, r, x, hi, hx, hk, ⟨hw, hm | ⟨bad, -⟩⟩⟩
        · exact ⟨i, r, x, ⟨hi, hx, hw⟩, hk, hm⟩
        · cases bad
      · rintro ⟨i, r, x, ⟨hi, hx, hw⟩, hk, hm⟩
        exact ⟨i, r, x, hi, hx, hk, hw, .inl hm⟩
    · rw [mem_satWaiting (by decide)]
      constructor
      · rintro ⟨i, r, x, hi, hx, hk, hw, hm⟩
        exact ⟨i, r, x, ⟨hi, hx, hw⟩, hk, hm.imp_right And.right⟩
      · rintro ⟨i, r, x, ⟨hi, hx, hw⟩, hk, hm⟩
        exact ⟨i, r, x, hi, hx, hk, hw, hm.imp_right (And.intro rfl)⟩
  · exact fun after k l => ⟨rfl, fun sorted hk => scanNext_iff sorted hk after⟩
  · intro s hl c grants
    have row : ∀ x, live x = true → exec .satGrant x = .next (satGrantStep x) := fun x h => inside_live h _
    refine ⟨fun pre l i post hw four once hb hf => ?_, fun q t hb hq three gone => ?_⟩
    · intro done
      have due : hideDue s (fun _ => true) = some (l, i) := by
        rw [hideDue, hw, List.find?_append, List.find?_eq_none.2 fun q hq => by simp [hb q hq]]
        simp [hf]
      have left : c.hideWaits.filter (· != (l, i)) = pre ++ post := by
        have others : ∀ q ∈ pre ++ post, (q != (l, i)) = true := fun q hq => bne_iff_ne.2 fun e => once (e ▸ hq)
        have others' : (pre ++ post).filter (· != (l, i)) = pre ++ post := List.filter_eq_self.2 others
        rw [hw, List.filter_append, List.filter_cons_of_neg (by simp), ← List.filter_append, others']
      have carried : deferredHideStep (fun _ => true) s = answer l .ok [] (satHide i { s with sat := done }) := by
        simp only [deferredHideStep, due]
        rw [onSat, left]
      have fewer : (satHide i { s with sat := done }).sat.hideWaits.length < s.sat.hideWaits.length := by
        rw [satHide_sat]
        show (pre ++ post).length < c.hideWaits.length
        rw [hw]
        simp
      have same : ∀ z, satHide i { s with sat := done } = z → grants (answer l .ok [] z) := by
        rintro z rfl
        show exec .satGrant s = _
        rw [row s hl, row _ (by rw [live, startup_answer, satHide_startup]; exact hl), satGrantStep_hide four carried (by rw [sat_answer]; exact fewer)]
      exact ⟨fun hid => same _ (if_pos hid), fun shown => same _ (satHide_shown (by exact shown))⟩
    · intro rest
      have pruned : prunePass s = passAbsent q.link rest := by
        simp only [prunePass, show s.sat.queue = q :: t from hq]
        exact if_pos gone
      have removed : ∀ z, passAbsent q.link rest = z → grants z := by
        rintro z rfl
        show exec .satGrant s = _
        have waits : ∀ h ∈ (passAbsent q.link rest).sat.hideWaits, satBusy (passAbsent q.link rest) h.2 = true := by
          simp only [satBusy, passAbsent_sat]
          exact hb
        rw [row s hl, row _ (by rw [live, passAbsent_startup]; exact hl), satGrantStep, satGrantStep, hidesStep_still hb,
          hidesStep_still waits, grantStep_prune pruned (by rw [passAbsent_sat]; exact three)]
      exact removed _ rfl
  · intro s hl hides c data go heads
    have row : exec .satGrant s = .next (grantStep s) := by
      rw [show exec .satGrant s = .next (satGrantStep s) from inside_live hl _, satGrantStep, hidesStep_still hides]
    have begins : ∀ {cls run}, c.inFlight = none → arbitrate c.run (satClasses c) = some (cls, run) →
        go { grantClass cls c with run := run } := fun idle ha => by
      show exec .satGrant s = _
      rw [row, grantStep_idle heads idle ha]
    refine ⟨fun busy => ?_, fun nothing => ?_, fun run k idle ha hk => ?_, fun run k idle ha hk => ?_,
      fun run q t idle ha hq => ?_, fun run i idle ha hi => ?_⟩
    · show exec .satGrant s = _
      obtain ⟨t, ht⟩ := Option.ne_none_iff_exists'.1 busy
      rw [row, grantStep, prunes_still heads, show s.sat.inFlight = some t from ht]
    · show exec .satGrant s = _
      rw [row, grantStep, prunes_still heads, show satClasses s.sat = [] from nothing]
      cases s.sat.inFlight <;> rfl
    · have := begins idle ha
      rw [grantClass, hk] at this
      exact this
    · have := begins idle ha
      rw [grantClass, hk] at this
      exact this
    · have := begins idle ha
      rw [grantClass, hq] at this
      exact this
    · have := begins idle ha
      rw [grantClass, hi] at this
      exact this

end

end

section
/-! The order of the checks on a request, and the receiver (10.1, 10.2). -/

namespace Sys2Proof.Frame

open Sys2Proof Sys2Proof.Machine Sys2Proof.ShowClock

variable {x y : State} {l : Fin 4}

/-! ## Updates of one link -/

/-- Two updates that agree on the link do the same. -/
theorem onLinkAt_congr {f g : Link → Link} (h : f (linkOf x l) = g (linkOf x l)) : onLinkAt l f x = onLinkAt l g x := by
  have agree : ∀ a, x.link.links[l.val]? = some a → f a = g a := fun a ha => by
    have value : linkOf x l = a := by rw [linkOf, List.getD_eq_getElem?_getD, ha, Option.getD_some]
    rwa [value] at h
  simp only [onLinkAt, onLink, modAt_congr agree]

theorem onLinkAt_id : onLinkAt l (fun a => a) x = x := by simp [onLinkAt, onLink, modAt_id]

/-! ## The checks of a request (R172) -/

/-- The row of every request but TAP and CONTROL is a dispatch of its kind and class. -/
theorem exec_dispatches {c : Instr} {p : Pkt} {k : Byte} {payload : List Byte} (hp : pktOf c = some p)
    (he : encodeRequest c = some (k, payload)) (tap : k ≠ 0x12) (control : k ≠ 0x13) : ∃ always own owner,
      (∀ s, exec c s = outside (dispatch p k.toNat (requestClass k.toNat) always own owner) s) ∧
      (always = true → k.toNat ≤ 2) ∧ (own = true → 0x17 ≤ k.toNat ∧ k.toNat ≤ 0x1D) := by
  cases c
  all_goals cases hp
  case tap => cases he; exact absurd rfl tap
  case control => cases he; exact absurd rfl control
  all_goals
    cases he
    exact ⟨_, _, _, fun _ => rfl, by decide, by decide⟩

section
variable {p : Pkt} {kind cls : Nat} {always own : Bool} {owner : State → State}
  (hears : (linkOf x p.link).rx.st ≠ .waitHigh)
include hears

/-- A link with a request outstanding gets BUSY (R172). -/
theorem dispatch_busy {o : Outstanding} (ho : (linkOf x p.link).outstanding = some o) :
    dispatch p kind cls always own owner x =
      onLinkAt p.link (fun r => if r.places.any (·.tag == .busy) then { r with rx := rxHunt }
        else { r with rx := rxHunt, places := r.places ++ [⟨.busy, ⟨replyKind kind, [statusCode .busy]⟩⟩] }) x := by
  have hout : (linkOf (onRx p.link (fun _ => rxHunt) x) p.link).outstanding = some o :=
    (linkOf_onLinkAt_keep (fun r => r.outstanding) p.link p.link (fun r => { r with rx := rxHunt }) x (fun _ => rfl)).trans ho
  simp only [dispatch, if_neg hears, hout]
  exact onLinkAt_onLinkAt ..

variable (free : (linkOf x p.link).outstanding = none) (four : x.link.links.length = 4)
include free four

/-- A request that a check refuses is answered on the reply place (R172, R173). -/
theorem dispatch_refuses {st : Status}
    (h : ∀ s1, s1 = onLinkAt p.link (fun r => { r with rx := rxHunt, outstanding := some ⟨kind, false⟩ }) x →
      (if running x then checkedRequest p cls own owner s1
        else if always then (if p.form = .exact then owner s1 else refuse p.link .badArg s1) else refuse p.link .starting s1) =
      refuse p.link st s1) :
    dispatch p kind cls always own owner x = filled p kind st []
      (onLinkAt p.link (fun r => { r with rx := rxHunt, outstanding := some ⟨kind, false⟩ }) x) := by
  rw [dispatch_free rfl kind cls always own owner x hears free, h _ rfl, refuse,
    answer_eq_filled p kind st [] _ (by rw [linkOf_onLinkAt _ _ _ four])]

end

end Sys2Proof.Frame

section
open Sys2Proof Sys2Proof.Machine Sys2Proof.Frame

/-- Settles O5: every row is a dispatch, and the dispatch reads the checks in their order. -/
theorem requestsMeetTheChecksInOrder : Obligations.RequestsMeetTheChecksInOrder := by
  intro c p k payload s hl hp he tap control
  obtain ⟨always, own, owner, row, early, edits⟩ := exec_dispatches hp he tap control
  have run := (row s).trans (outside_live hl _)
  intro n
  have begun : heard p n s = onLinkAt p.link (fun r => { r with rx := rxHunt, outstanding := some ⟨n, false⟩ }) (prelude s) := rfl
  generalize heard p n s = y at *
  generalize prelude s = x at *
  intro _ r four hears
  have seat : ∀ s1, s1 = onLinkAt p.link (fun r => { r with rx := rxHunt, outstanding := some ⟨n, false⟩ }) x →
      (linkOf s1 p.link).seat = r.seat ∧ ∀ cls, classTier s1 cls = classTier x cls := by
    rintro s1 rfl
    exact ⟨linkOf_onLinkAt_keep (·.seat) _ _ _ _ (fun _ => rfl), fun cls => classTier_onLinkAt ..⟩
  refine ⟨fun o ho full => ?_, fun o ho empty => ?_, fun free still early' => ?_, fun free on low => ?_,
    fun free on enough bad => ?_⟩
  · rw [run, dispatch_busy hears ho]
    refine congrArg _ (onLinkAt_congr (if_pos ?_))
    obtain ⟨q, hq, busy⟩ := full
    exact List.any_eq_true.2 ⟨q, hq, beq_iff_eq.2 busy⟩
  · rw [run, dispatch_busy hears ho]
    refine congrArg _ (onLinkAt_congr (if_neg ?_))
    intro full
    obtain ⟨q, hq, busy⟩ := List.any_eq_true.1 full
    exact empty q hq (beq_iff_eq.1 busy)
  · have still' : ¬ running x = true := Bool.eq_false_iff.1 still
    have notAlways : ¬ always = true := fun h => absurd (early h) (by omega)
    rw [run, dispatch_refuses hears free four fun s1 _ => by rw [if_neg still', if_neg notAlways], begun]
  · rw [run, dispatch_refuses (st := .denied) hears free four fun s1 h1 => by
      obtain ⟨hseat, htier⟩ := seat s1 h1
      rw [if_pos on, checkedRequest, hseat, htier, if_pos low], begun]
  · rw [run, dispatch_refuses (st := .badArg) hears free four fun s1 h1 => by
      obtain ⟨hseat, htier⟩ := seat s1 h1
      rw [if_pos on, checkedRequest, hseat, htier, if_neg (Nat.not_lt.2 enough)]
      rcases bad with bad | ⟨bad, other⟩
      · rw [if_pos bad]
      · have notOwn : own = false := Bool.eq_false_iff.2 fun h => by have := edits h; omega
        rw [if_neg (by simp [bad]), if_pos ⟨bad, by simp [notOwn]⟩], begun]

end

end

section
/-! The bytes of requests and the receiver (10.1, 12.1, 12.7): a request's fields read back, a packet's bytes received. -/

namespace Sys2Proof.Frame

open Sys2Proof Sys2Proof.Machine

/-! ## Fields read back (12.7) -/

theorem toNat_byte (n : Nat) : (byte n).toNat = n % 256 := by simp [byte]

theorem toNat_byte_of_lt {n : Nat} (h : n < 256) : (byte n).toNat = n := by rw [toNat_byte, Nat.mod_eq_of_lt h]

theorem toNat_byte_pair {n : Nat} (h : n < 65536) : 256 * (byte (n / 256)).toNat + (byte n).toNat = n := by
  simp only [toNat_byte]
  omega

theorem signed16_toNat_ofInt {x : Int} (h : signed16Ok x = true) : signed16 (BitVec.ofInt 16 x).toNat = x := by
  simp only [signed16Ok, Bool.and_eq_true, decide_eq_true_eq] at h
  rw [signed16, BitVec.ofNat_toNat, BitVec.setWidth_eq, BitVec.toInt_ofInt_eq_self (by decide) (by omega) (by omega)]

theorem toNat_ofInt_lt (w : Nat) (x : Int) : (BitVec.ofInt w x).toNat < 2 ^ w := (BitVec.ofInt w x).isLt

theorem map_toNat_map_byte {l : List Nat} (h : l.all byteOk = true) : (l.map byte).map (·.toNat) = l := by
  rw [List.map_map]
  refine (List.map_congr_left fun a ha => ?_).trans (List.map_id l)
  exact toNat_byte_of_lt (by simpa [byteOk] using List.all_eq_true.1 h a ha)

theorem words16_flatMap_be2 {l : List Nat} (h : l.all wordOk = true) : words16 (l.flatMap be2) = l := by
  induction l with
  | nil => rfl
  | cons a t ih =>
    simp only [List.all_cons, Bool.and_eq_true, wordOk, decide_eq_true_eq] at h
    obtain ⟨ha, ht⟩ := h
    have pair : words16 (be2 a ++ t.flatMap be2) = a :: words16 (t.flatMap be2) := by
      rw [be2, List.cons_append, List.singleton_append, words16, toNat_byte_pair ha]
    rw [List.flatMap_cons, pair, ih ht]

theorem words16_flatMap_be2i {l : List Int} (h : l.all signed16Ok = true) :
    (words16 (l.flatMap be2i)).map signed16 = l := by
  have fields : l.flatMap be2i = (l.map fun x => (BitVec.ofInt 16 x).toNat).flatMap be2 := by
    rw [List.flatMap_map]
    rfl
  have fit : (l.map fun x => (BitVec.ofInt 16 x).toNat).all wordOk = true := by
    simp only [List.all_map, List.all_eq_true, Function.comp, wordOk, decide_eq_true_eq]
    exact fun x _ => toNat_ofInt_lt 16 x
  rw [fields, words16_flatMap_be2 fit, List.map_map]
  exact (List.map_congr_left fun a ha => signed16_toNat_ofInt (List.all_eq_true.1 h a ha)).trans (List.map_id l)

theorem quad_toNat {n : Nat} (h : n < 4294967296) :
    65536 * (256 * (byte (n / 16777216)).toNat + (byte (n / 65536)).toNat) +
      (256 * (byte (n / 256)).toNat + (byte n).toNat) = n := by
  simp only [toNat_byte]
  omega

theorem toInt_ofNat_toNat_ofInt {x : Int} (h : signed32Ok x = true) :
    (BitVec.ofNat 32 (BitVec.ofInt 32 x).toNat).toInt = x := by
  simp only [signed32Ok, Bool.and_eq_true, decide_eq_true_eq] at h
  rw [BitVec.ofNat_toNat, BitVec.setWidth_eq, BitVec.toInt_ofInt_eq_self (by decide) (by omega) (by omega)]

/-- The two bytes of a signed field, and what they spell. -/
theorem be2i_bytes {x : Int} (h : signed16Ok x = true) :
    ∃ a b, be2i x = [a, b] ∧ signed16 (256 * a.toNat + b.toNat) = x :=
  ⟨_, _, rfl, by rw [toNat_byte_pair (toNat_ofInt_lt 16 x), signed16_toNat_ofInt h]⟩

/-- The four bytes of a signed field, and what they spell. -/
theorem be4i_bytes {x : Int} (h : signed32Ok x = true) : ∃ a b c d, be4i x = [a, b, c, d] ∧
    (BitVec.ofNat 32 (65536 * (256 * a.toNat + b.toNat) + (256 * c.toNat + d.toNat))).toInt = x :=
  ⟨_, _, _, _, rfl, by rw [quad_toNat (toNat_ofInt_lt 32 x), toInt_ofNat_toNat_ofInt h]⟩

theorem length_entryField {e : RawEntry} (h : entryOk e = true) : (entryField e).length = 22 := by
  simp only [entryOk, Bool.and_eq_true, beq_iff_eq] at h
  obtain ⟨⟨-, hlen⟩, -⟩ := h
  simp [entryField, targetField, hlen]

theorem rawEntry_entryField {e : RawEntry} (h : entryOk e = true) (a b c : Byte) :
    rawEntry (a :: b :: c :: entryField e) 3 = e := by
  simp only [entryOk, targetOk, byteOk, Bool.and_eq_true, decide_eq_true_eq, beq_iff_eq] at h
  obtain ⟨⟨⟨hs, ⟨hk, ha⟩, hb⟩, hlen⟩, hpts⟩ := h
  have all : (e.points.flatMap be2).take 18 = e.points.flatMap be2 := List.take_of_length_le (by simp [hlen])
  simp [rawEntry, rawTarget, entryField, targetField, u8, toNat_byte_of_lt, hs, hk, ha, hb, all, words16_flatMap_be2 hpts]

theorem chars_map_byte {l : List Nat} (h : l.all byteOk = true) (front : List Byte) {k n : Nat} (hk : front.length = k)
    (hn : l.length = n) : chars (front ++ l.map byte) k n = l := by
  subst hk hn
  rw [chars, List.drop_left, List.take_of_length_le (by simp), map_toNat_map_byte h]

/-- The request that a well-formed command's payload spells is the command (12.2, 12.7). -/
theorem requestOf_encodeRequest {c : Instr} {l : Fin 4} {k : Byte} {payload : List Byte} (hwf : c.wf = true)
    (hp : pktOf c = some ⟨l, .exact⟩) (he : encodeRequest c = some (k, payload)) : requestOf l k payload = c := by
  cases c
  all_goals cases hp
  all_goals cases he
  all_goals conv_lhs => whnf
  all_goals simp only [Instr.wf, Bool.and_eq_true, byteOk, wordOk, targetOk, seatOk, decide_eq_true_eq] at hwf
  case tunerSetString set index note offset =>
    obtain ⟨⟨⟨hset, hindex⟩, hnote⟩, hoffset⟩ := hwf
    obtain ⟨a, b, hbytes, hfield⟩ := be2i_bytes hoffset
    simp [sized, u8, u16, i16, hbytes, toNat_byte_of_lt, hset, hindex, hnote, hfield]
  case sceneEditSetName expected scene name =>
    obtain ⟨⟨⟨he, hs⟩, hlen⟩, hname⟩ := hwf
    have hlen : name.length = 8 := beq_iff_eq.1 hlen
    rw [chars_map_byte (k := 3) hname [byte expected, byte scene, 4] rfl hlen]
    simp [sized, u8, toNat_byte_of_lt, he, hs, hlen]
  case presetEditName expected name =>
    obtain ⟨⟨he, hlen⟩, hname⟩ := hwf
    have hlen : name.length = 16 := beq_iff_eq.1 hlen
    rw [chars_map_byte (k := 2) hname [byte expected, 0] rfl hlen]
    simp [sized, u8, toNat_byte_of_lt, he, hlen]
  case ampDataShaperRun expected pos start points =>
    obtain ⟨⟨⟨⟨⟨he, hp⟩, hs⟩, hone⟩, hmax⟩, hpoints⟩ := hwf
    have half : (points.length * 2) / 2 = points.length := by omega
    simp [u8, toNat_byte_of_lt, he, hp, hs, hone, hmax, words16_flatMap_be2i hpoints, half]
    omega
  case ampDataToneSet expected pos filter knobSet b0 b1 b2 a1 a2 =>
    obtain ⟨⟨⟨⟨he, hp⟩, hf⟩, hk⟩, hall⟩ := hwf
    simp only [List.all_cons, List.all_nil, Bool.and_true, Bool.and_eq_true] at hall
    obtain ⟨h0, h1, h2, h3, h4⟩ := hall
    obtain ⟨_, _, _, _, w0, v0⟩ := be4i_bytes h0
    obtain ⟨_, _, _, _, w1, v1⟩ := be4i_bytes h1
    obtain ⟨_, _, _, _, w2, v2⟩ := be4i_bytes h2
    obtain ⟨_, _, _, _, w3, v3⟩ := be4i_bytes h3
    obtain ⟨_, _, _, _, w4, v4⟩ := be4i_bytes h4
    simp [sized, u8, u16, i32, toNat_byte_of_lt, he, hp, hf, hk, w0, w1, w2, w3, w4, v0, v1, v2, v3, v4]
  case mapEditAdd expected entry =>
    obtain ⟨he, hentry⟩ := hwf
    simp [sized, u8, toNat_byte_of_lt, he, length_entryField hentry, rawEntry_entryField hentry]
  case mapEditReplace expected number entry =>
    obtain ⟨⟨he, hn⟩, hentry⟩ := hwf
    simp [sized, u8, toNat_byte_of_lt, he, hn, length_entryField hentry, rawEntry_entryField hentry]
  case cueInsert bar beat action args =>
    obtain ⟨⟨⟨⟨hbar, hbeat⟩, ha⟩, hlen⟩, hargs⟩ := hwf
    have hlen : args.length = 5 := beq_iff_eq.1 hlen
    rw [chars_map_byte (k := 4) hargs (be2 bar ++ [byte beat, byte action]) rfl hlen]
    simp [sized, u8, u16, be2, toNat_byte_of_lt, toNat_byte_pair, hbar, hbeat, ha, hlen]
  case areaWrite words =>
    obtain ⟨⟨hone, hmax⟩, hwords⟩ := hwf
    simp [hone, hmax, words16_flatMap_be2i hwords]
    omega
  all_goals simp [sized, u8, u16, rawTarget, be2, padTo, targetField, toNat_byte_of_lt, toNat_byte_pair, hwf]

/-! ## A packet's bytes received (R170) -/

variable {l : Fin 4}

theorem receive_cons (b : Byte) (t : List Byte) (r : Rx) (h : (rxByte b r).2 = none) :
    receive l (b :: t) r = receive l t (rxByte b r).1 := by
  simp [receive, h]

/-- The bytes of a body bring the receiver to the check byte. -/
theorem receive_body (n : Nat) (body rest acc : List Byte) (hlen : acc.length + body.length = n) (hne : body ≠ []) :
    receive l (body ++ rest) ⟨.body, n, acc⟩ = receive l rest ⟨.check, n, acc ++ body⟩ := by
  induction body generalizing acc with
  | nil => exact absurd rfl hne
  | cons b t ih =>
    rw [List.cons_append, receive_cons _ _ _ rfl]
    simp only [rxByte, List.length_append, List.length_singleton]
    simp only [List.length_cons] at hlen
    cases t with
    | nil =>
      simp only [List.length_nil] at hlen
      rw [if_pos (by omega), List.nil_append]
    | cons c t =>
      simp only [List.length_cons] at hlen
      rw [if_neg (by omega), ih (acc ++ [b]) (by simp; omega) (by simp), List.append_assoc, List.singleton_append]

/-- A packet received from HUNT: its command, where the bytes sum to 0 (R170). -/
theorem receive_packet (body : List Byte) (check : Byte) (hone : 1 ≤ body.length) (hmax : body.length ≤ 250) :
    receive l (0x5A :: byte body.length :: body ++ [check]) rxHunt = (rxHunt,
      if (byte body.length :: body ++ [check]).foldl (· + ·) 0 = 0 then (commandOf l body).toList else []) := by
  have length : (byte body.length).toNat = body.length := toNat_byte_of_lt (by omega)
  have hne : body ≠ [] := List.length_pos_iff.1 hone
  rw [List.cons_append, List.cons_append, receive_cons _ _ _ rfl, receive_cons _ _ _ rfl]
  simp only [rxByte, rxHunt, if_true, length, hone, hmax, and_self]
  rw [receive_body body.length body [check] [] (by simp) hne]
  simp only [receive, rxByte, rxHunt, List.nil_append, List.append_nil, List.cons_append]
  split <;> rfl

/-- The receiver alone takes bytes as it does with their commands. -/
theorem rxBytes_eq_receive (bs : List Byte) (r : Rx) : rxBytes bs r = (receive l bs r).1 := by
  induction bs generalizing r with
  | nil => rfl
  | cons b t ih => exact ih _

theorem foldl_add_init (l : List Byte) (a : Byte) : l.foldl (· + ·) a = a + l.foldl (· + ·) 0 := by
  induction l generalizing a with
  | nil => simp
  | cons b t ih => rw [List.foldl_cons, List.foldl_cons, ih, ih (0 + b)]; simp [BitVec.add_assoc]

/-- The bytes of a packet on the line yield its command (R170, R195). -/
theorem receive_wireBytes (k : Byte) (payload : List Byte) (h : payload.length ≤ 249) :
    receive l (wireBytes ⟨k, payload⟩) rxHunt = (rxHunt, [requestOf l k payload]) := by
  have packet := receive_packet (l := l) (k :: payload) (checkByte (byte (payload.length + 1) :: k :: payload)) (by simp) (by simp; omega)
  have sum : (byte (k :: payload).length :: (k :: payload) ++ [checkByte (byte (payload.length + 1) :: k :: payload)]).foldl
      (· + ·) 0 = 0 := by
    rw [List.foldl_append]
    simp [checkByte]
  rw [if_pos sum] at packet
  exact packet

/-- A kind byte that names no request (R172). -/
theorem requestOf_unknown {k : Nat} (h : (Instr.unknownKind l k).wf = true) (payload : List Byte) :
    requestOf l (byte k) payload = .unknownKind l k := by
  simp only [Instr.wf, byteOk, Bool.and_eq_true, Bool.not_eq_true', Bool.and_eq_false_iff, decide_eq_true_eq, decide_eq_false_iff_not] at h
  obtain ⟨fits, out⟩ := h
  unfold requestOf
  rw [toNat_byte_of_lt fits]
  split
  case h_57 => rfl
  all_goals omega

/-! ## The ten levels of a byte (R170) -/

theorem levelsByte_byteLevels (b : Byte) : levelsByte (byteLevels b) = some b := by
  have bits : ((byteLevels b).drop 1).take 8 = (bitsMsb 8 b.toNat).reverse := by
    rw [byteLevels, List.drop_succ_cons, List.drop_zero, List.take_left' (by rw [List.length_reverse, length_bitsMsb])]
  rw [levelsByte, if_pos ⟨rfl, rfl⟩, bits, List.reverse_reverse, bitsValue_bitsMsb, Nat.mod_eq_of_lt b.isLt, byte,
    BitVec.ofNat_toNat, BitVec.setWidth_eq]

theorem getElem?_byteLevels (b : Byte) {k : Nat} (h : k < 8) : (byteLevels b)[k + 1]? = some (b.getLsbD k) := by
  have reversed : (bitsMsb 8 b.toNat).reverse[k]? = some (b.toNat.testBit (8 - 1 - (8 - 1 - k))) := by
    rw [List.getElem?_reverse (by rwa [length_bitsMsb]), length_bitsMsb, getElem?_bitsMsb (by omega)]
  rw [byteLevels, List.getElem?_cons_succ, List.getElem?_append_left (by rwa [List.length_reverse, length_bitsMsb]), reversed,
    show 8 - 1 - (8 - 1 - k) = k by omega]
  rfl

end Sys2Proof.Frame

section
open Sys2Proof Sys2Proof.Machine Sys2Proof.Frame

/-- Settles O6: the fields read back, and the receiver accumulates a packet's bytes. -/
theorem packetsDecodeToTheirRequest : Obligations.PacketsDecodeToTheirRequest := by
  refine ⟨fun c p bs hwf hp exact_ hw => ?_, fun l k payload hwf hlen => ?_, fun l body check hone hmax hsum => ?_,
    fun b => ?_, fun n hn => ?_, fun r => ?_⟩
  · obtain ⟨l, form⟩ := p
    cases exact_
    obtain ⟨⟨k, payload⟩, he, rfl⟩ := Option.map_eq_some_iff.1 hw
    rw [receive_wireBytes k payload (Laws.packet_fits c hwf k payload he), requestOf_encodeRequest hwf hp he]
  · rw [receive_wireBytes (byte k) payload hlen, requestOf_unknown hwf]
  · rw [receive_packet body check hone hmax, if_neg hsum]
  · refine ⟨rfl, rfl, rfl, fun k hk => getElem?_byteLevels b hk, levelsByte_byteLevels b, rfl, ?_⟩
    simp [breakLevels, byteLevels]
  · simp [breakLevels, hn]
  · exact ⟨fun h => by rw [lineLevels, h], fun q h => by rw [lineLevels, h]⟩

end

end

section
/-! What discards a packet in progress (10.1). -/

namespace Sys2Proof.Frame

open Sys2Proof Sys2Proof.Machine Sys2Proof.ShowClock

variable {x : State} {l : Fin 4}

/-- A receiver that waits after a break takes no byte (R171). -/
theorem rxBytes_waitHigh {r : Rx} (h : r.st = .waitHigh) (bs : List Byte) : rxBytes bs r = r := by
  induction bs with
  | nil => rfl
  | cons b t ih =>
    have same : (rxByte b r).1 = r := by simp [rxByte, h]
    simp only [rxBytes, List.foldl_cons, same]
    exact ih

/-- An update of the receiver that leaves it in HUNT. -/
theorem onRx_hunt {f : Rx → Rx} (h : f (linkOf x l).rx = rxHunt) :
    onRx l f x = onLinkAt l (fun a => { a with rx := ⟨.hunt, 0, []⟩ }) x :=
  onLinkAt_congr (by simp only [h]; rfl)

/-- An update that leaves the receiver as it was. -/
theorem onRx_same {f : Rx → Rx} (h : f (linkOf x l).rx = (linkOf x l).rx) : onRx l f x = x :=
  (onLinkAt_congr (g := fun a => a) (by simp only [h])).trans onLinkAt_id

end Sys2Proof.Frame

section
open Sys2Proof Sys2Proof.Machine Sys2Proof.Frame

/-- Settles O52: each event updates the receiver to HUNT, or leaves it. -/
theorem receiverDiscardsBadPackets : Obligations.ReceiverDiscardsBadPackets := by
  intro l s hl
  have gap : ∀ a b, exec (.linkGapTimeout l a b) s = .next (onRx l (fun r => rxBytes b (rxGap (rxBytes a r))) (prelude s)) :=
    fun _ _ => outside_live hl _
  have framing : ∀ a, exec (.framingError l a) s = .next (onRx l (fun r => rxDrop (rxBytes a r)) (prelude s)) :=
    fun _ => outside_live hl _
  have check : ∀ a, exec (.checkByteFailure l a) s = .next (onRx l (rxBytes a) (prelude s)) := fun _ => outside_live hl _
  have length : ∀ b, exec (.invalidLengthByte l b) s =
      .next (onRx l (fun r => if r.st = .length then rxBytes [b] r else rxBytes [0x5A, b] r) (prelude s)) :=
    fun _ => outside_live hl _
  have high : exec (.breakLineHigh l) s = .next (onRx l (fun r => if r.st = .waitHigh then rxHunt else r) (prelude s)) :=
    outside_live hl _
  generalize prelude s = x at *
  intro _ r hunt four
  refine ⟨fun h => ?_, fun h => ?_, fun a b h => ?_, fun h => ?_, fun a h => ?_, fun body c hr hone hmax sum => ?_, fun a h => ?_,
    fun b h bad => ?_, fun h => ?_, fun h => ?_⟩
  · refine (gap [] []).trans (congrArg _ (onRx_hunt ?_))
    rcases h with h | h | h <;> simp only [rxBytes, List.foldl_nil, rxGap, show (linkOf x l).rx.st = _ from h]
  · refine (gap [] []).trans (congrArg _ (onRx_same ?_))
    rcases h with h | h <;> simp only [rxBytes, List.foldl_nil, rxGap, show (linkOf x l).rx.st = _ from h]
  · refine (gap a b).trans (congrArg _ (onRx_same ?_))
    have still : rxGap (linkOf x l).rx = (linkOf x l).rx := by simp only [rxGap, show (linkOf x l).rx.st = _ from h]
    rw [rxBytes_waitHigh h, still, rxBytes_waitHigh h]
  · refine (framing []).trans (congrArg _ (onRx_hunt ?_))
    exact if_neg h
  · refine (framing a).trans (congrArg _ (onRx_same ?_))
    rw [rxBytes_waitHigh h]
    exact if_pos h
  · refine (check _).trans (congrArg _ (onRx_hunt ?_))
    rw [show (linkOf x l).rx = rxHunt from hr, rxBytes_eq_receive (l := l), receive_packet body c hone hmax]
  · exact (check a).trans (congrArg _ (onRx_same (rxBytes_waitHigh h a)))
  · refine (length b).trans (congrArg _ (onRx_hunt ?_))
    have out : ¬ (1 ≤ b.toNat ∧ b.toNat ≤ 250) := by omega
    rcases h with h | h
    · rw [if_pos h]
      simp only [rxBytes, List.foldl_cons, List.foldl_nil, rxByte, show (linkOf x l).rx.st = _ from h, if_neg out]
    · rw [if_neg (by rw [show (linkOf x l).rx.st = _ from h]; decide)]
      simp only [rxBytes, List.foldl_cons, List.foldl_nil, rxByte, show (linkOf x l).rx.st = _ from h, if_true, if_neg out]
  · exact high.trans (congrArg _ (onRx_hunt (if_pos h)))
  · exact high.trans (congrArg _ (onRx_same (if_neg h)))

end

end

section
/-! Entering start-up: supply, RESET_N and RESTART (11.2, 10.5). -/

namespace Sys2Proof.Frame

open Sys2Proof Sys2Proof.Machine

variable {s : State}

/-- The entry values with the nonvolatile array, the store's operation, supply and RESET_N as given (R189). -/
def entryState (lib : List LibPlace) (im : List ImageCopy) (su : StoredSetup) (op : Option StoreOp) (powered held : Bool)
    (s : State) : State :=
  { State.reset with
    pending := s.pending
    startup := ⟨.booting, false, none, [], powered, held, false⟩
    area := { State.reset.area with dram := s.area.dram }
    store := { State.reset.store with library := lib, images := im, setup := su, op := op }
    freeCount := s.freeCount }

theorem startupEntry_eq (c : Store) (op : Option StoreOp) (powered held : Bool) (s : State) :
    startupEntry c op powered held s = entryState c.library c.images c.setup op powered held s := rfl

end Sys2Proof.Frame

section
open Sys2Proof Sys2Proof.Machine Sys2Proof.Frame

/-- Settles O12: the entry values read the nonvolatile array alone, which the cut write leaves as its kind says. -/
theorem supplyAndResetEnterStartup : Obligations.SupplyAndResetEnterStartup := by
  intro s entered lost c
  have cut : ∀ lib im su, (interruptWrite s.store).library = lib → (interruptWrite s.store).images = im →
      (interruptWrite s.store).setup = su → lost lib im su := by
    rintro lib im su rfl rfl rfl
    refine ⟨fun high => ?_, fun low => ?_, ?_, fun n long on => ?_⟩
    · change execPowerOn s = _
      simp only [execPowerOn, high, startupEntry_eq, Bool.false_eq_true, if_false]
      rfl
    · change execPowerOn s = _
      simp only [execPowerOn, low, startupEntry_eq, if_true]
      rfl
    · rfl
    · change execResetAssert n s = _
      simp only [execResetAssert, on, if_neg (Nat.not_lt.2 long), startupEntry_eq, if_true]
      rfl
  have wrote : ∀ op, s.store.op = op → lost (interruptWrite { c with op := op }).library (interruptWrite { c with op := op }).images
      (interruptWrite { c with op := op }).setup := by
    rintro op rfl
    exact cut _ _ _ rfl rfl rfl
  refine ⟨fun l n r q h => wrote _ h, fun l n h => wrote _ h, fun l k a t w h => wrote _ h, fun l v h => wrote _ h,
    fun who n h => wrote _ h, fun w h => wrote _ h, fun h => wrote _ h, fun n short => congrArg _ (if_pos short),
    fun n long off => ?_, fun on low => ?_, fun off low => ?_, fun high => ?_⟩
  · change Host.Outcome.next (if n < 10 then _ else if s.startup.powered then _ else _) = _
    rw [if_neg (Nat.not_lt.2 long), if_neg (by simp [off])]
    rfl
  · change Host.Outcome.next (if s.startup.resetHeld then onStartup _ (if s.startup.powered then _ else _) else _) = _
    rw [if_pos low, if_pos on]
    rfl
  · change Host.Outcome.next (if s.startup.resetHeld then onStartup _ (if s.startup.powered then _ else _) else _) = _
    rw [if_pos low, if_neg (by simp [off])]
    rfl
  · change Host.Outcome.next (if s.startup.resetHeld then _ else _) = _
    rw [if_neg (by simp [high])]

/-- Settles O13: the reply's end makes the entry due, and the entry keeps the write. -/
theorem restartFollowsItsReply : Obligations.RestartFollowsItsReply := by
  refine ⟨fun p s h => ?_, fun l q s hl ht tag => ?_, fun s hl => ?_⟩
  · have out := outstanding_heard h 0x35
    refine (request_ready h 0x35 _).trans ?_
    generalize heard p 0x35 s = y at *
    simp only [answerTagged, out, Bool.false_eq_true, if_false]
    rfl
  · refine (outside_live hl _).trans ?_
    generalize prelude s = y at *
    simp only [txEnd, ht, tag, if_true]
    rfl
  · intro entered
    have entry : exec .restartEntry s = .next (restartStep s) := inside_live hl _
    have due : s.startup.restartDue = true → ∀ op, s.store.op = op →
        entered (match keepWrite op with | some w => w | none => .startRead .setup) := by
      rintro due op rfl
      show exec .restartEntry s = _
      rw [entry, restartStep, if_pos due]
      cases keepWrite s.store.op <;> rfl
    refine ⟨fun off => ?_, fun on => ⟨fun l n r q h => due on _ h, fun l n h => due on _ h, fun l k a t w h => due on _ h,
      fun l v h => due on _ h, fun who n h => due on _ h, fun w h => due on _ h, fun h => due on _ h⟩⟩
    rw [entry, restartStep, if_neg (by simp [off])]

end

end

section
/-! The ramp law (2.7). -/

namespace Sys2Proof.Frame

open Sys2Proof Sys2Proof.Machine

theorem rampStep_moves {r : Ramp} (h : 0 < r.n) : rampStep r = ⟨r.cur + (r.target - r.cur).tdiv r.n, r.target, r.n - 1⟩ :=
  if_neg (Nat.ne_of_gt h)

/-- The ramp lands with its last step. -/
theorem rampStep_lands (n : Nat) (r : Ramp) (h : r.n = n + 1) : rampStep^[n + 1] r = .rest r.target := by
  induction n generalizing r with
  | zero => exact rampStep_last r h
  | succ n ih =>
    rw [Function.iterate_succ_apply, ih (rampStep r) (by rw [rampStep_n, h]; rfl), rampStep_target]

/-- The truncated quotient lies between 0 and the distance. -/
theorem tdiv_within {d : Int} (h : 0 ≤ d) (n : Nat) : 0 ≤ d.tdiv n ∧ d.tdiv n ≤ d :=
  ⟨Int.tdiv_nonneg h (Int.natCast_nonneg n), Int.tdiv_le_self _ h⟩

/-- A step goes toward the target and not past it. -/
theorem rampStep_between (r : Ramp) :
    (r.cur ≤ r.target → r.cur ≤ (rampStep r).cur ∧ (rampStep r).cur ≤ r.target) ∧
    (r.target ≤ r.cur → r.target ≤ (rampStep r).cur ∧ (rampStep r).cur ≤ r.cur) := by
  by_cases h : r.n = 0
  · rw [rampStep_rest r h]
    omega
  · rw [rampStep_moves (Nat.pos_of_ne_zero h)]
    refine ⟨fun up => ?_, fun down => ?_⟩
    · have := tdiv_within (d := r.target - r.cur) (by omega) r.n
      simp only
      omega
    · have := tdiv_within (d := r.cur - r.target) (by omega) r.n
      have mirrored : (r.target - r.cur).tdiv r.n = -(r.cur - r.target).tdiv r.n := by rw [← Int.neg_tdiv, Int.neg_sub]
      simp only [mirrored]
      omega

theorem rampStep_iterate_target (k : Nat) (r : Ramp) : (rampStep^[k] r).target = r.target := by
  induction k with
  | zero => rfl
  | succ k ih => rw [Function.iterate_succ_apply', rampStep_target, ih]

end Sys2Proof.Frame

section
open Sys2Proof Sys2Proof.Machine Sys2Proof.Frame

/-- Settles O17, by induction on the count. -/
theorem rampsLandOnTheirTarget : Obligations.RampsLandOnTheirTarget := by
  refine ⟨rampStep_rest, fun r h => rampStep_moves h, fun r h => ?_, fun r k => ?_, fun r t n => ?_, by decide, by decide⟩
  · have lands := rampStep_lands (r.n - 1) r (by omega)
    rwa [Nat.sub_add_cancel h] at lands
  · have step := rampStep_between (rampStep^[k] r)
    rwa [rampStep_iterate_target, ← Function.iterate_succ_apply' rampStep k r] at step
  · by_cases h : n = 0
    · simp [rampTo, h]
    · rw [rampTo, if_neg h, Nat.max_eq_right (Nat.pos_of_ne_zero h)]

end

end

section
/-! Image uploads (3.3 to 3.5). -/

namespace Sys2Proof.Frame

open Sys2Proof Sys2Proof.Machine

variable {x y : State} {l : Fin 4}

/-! ## The first element of a kind -/

theorem firstIdx_eq_none {α : Type} {p : α → Bool} {l : List α} : firstIdx p l = none ↔ ∀ a ∈ l, p a = false := by
  induction l with
  | nil => simp [firstIdx]
  | cons b t ih => by_cases hb : p b = true <;> simp [firstIdx, hb, ih]

theorem firstIdx_eq_some {α : Type} {p : α → Bool} {l : List α} {i : Nat} : firstIdx p l = some i ↔
    (∃ a, l[i]? = some a ∧ p a = true) ∧ ∀ j, j < i → ∀ a, l[j]? = some a → p a = false := by
  induction l generalizing i with
  | nil => simp [firstIdx]
  | cons b t ih =>
    by_cases hb : p b = true
    · simp only [firstIdx, hb, if_true, Option.some.injEq]
      constructor
      · rintro rfl
        exact ⟨⟨b, rfl, hb⟩, fun j hj => absurd hj (Nat.not_lt_zero j)⟩
      · rintro ⟨-, before⟩
        by_contra hi
        exact Bool.false_ne_true ((before 0 (Nat.pos_of_ne_zero (Ne.symm hi)) b rfl).symm.trans hb)
    · simp only [firstIdx, hb, Bool.false_eq_true, if_false, Option.map_eq_some_iff]
      constructor
      · rintro ⟨j, hj, rfl⟩
        obtain ⟨found, before⟩ := ih.1 hj
        refine ⟨found, fun k hk a ha => ?_⟩
        cases k with
        | zero => simp only [List.getElem?_cons_zero, Option.some.injEq] at ha; subst ha; simpa using hb
        | succ k => exact before k (by omega) a ha
      · rintro ⟨⟨a, ha, hp⟩, before⟩
        cases i with
        | zero => simp only [List.getElem?_cons_zero, Option.some.injEq] at ha; subst ha; exact absurd hp hb
        | succ i => exact ⟨i, ih.2 ⟨⟨a, ha, hp⟩, fun j hj => before (j + 1) (by omega)⟩, rfl⟩

theorem isFree_iff (a : Area) : isFree a = true ↔ a = .free := by cases a <;> simp [isFree]

/-- The lowest FREE area. -/
theorem firstIdx_isFree {m : List Area} {a : Nat} (h : m[a]? = some .free) (least : ∀ b, b < a → m[b]? ≠ some .free) :
    firstIdx isFree m = some a := by
  refine firstIdx_eq_some.2 ⟨⟨_, h, rfl⟩, fun j hj x hx => ?_⟩
  rw [Bool.eq_false_iff]
  exact fun hfree => least j hj (hx.trans (congrArg _ ((isFree_iff x).1 hfree)))

theorem firstIdx_isFree_none {m : List Area} (h : ∀ x ∈ m, x ≠ .free) : firstIdx isFree m = none :=
  firstIdx_eq_none.2 fun x hx => Bool.eq_false_iff.2 fun hfree => h x hx ((isFree_iff x).1 hfree)

/-! ## The owner's rows -/

theorem areaJoin_eq {taps : Nat} (h : taps = 256 ∨ taps = 512 ∨ taps = 1024) (hu : uploadArea y.area l = none)
    (hr : y.sw.reservation = false) : areaJoin l taps y =
      match firstIdx isFree y.area.areas with
      | some a => answer l .ok (byte a :: be2 (2 * taps)) { y with area := { y.area with
          areas := y.area.areas.set a (.loading l taps (2 * taps) false true)
          uploads := modAt y.area.uploads l.val fun u => { u with area := some a } } }
      | none => refuse l .noArea y := by
  rw [areaJoin, if_neg (by omega), if_neg (by simp [hu]), if_neg (by simp [hr])]
  rfl

theorem areaWrite_eq {ws : List Int} {a taps rem : Nat} {k : Fin 4} {t : Bool} (hne : ws ≠ []) (hlen : ws.length ≤ 120)
    (hu : uploadArea y.area l = some a) (ha : y.area.areas[a]? = some (.loading k taps rem false t)) :
    areaWrite l ws y = answer l (okOr (decide (min ws.length rem < ws.length)))
      (byte (min ws.length rem) :: be2 (rem - min ws.length rem)) { y with area := { y.area with
        dram := dramWriteAll y.area.dram (a * 262144 + (taps * 2 - rem))
          ((ws.take (min ws.length rem)).map fun x => BitVec.ofInt 32 (x * 65536))
        areas := y.area.areas.set a (.loading k taps (rem - min ws.length rem) false true) } } := by
  rw [areaWrite, if_neg (by simp [hne, hlen])]
  simp only [hu, ha]
  rfl

theorem endUpload_eq {m : AreaMan} {a : Nat} (hu : uploadArea m l = some a) (e : LastEnd) :
    endUpload l e m = { m with areas := m.areas.set a .free, uploads := m.uploads.set l.val ⟨none, e⟩ } := by
  simp only [endUpload, hu]
  rfl

theorem areaAddr_zero (a : Nat) : areaAddr a 0 = a * 262144 := by rw [areaAddr, Nat.add_zero, Config.areaWords]

theorem lapse_idle (hu : uploadArea y.area l = none) : lapse l y = y := by rw [lapse, hu]

/-- An upload that is saving, or whose timer does not run, does not lapse (R53). -/
theorem lapse_still {a taps rem : Nat} {k : Fin 4} {b t : Bool} (hu : uploadArea y.area l = some a)
    (ha : y.area.areas[a]? = some (.loading k taps rem b t)) (off : b = true ∨ t = false) : lapse l y = y := by
  rw [lapse, hu]
  simp only [ha]
  rcases off with rfl | rfl
  · rfl
  · cases b <;> rfl

theorem lapse_ends {a taps rem : Nat} {k : Fin 4} (hu : uploadArea y.area l = some a)
    (ha : y.area.areas[a]? = some (.loading k taps rem false true)) : lapse l y =
      raiseOn .area l { y with area := { y.area with
        areas := y.area.areas.set a .free, uploads := y.area.uploads.set l.val ⟨none, .lapsed⟩ } } := by
  rw [lapse, endUpload_eq hu, hu]
  simp only [ha]

end Sys2Proof.Frame

section
open Sys2Proof Sys2Proof.Machine Sys2Proof.Frame

/-- Settles O24: each row refuses in its order, or updates the link's area. -/
theorem uploadsRunTheirCourse : Obligations.UploadsRunTheirCourse := by
  refine ⟨?_, ?_⟩
  · intro p s h l upload
    refine ⟨fun taps => ?_, fun ws => ?_, ?_, fun slot => ?_⟩
    · intro y no
      have hy : heard p 0x2F s = y := rfl
      clear_value y
      have free : upload y = none → ¬ (uploadArea y.area p.link).isSome = true := fun idle => by
        rw [show uploadArea y.area p.link = none from idle]
        decide
      refine ⟨fun h1 h2 h3 => request_refuses h hy (if_pos ⟨h1, h2, h3⟩), fun size => ⟨fun held => ?_, fun idle res => ?_,
        fun idle res full => ?_, fun a idle res room least => ?_⟩⟩
      · refine request_refuses h hy ?_
        rw [areaJoin, if_neg (by omega)]
        exact if_pos (Option.isSome_iff_ne_none.2 held)
      · refine request_refuses h hy ?_
        rw [areaJoin, if_neg (by omega), if_neg (free idle), if_pos res]
      · refine request_refuses h hy ?_
        rw [areaJoin_eq size idle res, firstIdx_isFree_none full]
      · refine request_fills h hy ?_ rfl
        rw [areaJoin_eq size idle res, firstIdx_isFree room least]
    · intro y no
      have hy : heard p 0x30 s = y := rfl
      clear_value y
      refine ⟨fun size => request_refuses h hy (if_pos size), fun idle => ?_, fun a k taps rem t held saving => ?_, ?_⟩
      · refine request_refuses h hy ?_
        simp only [areaWrite, show uploadArea y.area p.link = none from idle, ite_self]
      · refine request_refuses h hy ?_
        simp only [areaWrite, show uploadArea y.area p.link = some a from held, saving, ite_self]
      · intro a k taps rem t hne hlen held loading n
        exact request_fills h hy (areaWrite_eq hne hlen held loading) rfl
    · intro y no
      have hy : heard p 0x31 s = y := rfl
      clear_value y
      refine ⟨fun idle => ?_, fun a k taps rem t held saving => ?_, fun a k taps rem t held loading => ?_⟩
      · refine request_refuses h hy ?_
        simp only [areaUnjoin, show uploadArea y.area p.link = none from idle]
      · refine request_refuses h hy ?_
        simp only [areaUnjoin, show uploadArea y.area p.link = some a from held, saving]
      · refine request_fills h hy ?_ rfl
        simp only [areaUnjoin, show uploadArea y.area p.link = some a from held, loading,
          endUpload_eq (show uploadArea y.area p.link = some a from held)]
        rfl
    · intro y no
      have hy : heard p 0x32 s = y := rfl
      clear_value y
      refine ⟨fun big => request_refuses h hy (if_pos big), fun idle => ?_, fun a k taps rem b t held loading bad => ?_,
        fun a k taps t hslot held loading => ⟨fun busy => ?_, fun idle => ?_⟩⟩
      · refine request_refuses h hy ?_
        simp only [imageSave, show uploadArea y.area p.link = none from idle, ite_self]
      · refine request_refuses h hy ?_
        cases b with
        | true => simp only [imageSave, show uploadArea y.area p.link = some a from held, loading, ite_self]
        | false =>
          have left : rem ≠ 0 := bad.resolve_left Bool.false_ne_true
          simp only [imageSave, show uploadArea y.area p.link = some a from held, loading, if_pos left, ite_self]
      · refine request_refuses h hy ?_
        simp only [imageSave, if_neg (Nat.not_le.2 hslot), show uploadArea y.area p.link = some a from held, loading, busy,
          ne_eq, not_true, if_false, if_true]
      · refine (request_owner h hy).trans (congrArg _ ?_)
        simp only [imageSave, if_neg (Nat.not_le.2 hslot), show uploadArea y.area p.link = some a from held, loading, idle,
          ne_eq, not_true, if_false, Bool.false_eq_true, areaAddr_zero]
        rfl
  · intro l s hl
    have row : exec (.lapseTimerExpiry l) s = .next (lapse l (prelude s)) := outside_live hl _
    generalize prelude s = y at *
    intro _ upload
    refine ⟨fun idle => ?_, fun a k taps rem b t held loading off => ?_, fun a k taps rem held loading => ?_⟩
    · rw [row, lapse_idle idle]
    · rw [row, lapse_still held loading off]
    · rw [row, lapse_ends held loading]

end

end

section
/-! The Preset Store: reads, writes and their completions (5.2, 11.1). -/

namespace Sys2Proof.Frame

open Sys2Proof Sys2Proof.Machine

variable {x y : State} {l : Fin 4}

/-! ## Reads -/

theorem chunkOf_within {bytes : List Byte} {k : Nat} (h : 200 * k < bytes.length) :
    chunkOf bytes k = some ((bytes.drop (200 * k)).take 200) := if_pos h

theorem chunkOf_beyond {bytes : List Byte} {k : Nat} (h : bytes.length ≤ 200 * k) : chunkOf bytes k = none :=
  if_neg (Nat.not_lt.2 h)

theorem readAnswer_empty {n chunk : Nat} (h : readPlace (placeOf y n) = none) : readAnswer l n chunk y = refuse l .empty y := by
  simp only [readAnswer, h]

theorem readAnswer_bad {n chunk : Nat} (h : readPlace (placeOf y n) = some none) :
    readAnswer l n chunk y = refuse l .badRecord y := by
  simp only [readAnswer, h]

theorem readAnswer_within {n chunk : Nat} {r : Record} (h : readPlace (placeOf y n) = some (some r))
    (hc : 200 * chunk < (recordBytes r).length) : readAnswer l n chunk y = answer l .ok
      (byte n :: be2 (recordBytes r).length ++ word4 (placeOf y n).check ++
        byte chunk :: ((recordBytes r).drop (200 * chunk)).take 200) y := by
  simp only [readAnswer, h, chunkOf_within hc]

theorem readAnswer_beyond {n chunk : Nat} {r : Record} (h : readPlace (placeOf y n) = some (some r))
    (hc : (recordBytes r).length ≤ 200 * chunk) :
    readAnswer l n chunk y = answer l .badArg (be2 (recordBytes r).length) y := by
  simp only [readAnswer, h, chunkOf_beyond hc]

/-! ### The completion of a read -/

/-- What PRESET_READ_COMPLETION does. -/
def readCompletion (x : State) : State :=
  let idle := onStore (fun c => { c with op := none }) x
  match x.store.op with
  | some (.presetRead (.switch dropped) n) => if dropped then idle else loadRead n idle
  | some (.presetRead (.link l chunk) n) => readAnswer l n chunk idle
  | _ => x

theorem exec_presetReadCompletion {s : State} (hl : live s = true) :
    exec .presetReadCompletion s = .next (readCompletion (prelude s)) := outside_live hl readCompletion

theorem readCompletion_link {n chunk : Nat} (h : y.store.op = some (.presetRead (.link l chunk) n)) :
    readCompletion y = readAnswer l n chunk { y with store := { y.store with op := none } } := by
  simp only [readCompletion, h]
  rfl

theorem readCompletion_dropped {n : Nat} (h : y.store.op = some (.presetRead (.switch true) n)) :
    readCompletion y = { y with store := { y.store with op := none } } := by
  simp only [readCompletion, h]
  rfl

theorem readCompletion_switch {n : Nat} (h : y.store.op = some (.presetRead (.switch false) n)) :
    readCompletion y = loadRead n { y with store := { y.store with op := none } } := by
  simp only [readCompletion, h]
  rfl

theorem readCompletion_none (h : ∀ who n, y.store.op ≠ some (.presetRead who n)) : readCompletion y = y := by
  unfold readCompletion
  split
  · rename_i hop
    exact absurd hop (h _ _)
  · rename_i hop
    exact absurd hop (h _ _)
  · rfl

theorem bufferSource_buffer {r : Record} (h : y.scene.buffer.record = some r) :
    bufferSource 255 y = some (r, y.scene.buffer.seq, y.scene.buffer.preset) := by simp [bufferSource, h]

theorem bufferSource_empty (h : y.scene.buffer.record = none) : bufferSource 255 y = none := by simp [bufferSource, h]

theorem bufferSource_stash {src : Nat} {e : StashEntry} (hs : src ≠ 255) (h : y.scene.stash[src]? = some e) :
    bufferSource src y = some (e.record, e.seq, e.preset) := by simp [bufferSource, hs, h]

theorem bufferSource_beyond {src : Nat} (hs : src ≠ 255) (h : y.scene.stash.length ≤ src) : bufferSource src y = none := by
  simp [bufferSource, hs, h]

section
variable {src chunk : Nat}

theorem readBuffer_none (h : bufferSource src y = none) : readBuffer l src chunk y = refuse l .badArg y := by
  rw [readBuffer, h]

theorem readBuffer_within {r : Record} {seq : Word32} {n : Option Nat} (h : bufferSource src y = some (r, seq, n))
    (hc : 200 * chunk < (recordBytes r).length) : readBuffer l src chunk y = answer l .ok (word4 seq ++ optByte n ::
      be2 (recordBytes r).length ++ byte chunk :: ((recordBytes r).drop (200 * chunk)).take 200) y := by
  simp only [readBuffer, h, chunkOf_within hc]

theorem readBuffer_beyond {r : Record} {seq : Word32} {n : Option Nat} (h : bufferSource src y = some (r, seq, n))
    (hc : (recordBytes r).length ≤ 200 * chunk) : readBuffer l src chunk y = refuse l .badArg y := by
  simp only [readBuffer, h, chunkOf_beyond hc]

end

/-! ## Writes -/

theorem storePreset_none {n src : Nat} (h : bufferSource src y = none) : storePreset l n src y = refuse l .badArg y := by
  simp only [storePreset, h, ite_self]

theorem storePreset_busy {n src : Nat} {v : Record × Word32 × Option Nat} (hn : n < 128) (h : bufferSource src y = some v)
    (hb : storeBusy y = true) : storePreset l n src y = refuse l .storeBusy y := by
  simp only [storePreset, if_neg (Nat.not_le.2 hn), h, hb, if_true]

theorem storePreset_begins {n src : Nat} {r : Record} {seq : Word32} {m : Option Nat} (hn : n < 128)
    (h : bufferSource src y = some (r, seq, m)) (hb : storeBusy y = false) :
    storePreset l n src y = { y with store := { y.store with op := some (.presetStore (some l) n r seq) } } := by
  simp only [storePreset, if_neg (Nat.not_le.2 hn), h, hb, Bool.false_eq_true, if_false]
  rfl

end Sys2Proof.Frame

section
open Sys2Proof Sys2Proof.Machine Sys2Proof.Frame

/-- Settles O25: what a read begins, what its completion answers, and what the buffer answers at once. -/
theorem readsAreServed : Obligations.ReadsAreServed := by
  refine ⟨fun s hl => ?_, fun p n chunk s h => ?_, fun l n chunk s hl => ?_, fun s hl => ?_, fun p src chunk s h => ?_⟩
  · have row : exec .storeReadStart s = .next (readStartStep s) := inside_live hl _
    refine ⟨fun n idle waits => ?_, fun q t idle none waits => ?_, fun busy => ?_⟩
    · rw [row, readStartStep]
      simp only [idle, waits]
      rfl
    · rw [row, readStartStep]
      simp only [idle, none, waits, onStore]
    · rw [row, readStartStep]
      rcases busy with busy | ⟨none, empty⟩
      · obtain ⟨op, hop⟩ := Option.ne_none_iff_exists'.1 busy
        simp only [hop]
      · cases hop : s.store.op <;> simp only [none, empty]
  · intro y
    have hy : heard p 0x0D s = y := rfl
    clear_value y
    refine ⟨fun big => request_refuses h hy (if_pos big), fun hn busy => ?_, fun hn idle => ?_⟩
    · refine (request_owner h hy).trans (congrArg _ ?_)
      rw [readPreset, if_neg (Nat.not_le.2 hn), if_pos busy]
      rfl
    · refine (request_owner h hy).trans (congrArg _ ?_)
      rw [readPreset, if_neg (Nat.not_le.2 hn), if_neg (by simp [idle])]
      rfl
  · rw [exec_presetReadCompletion hl]
    generalize prelude s = y
    intro _ idle op
    rw [readCompletion_link op]
    exact ⟨fun h => congrArg _ (readAnswer_empty (y := idle) h), fun h => congrArg _ (readAnswer_bad (y := idle) h),
      fun r h => ⟨fun hc => congrArg _ (readAnswer_within (y := idle) h hc),
        fun hc => congrArg _ (readAnswer_beyond (y := idle) h hc)⟩⟩
  · rw [exec_presetReadCompletion hl]
    generalize prelude s = y
    exact ⟨fun n h => congrArg _ (readCompletion_dropped h), fun h => congrArg _ (readCompletion_none h)⟩
  · intro y no read
    have hy : heard p 0x0E s = y := rfl
    clear_value y
    have refused : readBuffer p.link src chunk y = refuse p.link .badArg y → no := fun ho => request_refuses h hy ho
    have reads : ∀ r seq n, bufferSource src y = some (r, seq, n) → read r seq n := fun r seq n hs =>
      ⟨fun hc => request_fills h hy (readBuffer_within hs hc) rfl, fun hc => refused (readBuffer_beyond hs hc)⟩
    refine ⟨?_, ?_, fun hs e he => reads _ _ _ (bufferSource_stash hs he),
      fun hs far => refused (readBuffer_none (bufferSource_beyond hs far))⟩
    · rintro rfl r hr
      exact reads _ _ _ (bufferSource_buffer hr)
    · rintro rfl hr
      exact refused (readBuffer_none (bufferSource_empty hr))

/-- Settles O26: the checks in order, then the write with what it holds at the take. -/
theorem writesBeginWithTheirSnapshot : Obligations.WritesBeginWithTheirSnapshot := by
  refine ⟨fun p n src s h => ⟨?_, ?_⟩, fun p s h => ?_⟩
  · intro y no store
    have hy : heard p 0x1E s = y := rfl
    clear_value y
    have stores : ∀ r seq m, n < 128 → bufferSource src y = some (r, seq, m) → store r seq := fun r seq m hn hs =>
      ⟨fun busy => request_refuses h hy (storePreset_busy hn hs busy),
        fun idle => (request_owner h hy).trans (congrArg _ (storePreset_begins hn hs idle))⟩
    refine ⟨fun big => request_refuses h hy (if_pos big), ?_, ?_, ?_, ?_⟩
    · rintro hn rfl hr
      exact request_refuses h hy (storePreset_none (bufferSource_empty hr))
    · exact fun hn hs far => request_refuses h hy (storePreset_none (bufferSource_beyond hs far))
    · rintro r hn rfl hr
      exact stores _ _ _ hn (bufferSource_buffer hr)
    · exact fun e hn hs he => stores _ _ _ hn (bufferSource_stash hs he)
  · intro y
    have hy : heard p 0x1F s = y := rfl
    clear_value y
    refine ⟨fun big => request_refuses h hy (if_pos big), fun hn busy => ?_, fun hn idle => ?_⟩
    · refine request_refuses h hy ?_
      rw [erasePreset, if_neg (Nat.not_le.2 hn), if_pos busy]
    · refine (request_owner h hy).trans (congrArg _ ?_)
      rw [erasePreset, if_neg (Nat.not_le.2 hn), if_neg (by simp [idle])]
      rfl
  · intro y
    have hy : heard p 0x33 s = y := rfl
    clear_value y
    refine ⟨fun busy => request_refuses h hy (if_pos busy), fun idle => (request_owner h hy).trans (congrArg _ ?_)⟩
    exact if_neg (by simp [idle])

end

end

section
/-! The completions of the four writes (3.4, 5.2, 11.1). -/

namespace Sys2Proof.Frame

open Sys2Proof Sys2Proof.Machine

variable {x y : State} {l : Fin 4}

theorem onStore_answer (f : Store → Store) (st : Status) (c : List Byte) (z : State) :
    onStore f (answer l st c z) = answer l st c (onStore f z) := by
  have same : linkOf (onStore f z) l = linkOf z l := rfl
  unfold answer answerTagged
  rw [same]
  split
  · split <;> rfl
  · rfl

/-- A write that a link asked for ends (R78). -/
theorem writeDone_link (k : WriteKind) (n : Option Nat) (st : Status) (c : List Byte) (z : State) :
    writeDone (some l) k n (answer l st c z) =
      raise .store (answer l st c { z with store := { z.store with op := none, last := some (k, n) } }) := by
  unfold writeDone storeIdle
  rw [onStore_answer, onStore_answer]
  rfl

/-- A write that a RESTART overtook ends (R78, R189). -/
theorem writeDone_restart (k : WriteKind) (n : Option Nat) (z : State) : writeDone none k n z =
    raise .store { z with store := { z.store with
      op := if z.startup.phase = .booting then some (.startRead .setup) else none, last := some (k, n) } } := by
  unfold writeDone storeIdle
  simp only [Option.isNone_none, Bool.true_and, beq_iff_eq]
  rfl

/-! ## The four rows -/

/-- What PRESET_STORE_COMPLETION does. -/
def storeCompletion (x : State) : State :=
  match x.store.op with
  | some (.presetStore link n snap seq) => presetStored link n snap seq x
  | _ => x

/-- What PRESET_ERASE_COMPLETION does. -/
def eraseCompletion (x : State) : State :=
  match x.store.op with
  | some (.presetErase link n) => presetErased link n x
  | _ => x

/-- What IMAGE_STORE_COMPLETION does. -/
def imageCompletion (x : State) : State :=
  match x.store.op with
  | some (.imageStore link slot a taps words) => imageStored link slot a taps words x
  | _ => x

/-- What SETUP_STORE_COMPLETION does. -/
def setupCompletion (x : State) : State :=
  match x.store.op with
  | some (.setupStore link snap) => setupStored link snap x
  | _ => x

section
variable {s : State} (hl : live s = true)
include hl

theorem exec_presetStoreCompletion : exec .presetStoreCompletion s = .next (storeCompletion (prelude s)) :=
  outside_live hl storeCompletion

theorem exec_presetEraseCompletion : exec .presetEraseCompletion s = .next (eraseCompletion (prelude s)) :=
  outside_live hl eraseCompletion

theorem exec_imageStoreCompletion : exec .imageStoreCompletion s = .next (imageCompletion (prelude s)) :=
  outside_live hl imageCompletion

theorem exec_setupStoreCompletion : exec .setupStoreCompletion s = .next (setupCompletion (prelude s)) :=
  outside_live hl setupCompletion

end

/-! ## A preset store (R75) -/

section
variable {n : Nat} {seq : Word32}

theorem storeMatch_same (h : y.scene.buffer.seq = seq) (hp : y.scene.buffer.preset = some n) : storeMatch n seq y =
    { y with scene := { y.scene with buffer := { y.scene.buffer with dirty := false, preset := some n } } } := by
  rw [storeMatch, if_pos h]
  exact if_pos hp

theorem storeMatch_renamed (h : y.scene.buffer.seq = seq) (hp : y.scene.buffer.preset ≠ some n) : storeMatch n seq y =
    raise .scene { y with scene := { y.scene with buffer := { y.scene.buffer with dirty := false, preset := some n } } } := by
  rw [storeMatch, if_pos h]
  exact if_neg hp

theorem storeMatch_none (h : y.scene.buffer.seq ≠ seq) (hs : ∀ e ∈ y.scene.stash, e.seq ≠ seq) : storeMatch n seq y = y := by
  rw [storeMatch, if_neg h]
  exact if_neg (by simpa using hs)

theorem storeMatch_stash (h : y.scene.buffer.seq ≠ seq) (hs : ∃ e ∈ y.scene.stash, e.seq = seq) : storeMatch n seq y =
    raise .stash { y with scene := { y.scene with stash := y.scene.stash.filter fun e => !(e.seq == seq) } } := by
  rw [storeMatch, if_neg h]
  exact if_pos (by simpa using hs)

end

/-! ## An image store (R52) -/

theorem imageTaken_first {m : AreaMan} {k a taps : Nat} (h : m.table.getD k none = none) : imageTaken l k a taps m =
    { m with
      areas := m.areas.set a (.image (some k) taps 0), table := m.table.set k (some (a, taps))
      uploads := m.uploads.set l.val ⟨none, .saved⟩, mask := m.mask.set k true } := by
  simp only [imageTaken, h]

theorem imageTaken_replaces {m : AreaMan} {k a taps old t : Nat} (h : m.table.getD k none = some (old, t)) :
    imageTaken l k a taps m = orphanImage old { m with
      areas := m.areas.set a (.image (some k) taps 0), table := m.table.set k (some (a, taps))
      uploads := m.uploads.set l.val ⟨none, .saved⟩, mask := m.mask.set k true } := by
  simp only [imageTaken, h]
  rfl

end Sys2Proof.Frame

section
open Sys2Proof Sys2Proof.Machine Sys2Proof.Frame

/-- Settles O27: each completion writes its place, and what it changes beside it depends on the link that asked. -/
theorem writesComplete : Obligations.WritesComplete := by
  intro s hl
  have store := exec_presetStoreCompletion hl
  have erase := exec_presetEraseCompletion hl
  have image := exec_imageStoreCompletion hl
  have setup := exec_setupStoreCompletion hl
  generalize prelude s = y at *
  intro _ done
  refine ⟨fun l n r q op => ?_, fun l n op => ?_, fun l k a taps ws op => ?_, fun l v op => ?_, ?_, fun h => ?_, fun h => ?_,
    fun h => ?_, fun h => ?_⟩
  · intro w z clean finish
    have run : ∀ z', storeMatch n q z = z' → finish z' := by
      rintro z' rfl
      show exec .presetStoreCompletion s = _
      rw [store, storeCompletion, op]
      exact congrArg _ (writeDone_link ..)
    exact ⟨fun same hp => run _ (storeMatch_same (y := z) same hp), fun same hp => run _ (storeMatch_renamed (y := z) same hp),
      fun other none => run _ (storeMatch_none (y := z) other none), fun other some => run _ (storeMatch_stash (y := z) other some)⟩
  · intro z finish
    have run : ∀ z', (if y.scene.buffer.preset = some n then onBuffer (fun b => { b with dirty := true }) z else z) = z' →
        finish z' := by
      rintro z' rfl
      show exec .presetEraseCompletion s = _
      rw [erase, eraseCompletion, op]
      simp only [presetErased, Option.isSome_some, true_and]
      exact congrArg _ (writeDone_link ..)
    exact ⟨fun same => run _ (if_pos same), fun other => run _ (if_neg other)⟩
  · intro m st told
    have run : ∀ m' prev, imageTaken l k a taps y.area = m' → (y.area.table.getD k none).map (·.1) = prev →
        exec .imageStoreCompletion s = .next (done .imageStore (some k) (told { y with store := st, area := m' }) l
          [byte k, byte a, optByte prev]) := by
      rintro _ _ rfl rfl
      rw [image, imageCompletion, op]
      exact congrArg _ (writeDone_link ..)
    exact ⟨fun first => run m none (imageTaken_first first) (by rw [first]; rfl),
      fun old t named => run _ (some old) (imageTaken_replaces named) (by rw [named]; rfl)⟩
  · rw [setup, setupCompletion, op]
    exact congrArg _ (writeDone_link ..)
  · intro afterRestart
    refine ⟨fun n r q op => ?_, fun n op => ?_, fun k a taps ws op => ?_, fun v op => ?_⟩
    · show exec .presetStoreCompletion s = _
      rw [store, storeCompletion, op]
      exact congrArg _ (writeDone_restart ..)
    · show exec .presetEraseCompletion s = _
      rw [erase, eraseCompletion, op]
      simp only [presetErased, Option.isSome_none, Bool.false_eq_true, false_and, if_false]
      exact congrArg _ (writeDone_restart ..)
    · show exec .imageStoreCompletion s = _
      rw [image, imageCompletion, op]
      exact congrArg _ (writeDone_restart ..)
    · show exec .setupStoreCompletion s = _
      rw [setup, setupCompletion, op]
      exact congrArg _ (writeDone_restart ..)
  · rw [store, storeCompletion]
    split
    · rename_i hop
      exact absurd hop (h _ _ _ _)
    · rfl
  · rw [erase, eraseCompletion]
    split
    · rename_i hop
      exact absurd hop (h _ _)
    · rfl
  · rw [image, imageCompletion]
    split
    · rename_i hop
      exact absurd hop (h _ _ _ _ _)
    · rfl
  · rw [setup, setupCompletion]
    split
    · rename_i hop
      exact absurd hop (h _ _)
    · rfl

end

end

section
/-! Breaks, packets' ends, unknown kinds, masks and the notices (10.1, 10.2, 10.6, 12.4). -/

namespace Sys2Proof.Frame

open Sys2Proof Sys2Proof.Machine

variable {x y s : State} {l : Fin 4}

/-! ## A break (R171) -/

theorem withdrawRead_none (h : ¬ ∃ q ∈ y.store.waitLinks, q.link = l) : withdrawRead l y = y :=
  if_neg (by simpa using h)

theorem withdrawRead_some (h : ∃ q ∈ y.store.waitLinks, q.link = l) : withdrawRead l y =
    onLinkAt l (fun x => { x with outstanding := none })
      { y with store := { y.store with waitLinks := y.store.waitLinks.filter (·.link != l) } } :=
  if_pos (by simpa using h)

theorem breakUpload_none (h : uploadArea y.area l = none) : breakUpload l y = y := by rw [breakUpload, h]

theorem breakUpload_saving {a taps rem : Nat} {k : Fin 4} {t : Bool} (h : uploadArea y.area l = some a)
    (ha : y.area.areas[a]? = some (.loading k taps rem true t)) : breakUpload l y = y := by
  simp only [breakUpload, h, ha]

theorem breakUpload_loading {a taps rem : Nat} {k : Fin 4} {t : Bool} (h : uploadArea y.area l = some a)
    (ha : y.area.areas[a]? = some (.loading k taps rem false t)) : breakUpload l y =
      raiseOn .area l { y with area := { y.area with
        areas := y.area.areas.set a .free, uploads := y.area.uploads.set l.val ⟨none, .broken⟩ } } := by
  rw [breakUpload, endUpload_eq h, h]
  simp only [ha]

theorem breakLink_calm (h : ∀ q ∈ (linkOf y l).places, q.tag ≠ .restart) :
    breakLink l y = breakUpload l (withdrawRead l (onLinkAt l orphan y)) := by
  have calm : restartHeld (linkOf y l) = false := by simpa [restartHeld] using h
  simp only [breakLink, calm, Bool.false_eq_true, if_false]

theorem breakLink_restart (h : ¬ ∀ q ∈ (linkOf y l).places, q.tag ≠ .restart) : breakLink l y =
    onStartup (fun u => { u with restartDue := true }) (breakUpload l (withdrawRead l (onLinkAt l orphan y))) := by
  have held : restartHeld (linkOf y l) = true := by simpa [restartHeld] using h
  simp only [breakLink, held, if_true]

/-! ## The transmitter (R174, R183) -/

/-- The first of a list that rises in a rank and has a property is the one before which none has it. -/
theorem find?_least {α : Type} {rank : α → Nat} {p : α → Bool} {l : List α} (sorted : l.Pairwise fun a b => rank a < rank b)
    {k : α} (hk : k ∈ l) (hp : p k = true) (least : ∀ j, rank j < rank k → p j = false) : l.find? p = some k := by
  induction l with
  | nil => cases hk
  | cons b t ih =>
    obtain ⟨below, rest⟩ := List.pairwise_cons.1 sorted
    rcases List.mem_cons.1 hk with rfl | ht
    · rw [List.find?_cons_of_pos hp]
    · rw [List.find?_cons_of_neg (by rw [least b (below k ht)]; decide), ih rest ht]

theorem lowestFlag_eq {f : BitVec 16} {k : NoticeKind} (hk : f &&& noticeBit k ≠ 0)
    (least : ∀ j, noticeOrder j < noticeOrder k → f &&& noticeBit j = 0) : lowestFlag f = some k := by
  refine find?_least (rank := noticeOrder) (by decide) ?_ (by simpa using hk) fun j hj => by simpa using least j hj
  cases k <;> decide

theorem lowestFlag_none {f : BitVec 16} (h : ∀ k, f &&& noticeBit k = 0) : lowestFlag f = none :=
  List.find?_eq_none.2 fun k _ => by simp [h k]

/-- A notice's payload does not read the links' transmitters. -/
theorem noticePacket_onLinkAt (k : NoticeKind) (j : Fin 4) (f : Link → Link) (z : State) :
    noticePacket k l (onLinkAt j f z) = noticePacket k l z := by cases k <;> rfl

section
variable {p : ReplyPlace} (ht : (linkOf y l).tx = some p) (hp : p.tag ≠ .restart)
include ht hp

/-- The end of a packet that brings no restart lets the transmitter choose (R174). -/
theorem txEnd_pumps : txEnd l y = pumpLink l (onLinkAt l endPacket y) := by
  simp only [txEnd, ht, if_neg hp]

variable (four : y.link.links.length = 4)
include four

theorem txEnd_reply {q : ReplyPlace} {t : List ReplyPlace} (h : (linkOf y l).places = q :: t) :
    txEnd l y = onLinkAt l (fun x => beginReply q t (endPacket x)) y := by
  have now : linkOf (onLinkAt l endPacket y) l = endPacket (linkOf y l) := linkOf_onLinkAt l endPacket y four
  rw [txEnd_pumps ht hp]
  simp only [pumpLink, now, endPacket, h]
  exact onLinkAt_onLinkAt ..

theorem txEnd_idle (h : (linkOf y l).places = []) (silent : y.startup.phase = .booting ∨ lowestFlag (linkOf y l).flags = none) :
    txEnd l y = onLinkAt l endPacket y := by
  have now : linkOf (onLinkAt l endPacket y) l = endPacket (linkOf y l) := linkOf_onLinkAt l endPacket y four
  rw [txEnd_pumps ht hp]
  simp only [pumpLink, now]
  rcases silent with boot | none
  · simp only [endPacket, h]
    exact if_pos boot
  · simp only [endPacket, h, none, ite_self]

theorem txEnd_notice {k : NoticeKind} (h : (linkOf y l).places = []) (up : y.startup.phase ≠ .booting)
    (hk : lowestFlag (linkOf y l).flags = some k) : txEnd l y = onLinkAt l (fun x => { x with
      tx := some ⟨.plain, noticePacket k l y⟩, flags := x.flags &&& ~~~ noticeBit k, txRate := x.nextRate }) y := by
  have now : linkOf (onLinkAt l endPacket y) l = endPacket (linkOf y l) := linkOf_onLinkAt l endPacket y four
  rw [txEnd_pumps ht hp]
  simp only [pumpLink, now]
  simp only [endPacket, h, hk]
  refine (if_neg up).trans ?_
  rw [noticePacket_onLinkAt]
  exact onLinkAt_onLinkAt ..

end

/-! ## Kinds that name no request (R172, R195) -/

theorem namesRequest_byte {k : Nat} (h : k < 256) : namesRequest (byte k) = true ↔ 1 ≤ k ∧ k ≤ 0x38 := by
  simp [namesRequest, toNat_byte_of_lt h]

theorem unknownKind_ignored {b : Byte} (h : namesRequest b = true ∨ (linkOf y l).rx.st = .waitHigh) : unknownKind l b y = y :=
  if_pos (by simpa using h)

section
variable {b : Byte} (hk : ¬ namesRequest b = true) (hears : (linkOf y l).rx.st ≠ .waitHigh)
include hk hears

theorem unknownKind_busy {o : Outstanding} (ho : (linkOf y l).outstanding = some o) : unknownKind l b y =
    onLinkAt l (fun x => if x.places.any (·.tag == .busy) then { x with rx := rxHunt }
      else { x with rx := rxHunt, places := x.places ++ [⟨.busy, ⟨0x80, [statusCode .busy, b]⟩⟩] }) y := by
  have hout : (linkOf (onRx l (fun _ => rxHunt) y) l).outstanding = some o :=
    (linkOf_onLinkAt_keep (fun r => r.outstanding) l l (fun r => { r with rx := rxHunt }) y (fun _ => rfl)).trans ho
  rw [unknownKind, if_neg (by simp [hk, hears])]
  simp only [hout]
  exact onLinkAt_onLinkAt ..

theorem unknownKind_free (four : y.link.links.length = 4) (ho : (linkOf y l).outstanding = none) : unknownKind l b y =
    onLinkAt l (fun x => { x with
      rx := rxHunt, outstanding := some ⟨0, false⟩
      places := x.places ++ [⟨.plain, ⟨0x80, [statusCode (if running y then .badArg else .starting), b]⟩⟩] }) y := by
  have hout : (linkOf (onRx l (fun _ => rxHunt) y) l).outstanding = none :=
    (linkOf_onLinkAt_keep (fun r => r.outstanding) l l (fun r => { r with rx := rxHunt }) y (fun _ => rfl)).trans ho
  have begun : (linkOf (beginRequest l 0 (onRx l (fun _ => rxHunt) y)) l).outstanding = some ⟨0, false⟩ := by
    rw [beginRequest, linkOf_onLinkAt _ _ _ (by rw [onRx, length_onLinkAt]; exact four)]
  rw [unknownKind, if_neg (by simp [hk, hears])]
  simp only [hout, answer, answerTagged, begun, Bool.false_eq_true, if_false]
  exact (onLinkAt_onLinkAt ..).trans (onLinkAt_onLinkAt ..)

end

/-! ## The notices (12.4) -/

/-- A list's elements beside their numbers. -/
theorem mem_zip_range {α : Type} {l : List α} {x : Nat × α} (h : x ∈ (List.range l.length).zip l) : l[x.1]? = some x.2 := by
  obtain ⟨i, hi⟩ := List.mem_iff_getElem?.1 h
  obtain ⟨hn, ha⟩ := List.getElem?_zip_eq_some.1 hi
  obtain ⟨hi', number⟩ := List.getElem?_eq_some_iff.1 hn
  rwa [← number, List.getElem_range]

theorem map_fst_zip_range {α : Type} (l : List α) : ((List.range l.length).zip l).map (·.1) = List.range l.length :=
  List.map_fst_zip (by simp)

theorem cue_of_firedCues {c : Show} {x : Nat × Cue} (h : x ∈ firedCues c) : c.cues[x.1]? = some x.2 := by
  unfold firedCues at h
  split at h
  · exact mem_zip_range (List.mem_of_mem_filter (List.mem_of_mem_take h))
  · cases h

/-- Does cue `j` stand at the last firing position (R150)? -/
def firedAt (c : Show) (j : Nat) : Bool :=
  match c.cues[j]?, c.lastFired with
  | some q, some w => decide (q.bar = w.1 ∧ q.beat = w.2)
  | _, _ => false

theorem firedCues_eq (c : Show) :
    firedCues c = (((List.range c.cues.length).zip c.cues).filter fun x => firedAt c x.1).take 4 := by
  have test : ∀ x ∈ (List.range c.cues.length).zip c.cues,
      firedAt c x.1 = match c.lastFired with | some (b, k) => x.2.bar == b && x.2.beat == k | none => false := fun x hx => by
    rw [firedAt, mem_zip_range hx]
    cases c.lastFired <;> simp [Bool.decide_and, ← beq_eq_decide]
  rw [List.filter_congr test]
  unfold firedCues
  cases c.lastFired <;> simp

/-- The cues of the last firing position, by number (R150). -/
theorem firedCues_numbers (c : Show) :
    (firedCues c).map (·.1) = ((List.range c.cues.length).filter (firedAt c)).take 4 := by
  conv_rhs => rw [← map_fst_zip_range c.cues, List.filter_map, ← List.map_take]
  rw [firedCues_eq]
  rfl

theorem markCount_eq (x : Sat) : markCount x = (x.marks.filter fun a => decide (a ≠ .absent)).length := by
  have same : (fun a : Mark => a != .absent) = fun a => decide (a ≠ .absent) := by
    funext a
    cases a <;> rfl
  rw [markCount, same]

theorem satBytes_eq : satBytes = fun x => [byte (satStateCode x.state), flagByte x.hidden, flagByte x.latch.isSome,
    byte (x.latch.getD 0), x.last.getD 0xFF, byte (x.marks.filter fun a => decide (a ≠ .absent)).length] :=
  funext fun x => by rw [satBytes, markCount_eq]

/-- The holders' bits stand in one byte (12.4). -/
theorem byte_holderBits (h : Holders) : byte (holderBits h) =
    BitVec.ofNat 4 0 ++ BitVec.ofBool h.clock ++ BitVec.ofBool h.startup ++ BitVec.ofBool h.panic ++ BitVec.ofBool h.tuner := by
  obtain ⟨tuner, panic, startup, clock⟩ := h
  revert tuner panic startup clock
  decide

end Sys2Proof.Frame

section
open Sys2Proof Sys2Proof.Machine Sys2Proof.Frame

/-- Settles O53: the break, the packet's end, the unknown kind and the mask each update one link, and each notice carries the state. -/
theorem breaksPacketsAndMasks : Obligations.BreaksPacketsAndMasks := by
  refine ⟨fun l s hl => ?_, fun l s hl four => ?_, fun l k s hl four hk => ?_, fun p mask s h => ?_, by decide, fun l s => ?_⟩
  · have row : exec (.linkBreak l) s = .next (breakLink l (prelude s)) := outside_live hl _
    rw [row]
    generalize prelude s = y
    intro _ r upload broken calm reads
    have calmly : calm → breakLink l y = breakUpload l (withdrawRead l broken) := breakLink_calm
    refine ⟨fun c n u => ?_, fun c n a k taps rem t u ha => ?_, fun c n a k taps rem t u ha => ?_, fun c w u => ?_, fun c n u => ?_⟩
    · rw [calmly c, withdrawRead_none (y := broken) n, breakUpload_none (y := broken) u]
    · rw [calmly c, withdrawRead_none (y := broken) n, breakUpload_loading (y := broken) u ha]
      rfl
    · rw [calmly c, withdrawRead_none (y := broken) n, breakUpload_saving (y := broken) u ha]
    · rw [calmly c, withdrawRead_some (y := broken) w]
      exact congrArg _ (breakUpload_none u)
    · have still : breakUpload l (withdrawRead l broken) = broken := by
        rw [withdrawRead_none (y := broken) n, breakUpload_none (y := broken) u]
      rw [breakLink_restart c]
      exact congrArg _ (congrArg (onStartup _) still)
  · have row : exec (.transmitEnd l) s = .next (txEnd l (prelude s)) := outside_live hl _
    rw [row]
    generalize prelude s = y at *
    intro _ r
    refine ⟨fun none => by rw [txEnd, none], fun p ht hp => ⟨fun q t h => ?_, fun h boot => ?_, fun k h up hk least => ?_, fun h none => ?_⟩⟩
    · rw [txEnd_reply ht hp four h]
      rfl
    · rw [txEnd_idle ht hp four h (.inl boot)]
      rfl
    · rw [txEnd_notice ht hp four h up (lowestFlag_eq hk least)]
    · rw [txEnd_idle ht hp four h (.inr (lowestFlag_none none))]
      rfl
  · have row : exec (.unknownKind l k) s = .next (unknownKind l (byte k) (prelude s)) := outside_live hl _
    rw [row]
    generalize prelude s = y at *
    intro _ r at_
    refine ⟨fun h => congrArg _ (unknownKind_ignored (h.imp_left (namesRequest_byte hk).2)), fun other hears => ?_⟩
    have other' : ¬ namesRequest (byte k) = true := fun h => other ((namesRequest_byte hk).1 h)
    refine ⟨fun o ho full => ?_, fun o ho empty => ?_, fun ho => ?_⟩
    · refine congrArg _ ((unknownKind_busy other' hears ho).trans (onLinkAt_congr (if_pos ?_)))
      obtain ⟨q, hq, busy⟩ := full
      exact List.any_eq_true.2 ⟨q, hq, beq_iff_eq.2 busy⟩
    · refine congrArg _ ((unknownKind_busy other' hears ho).trans (onLinkAt_congr (if_neg fun full => ?_)))
      obtain ⟨q, hq, busy⟩ := List.any_eq_true.1 full
      exact empty q hq (beq_iff_eq.1 busy)
    · exact congrArg _ (unknownKind_free other' hears four ho)
  · intro y
    have hy : heard p 0x04 s = y := rfl
    clear_value y
    intro m
    refine request_answers h hy (c := be2 m.toNat) rfl ?_
    exact linkOf_onLinkAt_keep (·.outstanding) _ _ _ _ fun _ => rfl
  · intro sends b k request fired upload ending h
    have packet : ∀ kind v, noticePayload kind l s = v → sends kind v := fun kind v hv =>
      congrArg (Packet.mk (byte (0xC0 + noticeOrder kind))) hv
    have asked : ∀ q, requestBytes s q = request q := fun q => by
      cases q with
      | none => rfl
      | some q =>
        obtain ⟨target, discard, exitTuner, reload, origin, precedence, guard⟩ := q
        cases target <;> cases origin <;> rfl
    refine ⟨packet _ _ ?_, fun o ho => packet _ _ ?_, ⟨fun none => packet _ _ ?_, fun r hr => packet _ _ ?_⟩, packet _ _ ?_, packet _ _ ?_, packet _ _ ?_, fun none => packet _ _ ?_, fun o n last => packet _ _ ?_, fun none => packet _ _ ?_, fun a j n m v t up ha => packet _ _ ?_, packet _ _ ?_, packet _ _ ?_, ?_⟩
    · simp only [noticePayload, asked]
      rfl
    · simp only [noticePayload, outcomeRec, List.getD_eq_getElem?_getD, ho]
      rfl
    · simp only [noticePayload, none]
      rfl
    · simp only [noticePayload, hr]
      simp [readingBytes]
    · rfl
    · have numbers : (firedCues k).map (·.1) = fired := firedCues_numbers k
      rw [← numbers, List.length_map, List.flatMap_map]
      refine congrArg (_ ++ ·) (List.flatMap_congr fun x hx => ?_)
      rw [show k.cues[x.1]? = some x.2 from cue_of_firedCues hx]
      obtain ⟨j, bar, beat, action, hasFired, outcome, tag⟩ := x
      cases action <;> rfl
    · simp only [noticePayload, satBytes_eq]
    · simp only [noticePayload, lastWrite, none]
    · simp only [noticePayload, lastWrite, last] <;> rfl
    · simp only [noticePayload, show (s.area.uploads.getD l.val ⟨Option.none, .none⟩).area = Option.none from none]
      rfl
    · simp only [noticePayload, show (s.area.uploads.getD l.val ⟨none, .none⟩).area = some a from up, Option.bind_some, ha]
      rfl
    · rfl
    · rfl
    · exact ⟨_, packet _ _ rfl, byte_holderBits h⟩

end

end

section
/-! The immediate cut of the tail lanes (R24): its effect in one equation. -/

namespace Sys2Proof.Frame

open Sys2Proof Sys2Proof.Machine

variable {x : State}

/-- One lane's part of the immediate cut. -/
def cutLane (l : Nat) (x : State) : State := if occupied (laneOf x l) then emptyLane l x else x

/-- The areas that the cut of a lane frees. -/
def cutHeld (x : State) (l : Nat) : List Nat := if occupied (laneOf x l) then ((laneOf x l).inst.map (·.areas)).getD [] else []

/-- The lanes after the cut of those in `ls`. -/
def cutLanes (x : State) (ls : List Nat) : List Lane :=
  ls.foldl (fun lanes l => if occupied (laneOf x l) then lanes.set l Lane.clear else lanes) x.tone.lanes

/-- Does the cut of the lanes in `ls` leave lane `k` its place in the orders? -/
def outlives (x : State) (ls : List Nat) (k : Nat) : Bool := !(ls.contains k && occupied (laneOf x k))

/-- `x` with the lanes in `ls` cut. -/
def lanesCut (x : State) (ls : List Nat) : State := { x with
  area := freeAreaList (ls.flatMap (cutHeld x)) x.area
  tone := { x.tone with lanes := cutLanes x ls, order := x.tone.order.filter (outlives x ls) }
  sw := { x.sw with inflight := x.sw.inflight.map fun f => { f with evicting := f.evicting.filter (outlives x ls) } } }

theorem freeAreaList_append (a b : List Nat) (m : AreaMan) :
    freeAreaList (a ++ b) m = freeAreaList b (freeAreaList a m) := List.foldl_append

theorem laneOf_set_ne {k l : Nat} (h : k ≠ l) (lanes : List Lane) (y : Lane) :
    (lanes.set k y).getD l Lane.clear = lanes.getD l Lane.clear := by
  simp [List.getD_eq_getElem?_getD, List.getElem?_set_ne h]

/-- The cut of some lanes leaves the others. -/
theorem laneOf_lanesCut {l : Nat} {ls : List Nat} (h : l ∉ ls) : laneOf (lanesCut x ls) l = laneOf x l := by
  show (cutLanes x ls).getD l Lane.clear = x.tone.lanes.getD l Lane.clear
  unfold cutLanes
  generalize x.tone.lanes = lanes
  induction ls generalizing lanes with
  | nil => rfl
  | cons k t ih =>
    obtain ⟨ne, rest⟩ := not_or.1 (mt List.mem_cons.2 h)
    rw [List.foldl_cons, ih rest]
    split
    · exact laneOf_set_ne (Ne.symm ne) _ _
    · rfl

/-- The cut of one lane more. -/
theorem cutLane_lanesCut {l : Nat} {ls : List Nat} (h : l ∉ ls) : cutLane l (lanesCut x ls) = lanesCut x (ls ++ [l]) := by
  have goes : occupied (laneOf x l) = true → ∀ k, (k != l && outlives x ls k) = outlives x (ls ++ [l]) k := by
    intro busy k
    by_cases hk : k = l
    · simp [outlives, hk, busy]
    · simp [outlives, hk]
  have stays : occupied (laneOf x l) = false → outlives x (ls ++ [l]) = outlives x ls := by
    intro idle
    funext k
    by_cases hk : k = l
    · simp [outlives, hk, idle]
    · simp [outlives, hk]
  unfold cutLane
  rw [laneOf_lanesCut h]
  cases busy : occupied (laneOf x l)
  · simp [lanesCut, cutLanes, cutHeld, busy, stays busy]
  · rw [if_pos rfl, emptyLane, laneOf_lanesCut h]
    simp [lanesCut, cutLanes, cutHeld, busy, onTone, onSw, freeAreaList_append, List.filter_filter, goes busy,
      Function.comp_def]

theorem foldl_cutLane {ls rest : List Nat} (h : (ls ++ rest).Nodup) :
    rest.foldl (fun x l => cutLane l x) (lanesCut x ls) = lanesCut x (ls ++ rest) := by
  induction rest generalizing ls with
  | nil => rw [List.append_nil, List.foldl_nil]
  | cons l t ih =>
    have fresh : l ∉ ls := fun hl => (List.disjoint_of_nodup_append h) hl (List.mem_cons_self ..)
    rw [List.foldl_cons, cutLane_lanesCut fresh, ih (by simpa using h)]
    simp

theorem lanesCut_nil : lanesCut x [] = x := by
  have all : outlives x [] = fun _ => true := by funext k; simp [outlives]
  simp [lanesCut, cutLanes, all, freeAreaList]

/-- The immediate cut (R24). -/
theorem takeCutAll_eq (x : State) : takeCutAll x =
    onSw (fun w => { w with laneReports := [], inflight := w.inflight.map fun f => { f with deferred := [] } })
      (lanesCut x [0, 1, 2, 3]) := by
  have all : [0, 1, 2, 3].foldl (fun x l => cutLane l x) (lanesCut x []) = lanesCut x [0, 1, 2, 3] :=
    foldl_cutLane (ls := []) (by decide)
  rw [lanesCut_nil] at all
  rw [← all]
  rfl

theorem getElem?_cutLanes (x : State) (ls : List Nat) (k : Nat) : (cutLanes x ls)[k]? =
    x.tone.lanes[k]?.map fun y => if ls.contains k && occupied y then Lane.clear else y := by
  induction ls using List.reverseRecOn with
  | nil => simp [cutLanes]
  | append_singleton ls l ih =>
    have step : cutLanes x (ls ++ [l]) = if occupied (laneOf x l) then (cutLanes x ls).set l Lane.clear else cutLanes x ls := by
      simp [cutLanes]
    rw [step]
    by_cases hk : k = l
    · subst hk
      cases hl : x.tone.lanes[k]? with
      | none =>
        split
        · rw [List.getElem?_set_self', ih, hl]
          rfl
        · rw [ih, hl]
          rfl
      | some y =>
        have lane : laneOf x k = y := by rw [laneOf, List.getD_eq_getElem?_getD, hl, Option.getD_some]
        rw [lane]
        cases busy : occupied y
        · simp [ih, hl, busy]
        · simp [List.getElem?_set_self', ih, hl, busy]
    · have same : (ls ++ [l]).contains k = ls.contains k := by simp [hk]
      rw [same, ← ih]
      split
      · rw [List.getElem?_set_ne (Ne.symm hk)]
      · rfl

/-- Four lanes, all cut. -/
theorem cutLanes_four (h : x.tone.lanes.length = 4) :
    cutLanes x [0, 1, 2, 3] = x.tone.lanes.map fun y => if y.st = .empty then y else Lane.clear := by
  refine List.ext_getElem? fun k => ?_
  rw [getElem?_cutLanes, List.getElem?_map]
  cases hl : x.tone.lanes[k]? with
  | none => rfl
  | some y =>
    have few : k < 4 := h ▸ (List.getElem?_eq_some_iff.1 hl).1
    have listed : [0, 1, 2, 3].contains k = true := by simp; omega
    simp only [Option.map_some, listed, Bool.true_and]
    by_cases he : y.st = .empty <;> simp [occupied, he]

end Sys2Proof.Frame

end

section
/-! Seats, access, panic and the setup values (10.3 to 10.7). -/

namespace Sys2Proof.Frame

open Sys2Proof Sys2Proof.Machine

variable {x : State}

/-- An operation that leaves the table of links alone keeps every link's request outstanding. -/
theorem outstanding_of_links {y : State} (h : y.link.links = x.link.links) (l : Fin 4) :
    (linkOf y l).outstanding = (linkOf x l).outstanding := by
  rw [linkOf, h, linkOf]

/-! ## SEAT_SET (R176) -/

theorem seatOf_outside {raw : RawSeat} (h : 3 < raw.tier ∨ 3 < raw.precedence ∨ 2 < raw.rate ∨ 1 < raw.quiet) :
    seatOf raw = none := by
  unfold seatOf
  cases hr : rateOf raw.rate with
  | none => rfl
  | some rate =>
    have small : raw.rate ≤ 2 := by
      unfold rateOf at hr
      by_contra large
      split at hr <;> simp_all
    exact if_neg (by omega)

theorem seatOf_listed {raw : RawSeat} {rate : Rate} (ht : raw.tier ≤ 3) (hp : raw.precedence ≤ 3) (hq : raw.quiet ≤ 1)
    (hr : rateOf raw.rate = some rate) :
    seatOf raw = some ⟨raw.tier, raw.precedence, rate, raw.quiet == 1, maskOf raw.mask⟩ := by
  simp only [seatOf, hr]
  exact if_pos (by omega)

theorem seatSet_badArg {l : Fin 4} {k : Nat} {raw : RawSeat}
    (h : 3 < raw.tier ∨ 3 < raw.precedence ∨ 2 < raw.rate ∨ 1 < raw.quiet ∨ 3 < k) :
    seatSet l k raw x = refuse l .badArg x := by
  unfold seatSet
  cases hs : seatOf raw with
  | none => rfl
  | some seat =>
    have far : 4 ≤ k := by
      by_contra near
      rw [seatOf_outside (by omega)] at hs
      cases hs
    exact if_pos far

theorem seatSet_last {l j : Fin 4} {raw : RawSeat} {seat : Seat} (hs : seatOf raw = some seat)
    (h : ∀ y ∈ (x.link.links.map (·.seat)).set j.val seat, y.tier ≠ 3) : seatSet l j.val raw x = refuse l .lastSetup x := by
  have lost : keepsSetup j.val seat x = false := by simpa [keepsSetup] using h
  simp only [seatSet, hs, lost]
  rw [if_neg (by omega)]
  rfl

theorem seatSet_taken {l j : Fin 4} {raw : RawSeat} {seat : Seat} (hs : seatOf raw = some seat)
    (h : ∃ y ∈ (x.link.links.map (·.seat)).set j.val seat, y.tier = 3) : seatSet l j.val raw x =
      answerTagged (if j.val = l.val then .ownSeat else .plain) l .ok (byte j.val :: seatBytes seat)
        (onLinkAt j (takeSeat (j.val == l.val) seat) x) := by
  have kept : keepsSetup j.val seat x = true := by simpa [keepsSetup] using h
  simp only [seatSet, hs, kept]
  rw [if_neg (by omega)]
  simp only [Bool.not_true, Bool.false_eq_true, if_false, beq_iff_eq]
  congr 2
  ext
  simp

/-- Does a reply that brings the seat's own rate wait for the link `l` that asked? -/
theorem held_iff (own : Bool) (a : Link) : (own || ownReplyWaits a) = true ↔ own = true ∨ ∃ q ∈ a.places, q.tag = .ownSeat := by
  simp [ownReplyWaits]

/-- A seat that is taken, field by field (R176, R182, log 55, log 65). -/
theorem takeSeat_eq (own : Bool) (seat : Seat) (a : Link) (held : Prop) [Decidable held]
    (h : held ↔ own = true ∨ ∃ q ∈ a.places, q.tag = .ownSeat) : takeSeat own seat a = { a with
      seat := seat
      rx := if seat.rate = a.seat.rate ∨ a.rx.st = .waitHigh then a.rx else ⟨.hunt, 0, []⟩
      txRate := if a.tx.isNone ∧ ¬ held then seat.rate else a.txRate
      nextRate := if held then a.nextRate else seat.rate
      flags := a.flags &&& (seat.mask ||| 0x0082) } := by
  have heldBit : (own || ownReplyWaits a) = decide held := by
    rw [Bool.eq_iff_iff, held_iff, ← h, decide_eq_true_iff]
  unfold takeSeat
  rw [heldBit]
  have receiver : (if seat.rate = a.seat.rate then a.rx else rxDrop a.rx) =
      if seat.rate = a.seat.rate ∨ a.rx.st = .waitHigh then a.rx else ⟨.hunt, 0, []⟩ := by
    by_cases hr : seat.rate = a.seat.rate
    · simp [hr]
    · by_cases hw : a.rx.st = .waitHigh <;> simp [hr, hw, rxDrop, rxHunt]
  simp only [receiver, maskedFlags, decide_eq_true_eq, Bool.and_eq_true, Bool.not_eq_true', decide_eq_false_iff_not]

/-! ## PANIC and UNPANIC (R184, R185) -/

theorem transport_disarm_hold (c : Show) : disarmShow (holdShow c) = { c with transport := (match c.transport with
    | .running => .held
    | .armed => .stopped
    | t => t) } := by
  obtain ⟨-, -, -, -, -, -, -, -, -, -, -, -, -, -, -, -, -, -, transport⟩ := c
  cases transport <;> rfl

/-- The fall of the factor and the cut leave the show alone. -/
theorem takeCutAll_clk (x : State) : (takeCutAll x).clk = x.clk := by rw [takeCutAll_eq]; rfl

theorem handedOver_cutAll_clk (x : State) : (handedOver .cutAll x).clk = x.clk := by
  unfold handedOver
  split
  · rfl
  · exact takeCutAll_clk x

theorem handedOver_muteFall_clk (x : State) : (handedOver .muteFall x).clk = x.clk := by
  unfold handedOver
  split <;> rfl

/-- The panic flag with the holder that it sets (R184). -/
def panicked (l : Fin 4) (x : State) : State := { x with
  link := { x.link with panic := true, panicLink := some l }
  tone := { x.tone with holders := { x.tone.holders with panic := true } } }

/-- What a panic hands to the Tone Engine. -/
def panicHanded (l : Fin 4) (x : State) : State :=
  handedOver .cutAll (if x.tone.holders.panic then panicked l x else handedOver .muteFall (panicked l x))

theorem panic_eq (l : Fin 4) (x : State) : panic l x = answer l .ok [] (raise .panic { panicHanded l x with
    clk := { x.clk with transport := (match x.clk.transport with
      | .running => .held
      | .armed => .stopped
      | t => t) } }) := by
  have same : (panicHanded l x).clk = x.clk := by
    unfold panicHanded
    rw [handedOver_cutAll_clk]
    split
    · rfl
    · exact handedOver_muteFall_clk _
  have handed : hand .cutAll (setPanicHolder (onLink (fun c => { c with panic := true, panicLink := some l }) x)) =
      panicHanded l x := by
    unfold panicHanded setPanicHolder
    rw [handedOver_eq]
    refine congrArg _ ?_
    cases h : x.tone.holders.panic
    · rw [setHolder_new _ (by exact h), if_neg (by decide), handedOver_eq]
      rfl
    · rw [setHolder_held _ (by exact h), if_pos rfl]
      show _ = ({ x with link := _, tone := { x.tone with holders := { x.tone.holders with panic := true } } } : State)
      rw [← h]
      rfl
  rw [← transport_disarm_hold, ← same, ← handed]
  rfl

theorem panicHanded_link (l : Fin 4) (x : State) :
    (panicHanded l x).link = { x.link with panic := true, panicLink := some l } := by
  unfold panicHanded
  rw [handedOver_eq]
  refine ((AudioOnly.refl _).hand _).link.trans ?_
  split
  · rfl
  · rw [handedOver_eq]
    exact ((AudioOnly.refl _).hand _).link

theorem panicHanded_present {l : Fin 4} (h : present x = true) : panicHanded l x = { panicked l x with
    tone := { (panicked l x).tone with
      changes := x.tone.changes ++ if x.tone.holders.panic then [.cutAll] else [.muteFall, .cutAll] } } := by
  have hp : x.mon.state = .present := by simpa [present] using h
  unfold panicHanded
  cases hh : x.tone.holders.panic
  · simp [handedOver, panicked, hp]
  · simp [handedOver, panicked, hp]

/-- The immediate cut of four lanes, of a state whose lanes, changes and chain are those of `x`. -/
theorem takeCutAll_four (h : x.tone.lanes.length = 4) :
    (∀ y ∈ (takeCutAll x).tone.lanes, y.st = .empty) ∧ (takeCutAll x).tone.changes = x.tone.changes ∧
      (takeCutAll x).tone.chain = x.tone.chain ∧ (takeCutAll x).tone.mute = x.tone.mute := by
  rw [takeCutAll_eq]
  refine ⟨fun y hy => ?_, rfl, rfl, rfl⟩
  have hy : y ∈ cutLanes x [0, 1, 2, 3] := hy
  rw [cutLanes_four h] at hy
  obtain ⟨a, -, rfl⟩ := List.mem_map.1 hy
  split
  · assumption
  · rfl

theorem panicHanded_lost {l : Fin 4} (h : present x = false) : panicHanded l x =
    takeCutAll (if x.tone.holders.panic then panicked l x
      else onTone (fun t => { t with mute := muteFallTo true t.mute }) (panicked l x)) := by
  unfold panicHanded
  rw [handedOver_eq]
  cases hh : x.tone.holders.panic
  · have fell : hand .muteFall (panicked l x) = onTone (fun t => { t with mute := muteFallTo true t.mute }) (panicked l x) :=
      hand_lost _ _ h
    rw [if_neg (by decide), if_neg (by decide), handedOver_eq, fell]
    exact hand_lost _ _ h
  · exact hand_lost _ _ h

theorem unpanic_idle {l : Fin 4} (h : x.link.panic = false) : unpanic l x = answer l .ok [0] x := by
  simp [unpanic, h, flagByte]

/-- The end of a panic, with the holders it leaves. -/
def panicEnded (l : Fin 4) (h : Holders) (x : State) : State := { x with
  link := { x.link with panic := false, panicLink := some l }, tone := { x.tone with holders := h } }

theorem unpanic_active {l : Fin 4} (h : x.link.panic = true) : unpanic l x =
    answer l .ok [0] (raise .panic (releasePanicHolder (onLink (fun c => { c with panic := false, panicLink := some l }) x))) := by
  have link := ((AudioOnly.refl (onLink (fun c => { c with panic := false, panicLink := some l }) x)).releaseHolder
    (·.panic) (fun h b => { h with panic := b }) false 16).link
  have off : flagByte (raise .panic (releasePanicHolder
      (onLink (fun c => { c with panic := false, panicLink := some l }) x))).link.panic = 0 :=
    congrArg (fun c : LinkCtl => flagByte c.panic) link
  simp only [unpanic, h, if_true]
  rw [off]

theorem panicEnded_eq {l : Fin 4} {h : Holders} (hh : x.tone.holders = h) :
    onTone (fun t => { t with holders := { t.holders with panic := false } })
      (onLink (fun c => { c with panic := false, panicLink := some l }) x) = panicEnded l { h with panic := false } x :=
  congrArg (fun h : Holders => panicEnded l { h with panic := false } x) hh

theorem releasePanicHolder_last {l : Fin 4} (h : x.tone.holders = ⟨false, true, false, false⟩) :
    releasePanicHolder (onLink (fun c => { c with panic := false, panicLink := some l }) x) =
      handedOver (.muteRise 16) (panicEnded l ⟨false, false, false, false⟩ x) := by
  rw [handedOver_eq, ← panicEnded_eq h]
  exact releaseHolder_last (x := onLink _ x) 16 (congrArg (·.panic) h) (by rw [onLink_tone, h]; rfl)

theorem releasePanicHolder_more {l : Fin 4} {a b c : Bool} (h : x.tone.holders = ⟨a, true, b, c⟩) (more : (a || b || c) = true) :
    releasePanicHolder (onLink (fun c => { c with panic := false, panicLink := some l }) x) = panicEnded l ⟨a, false, b, c⟩ x := by
  rw [← panicEnded_eq h]
  exact releaseHolder_more (x := onLink _ x) 16 (congrArg (·.panic) h)
    (by rw [onLink_tone, h]; simpa [anyHolder] using more)

/-! ## SETUP_SET (R180) -/

theorem masterLevel_eq (l : Fin 4) (v : Nat) (x : State) : masterLevel l v x =
    answer l (if 32768 < v then .clamped else .ok) [] (handedOver (.gainTarget .master (min 32768 v : Nat) 16)
      { x with link := { x.link with masterLevel := min 32768 v } }) := by
  have status : okOr (decide (min 32768 v ≠ v)) = if 32768 < v then .clamped else .ok := by
    unfold okOr
    by_cases hv : 32768 < v
    · rw [if_pos hv, if_pos (by simp; omega)]
    · rw [if_neg hv, if_neg (by simp; omega)]
  rw [← status, handedOver_eq]
  rfl

/-- Settles O55: SEAT_SET by its checks in order and `takeSeat_eq`, PANIC by what it hands (`panicHanded`), the rest by cases. -/
theorem seatsAccessPanicAndSetupValues : Obligations.SeatsAccessPanicAndSetupValues := by
  unfold Obligations.SeatsAccessPanicAndSetupValues
  refine ⟨fun p s h => ⟨fun k raw => ?_, fun c t => ?_⟩, fun p s h => ?_, fun p s h => ?_, fun p s h => ?_⟩
  · intro y l seats no
    have hy : heard p 0x36 s = y := rfl
    clear_value y
    refine ⟨fun bad => request_refuses h hy (seatSet_badArg bad), ?_⟩
    intro j rate hk ht hp hq hr seat held
    subst hk
    have hs : seatOf raw = some seat := seatOf_listed ht hp hq hr
    refine ⟨fun none3 => request_refuses h hy (seatSet_last hs none3), fun some3 => ?_⟩
    have out : (linkOf (onLinkAt j (takeSeat (j.val == l.val) seat) y) l).outstanding = some ⟨0x36, false⟩ := by
      rw [linkOf_onLinkAt_keep (·.outstanding) j l (takeSeat (j.val == l.val) seat) y (fun _ => rfl), ← hy]
      exact outstanding_heard h _
    show request p 0x36 19 (seatSet p.link j.val raw) s = _
    rw [request_owner h hy, seatSet_taken hs some3]
    unfold answerTagged
    rw [show p.link = l from rfl, out]
    refine congrArg (fun z => Host.Outcome.next (onLinkAt l _ z)) (onLinkAt_congr ?_)
    exact takeSeat_eq _ _ _ _ (by simp [held])
  · intro y
    have hy : heard p 0x37 s = y := rfl
    clear_value y
    refine ⟨fun bad => ?_, fun h1 h18 h3 => ?_⟩
    · have row : accessSet p.link c t y = refuse p.link .badArg y := if_pos bad
      exact request_refuses h hy row
    · have row : accessSet p.link c t y = answer p.link .ok ((y.link.access.set c t).map byte)
        { y with link := { y.link with access := y.link.access.set c t } } := if_neg (by omega)
      exact request_answers h hy row (outstanding_of_links rfl _)
  · intro y flagged z
    have hy : heard p 0x38 s = y := rfl
    have pres : present y = present (prelude s) := hy ▸ present_heard p 0x38 s
    clear_value y
    refine ⟨request_answers h hy (panic_eq p.link y) ?_, fun hp => panicHanded_present (pres.trans hp), fun hp four => ?_⟩
    · refine (outstanding_raise ..).trans ?_
      exact outstanding_of_links (x := y) (congrArg (·.links) (panicHanded_link p.link y)) _
    · rw [show z = _ from panicHanded_lost (pres.trans hp)]
      cases hh : y.tone.holders.panic
      · rw [if_neg (by decide)]
        obtain ⟨empty, changes, chain, mute⟩ := takeCutAll_four
          (x := onTone (fun t => { t with mute := muteFallTo true t.mute }) (panicked p.link y)) four
        refine ⟨empty, changes, chain, fun silent => ?_, fun _ sounds => ?_⟩
        · exact mute.trans (if_pos (silent.resolve_left (by simp)))
        · exact mute.trans (if_neg fun rest => sounds.elim (· rest.1) (· rest.2))
      · rw [if_pos rfl]
        obtain ⟨empty, changes, chain, mute⟩ := takeCutAll_four (x := panicked p.link y) four
        exact ⟨empty, changes, chain, fun _ => mute, fun new => by cases new⟩
  · intro y ended ends
    have hy : heard p 0x2D s = y := rfl
    clear_value y
    refine ⟨fun idle => request_fills h hy (unpanic_idle idle) rfl, fun active only => ?_, fun a b c active holders more => ?_⟩
    · have row := unpanic_active (l := p.link) active
      rw [releasePanicHolder_last only] at row
      refine request_answers h hy row ?_
      refine (outstanding_raise ..).trans (outstanding_of_links ?_ _)
      rw [handedOver_eq]
      exact congrArg (·.links) ((AudioOnly.refl _).hand _).link
    · have row := unpanic_active (l := p.link) active
      rw [releasePanicHolder_more holders more] at row
      refine request_answers h hy row ?_
      exact (outstanding_raise ..).trans (outstanding_of_links rfl _)
  · intro y
    have hy : heard p 0x34 s = y := rfl
    clear_value y
    refine ⟨fun v => ?_, fun n k hn hk => ?_, fun n k bad => ?_⟩
    · refine request_answers h hy (masterLevel_eq ..) (outstanding_of_links ?_ _)
      rw [handedOver_eq]
      exact congrArg (·.links) ((AudioOnly.refl _).hand _).link
    · exact request_answers h hy (if_pos ⟨hn, hk⟩) rfl
    · exact request_refuses h hy (if_neg (by omega))

end Sys2Proof.Frame

end

section
/-! The edits of the buffer (R80 to R83): what a row refuses, what a taken edit leaves; PRESET_EDIT and AMP_DATA. The curve of
a map entry over an empty range refutes the statement on CONTROL and SET_PARAM. -/

namespace Sys2Proof.Frame

open Sys2Proof Sys2Proof.Machine

variable {p : Pkt} {cls kind expected : Nat} {s x y z : State} {r : Record} {st : Status} {c : List Byte}
  {body : State → State} {owner : Record → State → State}

/-- Refutes O56: over a range whose ends are the wrong way round, which the statement admits, a value beyond both is clamped
to the lower end and not, as the statement says, to the upper one. -/
theorem not_controlsAndParameterValues : ¬ Obligations.ControlsAndParameterValues := by
  unfold Obligations.ControlsAndParameterValues
  rintro ⟨curve, -⟩
  have clamped := curve (List.replicate 9 5) 0 3 2 (by decide) (by decide)
  revert clamped
  decide

/-! ## The rows of edits (R80) -/

/-- An edit that names another preset number is STALE. -/
theorem edit_stale (h : Ready p cls s) (hy : heard p kind s = y) (hs : presetOf expected ≠ (prelude s).scene.buffer.preset) :
    edit p kind cls expected body s = .next (filled p kind .stale [] y) := by
  subst hy
  have stale : presetOf expected ≠ (heard p kind s).scene.buffer.preset := by rwa [heard, onLinkAt_scene]
  simp only [edit, outside_live h.live, dispatch_ready h, if_pos stale]
  rw [refuse, answer_heard h _ _ _ _ rfl]

/-- The state that the body of an edit sees has the buffer's record. -/
theorem record_heard (h : EditReady p cls expected r s) (hy : heard p kind s = y) :
    y.scene.buffer.record = some r := by
  rw [← hy, heard, onLinkAt_scene, h.record]

theorem withRecord_some {l : Fin 4} (h : y.scene.buffer.record = some r) : withRecord l owner y = owner r y := by
  simp only [withRecord, h]

/-- An edit whose body answers a state that keeps the link's request outstanding. -/
theorem edit_answers (h : EditReady p cls expected r s) (hy : heard p kind s = y) (hb : body y = answer p.link st c z)
    (hz : (linkOf z p.link).outstanding = (linkOf y p.link).outstanding) :
    edit p kind cls expected body s = .next (filled p kind st c z) := by
  subst hy
  rw [edit_ready h, hb, answer_heard h.toReady kind st c z hz]

/-- An edit whose body refuses. -/
theorem edit_refuses (h : EditReady p cls expected r s) (hy : heard p kind s = y) (hb : body y = refuse p.link st y) :
    edit p kind cls expected body s = .next (filled p kind st [] y) := edit_answers h hy hb rfl

/-- An edit of the record's fields alone. -/
theorem takenEdit_onRecord (h : y.scene.buffer.record = some r) (f : Record → Record) :
    takenEdit (onRecord f y) = edited (f r) y := by
  unfold takenEdit onRecord onBuffer edited
  simp only [onScene, h]
  rfl

theorem takenEdit_onSlotAt (h : y.scene.buffer.record = some r) (k : Nat) (f : SlotRec → SlotRec) :
    takenEdit (onSlotAt k f y) = edited { r with chain := modAt r.chain k f } y := takenEdit_onRecord h _

theorem takenEdit_onSceneAt (h : y.scene.buffer.record = some r) (k : Nat) (f : Scene → Scene) :
    takenEdit (onSceneAt k f y) = edited { r with scenes := modAt r.scenes k f } y := takenEdit_onRecord h _

theorem modAt_some {α : Type} {l : List α} {k : Nat} {a : α} (h : l[k]? = some a) (f : α → α) : modAt l k f = l.set k (f a) := by
  simp only [modAt, h]

theorem clampNat_ite {lo hi : Nat} (h : lo ≤ hi) (v : Nat) :
    clampNat lo hi v = if v < lo then lo else if hi < v then hi else v := by
  unfold clampNat
  split
  · omega
  · split <;> omega

theorem clampInt_ite {lo hi : Int} (h : lo ≤ hi) (v : Int) :
    clampInt lo hi v = if v < lo then lo else if hi < v then hi else v := by
  unfold clampInt
  split
  · omega
  · split <;> omega

/-! ## PRESET_EDIT and AMP_DATA (R83) -/

theorem takeField_eq (h : y.scene.buffer.record = some r) (l : Fin 4) (clamped : Bool) (f : Record → Record) :
    takeField l clamped f y = answer l (okOr clamped) [] (edited (f r) y) := by
  rw [takeField, takenEdit_onRecord h]

theorem isAmp_iff {pos : Nat} : isAmp r pos = true ↔ ∃ x, r.chain[pos]? = some x ∧ x.stype = .amp := by
  simp [isAmp, Option.any_eq_true]

/-- A field within the range of two's complement keeps its value. -/
theorem wrapInt_of_within {w : Nat} {v : Int} (lo : -(2 ^ (w - 1) : Int) ≤ v) (hi : v < 2 ^ (w - 1)) (hw : 0 < w) :
    wrapInt w v = v := by
  have bound : (2 : Int) ^ w = 2 * 2 ^ (w - 1) := by
    conv_lhs => rw [show w = (w - 1) + 1 by omega, pow_succ]
    ring
  unfold wrapInt
  rw [BitVec.toInt_ofInt]
  apply Int.bmod_eq_of_le_mul_two <;> push_cast <;> omega

/-- A run written over a table, point by point. -/
theorem getElem?_setRun {start : Nat} {pts table : List Int} (h : start + pts.length ≤ table.length) (n : Nat) :
    (setRun start pts table)[n]? = if start ≤ n ∧ n < start + pts.length then pts[n - start]? else table[n]? := by
  unfold setRun
  have front : (table.take start).length = start := by rw [List.length_take]; omega
  rcases Nat.lt_or_ge n start with before | after
  · rw [if_neg (by omega), List.append_assoc, List.getElem?_append_left (by omega), List.getElem?_take_of_lt before]
  · rw [List.append_assoc, List.getElem?_append_right (by omega), front]
    rcases Nat.lt_or_ge (n - start) pts.length with inside | beyond
    · rw [if_pos (by omega), List.getElem?_append_left inside]
    · rw [if_neg (by omega), List.getElem?_append_right beyond, List.getElem?_drop]
      congr 1
      omega

theorem length_setRun {start : Nat} {pts table : List Int} (h : start + pts.length ≤ table.length) :
    (setRun start pts table).length = table.length := by
  simp only [setRun, List.length_append, List.length_take, List.length_drop]
  omega

theorem takeSlotData_eq (h : y.scene.buffer.record = some r) {pos : Nat} {a : SlotRec} (ha : r.chain[pos]? = some a)
    (hd : detachedAt y pos = false) (l : Fin 4) (f : SlotRec → SlotRec) :
    takeSlotData l pos f y = answer l .ok [] (edited { r with chain := r.chain.set pos (f a) } y) := by
  rw [takeSlotData, hd, takenEdit_onSlotAt h, modAt_some ha]
  rfl

/-- Settles O58: each field and each run is a taken edit of the record. -/
theorem presetFieldsAndAmpData : Obligations.PresetFieldsAndAmpData := by
  unfold Obligations.PresetFieldsAndAmpData
  intro p expected v name pos start f g pts b0 b1 b2 a1 a2 s nameC out in_ tempo run tone
  refine ⟨fun h hs => ⟨?_, ?_⟩, fun r h => ⟨?_, ?_⟩⟩
  · have stale := fun body : State → State => edit_stale (body := body) h (kind := 0x19) rfl hs
    intro c hc
    simp only [List.mem_cons, List.not_mem_nil, or_false] at hc
    rcases hc with rfl | rfl | rfl | rfl <;> exact stale _
  · have stale := fun body : State → State => edit_stale (body := body) h (kind := 0x1A) rfl hs
    intro c hc
    simp only [List.mem_cons, List.not_mem_nil, or_false] at hc
    rcases hc with rfl | rfl <;> exact stale _
  · intro y fade bpm re
    have hy : heard p 0x19 s = y := rfl
    clear_value y
    have hr := record_heard h hy
    have hfade : clampNat 1 64 v = fade := clampNat_ite (by decide) v
    have hbpm : clampNat 300 3000 v = bpm := clampNat_ite (by decide) v
    have taken : ∀ (body : State → State) (clamped : Bool) (f : Record → Record), body y = takeField p.link clamped f y →
        edit p 0x19 8 expected body s = .next (filled p 0x19 (okOr clamped) [] (edited (f r) y)) := fun body clamped f hb =>
      edit_answers h hy (hb.trans (takeField_eq hr ..)) rfl
    refine ⟨fun legal => ?_, fun illegal => ?_, ?_, ?_, fun absent => ?_, fun given => ?_⟩
    · exact taken (presetName p.link name) false (fun r => { r with name := nameOf name }) (if_pos legal)
    · exact edit_refuses h hy (if_neg (by rw [illegal]; decide))
    · rw [← hfade]
      exact taken _ _ _ rfl
    · rw [← hfade]
      exact taken _ _ _ rfl
    · exact taken (presetTempoField p.link v) false (fun r => { r with tempo := none }) (if_pos absent)
    · rw [← hbpm]
      exact taken (presetTempoField p.link v) _ (fun r => { r with tempo := some (clampNat 300 3000 v) }) (if_neg given)
  · intro y re amp
    have hy : heard p 0x1A s = y := rfl
    clear_value y
    have hr := record_heard h hy
    have refuses : ∀ (owner : Record → State → State) (st : Status), owner r y = refuse p.link st y →
        edit p 0x1A 8 expected (withRecord p.link owner) s = .next (filled p 0x1A st [] y) := fun owner st hb =>
      edit_refuses h hy ((withRecord_some hr).trans hb)
    have takes : ∀ (owner : Record → State → State) (z : State), owner r y = answer p.link .ok [] z →
        (linkOf z p.link).outstanding = (linkOf y p.link).outstanding →
        edit p 0x1A 8 expected (withRecord p.link owner) s = .next (filled p 0x1A .ok [] z) := fun owner z hb ho =>
      edit_answers h hy ((withRecord_some hr).trans hb) ho
    have detached : ∀ f, detachedAt y pos = true → takeSlotData p.link pos f y = refuse p.link .detached y := fun f hd =>
      if_pos hd
    refine ⟨fun bad => ?_, fun isamp h1 h33 hd => ?_, fun a ha hamp h1 h33 h33t hq hd => ?_, fun bad => ?_,
      fun isamp hf hg hd => ?_, fun a ha hamp hf hg hd hq => ?_⟩
    · refine refuses _ _ (if_neg fun ok => ?_)
      rw [isAmp_iff] at ok
      rcases bad with no | short | long
      · exact no ok.1
      · omega
      · omega
    · exact refuses _ _ ((if_pos ⟨isAmp_iff.2 isamp, h1, h33⟩).trans (detached _ hd))
    · have same : pts.map (wrapInt 16) = pts := (List.map_congr_left fun q hq' =>
        wrapInt_of_within (w := 16) (by have := hq q hq'; norm_num; omega) (by have := hq q hq'; norm_num; omega)
          (by decide)).trans (List.map_id _)
      refine ⟨setRun start pts a.table, ?_, (length_setRun (by omega)).trans h33t, getElem?_setRun (by omega)⟩
      refine takes _ _ ((if_pos ⟨isAmp_iff.2 ⟨a, ha, hamp⟩, h1, h33⟩).trans ?_) rfl
      rw [same]
      exact takeSlotData_eq hr ha hd _ _
    · refine refuses _ _ (if_neg fun ok => ?_)
      rw [isAmp_iff] at ok
      rcases bad with no | far | far
      · exact no ok.1
      · omega
      · omega
    · exact refuses _ _ ((if_pos ⟨isAmp_iff.2 isamp, hf, hg⟩).trans (detached _ hd))
    · have same : ∀ q ∈ [b0, b1, b2, a1, a2], wrapInt 32 q = q := fun q hq' =>
        wrapInt_of_within (w := 32) (by have := hq q hq'; norm_num; omega) (by have := hq q hq'; norm_num; omega) (by decide)
      intro amp'
      refine takes _ _ ((if_pos ⟨isAmp_iff.2 ⟨a, ha, hamp⟩, hf, hg⟩).trans ?_) rfl
      rw [same b0 (by simp), same b1 (by simp), same b2 (by simp), same a1 (by simp), same a2 (by simp)]
      exact takeSlotData_eq hr ha hd _ _

end Sys2Proof.Frame

end

section
/-! Effective values after an edit (R62), and the seven operations of SCENE_EDIT (R82). -/

namespace Sys2Proof.Frame

open Sys2Proof Sys2Proof.Machine

variable {p : Pkt} {expected : Nat} {s x y z : State} {r r' : Record} {t : Target} {k : Nat}

/-! ## What is handed on keeps the links' requests -/

theorem outstanding_satPush (cls : Mark) (i g v : Nat) (z : State) (l : Fin 4) :
    (linkOf (satPush cls i g v z) l).outstanding = (linkOf z l).outstanding := by
  rw [← pushed_eq]
  unfold pushed
  dsimp only
  split
  · exact (outstanding_raise ..).trans (outstanding_of_links rfl _)
  · exact outstanding_of_links rfl _

theorem outstanding_handed (t : Target) (v : Int) (z : State) (l : Fin 4) :
    (linkOf (handed t v z) l).outstanding = (linkOf z l).outstanding := by
  have change : ∀ (c : Change) (x : State), x.link = z.link →
      (linkOf (hand c x) l).outstanding = (linkOf z l).outstanding := fun c x hx =>
    (((AudioOnly.refl x).hand c).outstanding l).trans (outstanding_of_link hx l)
  rw [handed_eq]
  cases t with
  | param q i =>
    simp only [handValue]
    split
    · exact change _ _ rfl
    · rfl
  | bypass q =>
    simp only [handValue]
    split
    · exact change _ _ rfl
    · rfl
  | level =>
    simp only [handValue, levelChanged]
    split
    · exact change _ _ rfl
    · exact change _ _ rfl
    · rfl
    · exact change _ _ rfl
    · exact change _ _ rfl
  | sat i g => exact outstanding_satPush _ _ _ _ _ _

theorem outstanding_handedNew (t : Target) (before after : Option Int) (z : State) (l : Fin 4) :
    (linkOf (handedNew t before after z) l).outstanding = (linkOf z l).outstanding := by
  unfold handedNew
  split
  · split
    · rfl
    · exact outstanding_handed ..
  · rfl

/-! ## Effective values (R62) -/

theorem effectiveIn_undriven {cur : Nat} {d : List Int} (h : r.map.any (·.target == t) = false) :
    effectiveIn r cur d t = undriven r cur t := by
  have free : firstIdx (fun e : MapEntry => e.target == t) r.map = none :=
    firstIdx_eq_none.2 fun e he => List.any_eq_false.1 h e he |> Bool.eq_false_iff.2
  simp only [effectiveIn, free, undriven] <;> rfl

/-- A driven target has its effective value of the map and the driven records alone. -/
theorem effectiveIn_driven {cur : Nat} {d : List Int} (h : r.map.any (·.target == t) = true) (hm : r'.map = r.map) :
    effectiveIn r' cur d t = effectiveIn r cur d t := by
  have taken : ∃ k, firstIdx (fun e : MapEntry => e.target == t) r.map = some k := by
    rw [← Option.isSome_iff_exists, Option.isSome_iff_ne_none]
    intro free
    obtain ⟨e, he, hit⟩ := List.any_eq_true.1 h
    rw [firstIdx_eq_none.1 free e he] at hit
    cases hit
  obtain ⟨k, hk⟩ := taken
  simp only [effectiveIn, hm, hk]

theorem isDriven_some (h : y.scene.buffer.record = some r) : isDriven y t = r.map.any (·.target == t) := by
  simp only [isDriven, h, Option.map_some, Option.getD_some]

theorem isOverridden_some (h : y.scene.buffer.record = some r) :
    isOverridden y t = (overrideOf (sceneOf r y.scene.buffer.scene) t).isSome := by
  simp only [isOverridden, h, Option.map_some, Option.getD_some]

theorem effective_some (h : y.scene.buffer.record = some r) :
    effective y t = effectiveIn r y.scene.buffer.scene y.scene.driven t := by
  simp only [effective, h]

theorem effective_edited : effective (edited r y) t = effectiveIn r y.scene.buffer.scene y.scene.driven t := rfl

/-- The effective value that an edit leaves is handed where it is new (R62). -/
theorem handChanged_eq (old : State) (t : Target) (z : State) :
    handChanged old t z = handedNew t (effective old t) (effective z t) z := by
  unfold handChanged handedNew
  cases effective z t with
  | none => rfl
  | some v => simp only [handed_eq]

/-- An edit that leaves the map alone hands no driven value. -/
theorem handChanged_edited (h : y.scene.buffer.record = some r) (hm : r'.map = r.map) (t : Target) :
    handChanged y t (edited r' y) = if isDriven y t = false then
      handedNew t (undriven r y.scene.buffer.scene t) (undriven r' y.scene.buffer.scene t) (edited r' y) else edited r' y := by
  rw [handChanged_eq, effective_edited, effective_some h, isDriven_some h]
  cases hd : r.map.any (·.target == t)
  · rw [if_pos rfl, effectiveIn_undriven hd, effectiveIn_undriven (by rw [hm, hd])]
  · rw [if_neg (by decide), effectiveIn_driven hd hm]
    unfold handedNew
    split
    · next ha => rw [if_pos ha]
    · rfl

/-! ## Ranges (R59) -/

theorem paramSpecs_ordered (ty : SlotType) (c : LengthClass) : ∀ q ∈ paramSpecs ty c, q.lo ≤ q.hi := by
  cases ty <;> cases c <;> decide

theorem targetRange_ordered {chain : List SlotRec} {lo hi : Int} (h : targetRange chain t = some (lo, hi)) : lo ≤ hi := by
  cases t with
  | param q i =>
    obtain ⟨spec, hs, e⟩ := Option.map_eq_some_iff.1 h
    have listed : spec.lo ≤ spec.hi := by
      unfold chainParam at hs
      split at hs
      · exact paramSpecs_ordered _ _ _ (List.mem_of_getElem? hs)
      · cases hs
    obtain ⟨rfl, rfl⟩ := Prod.mk.injEq .. ▸ e
    exact listed
  | bypass q =>
    simp only [targetRange] at h
    split at h
    · cases h
      decide
    · cases h
  | level =>
    cases h
    decide
  | sat i g =>
    simp only [targetRange] at h
    split at h
    · cases h
      decide
    · cases h

/-! ## Overrides -/

theorem sceneOf_modAt {f : Scene → Scene} (hk : k < r.scenes.length) :
    sceneOf { r with scenes := modAt r.scenes k f } k = f (sceneOf r k) := by
  simp [sceneOf, List.getD_eq_getElem?_getD, getElem?_modAt, List.getElem?_eq_getElem hk]

theorem overrideOf_isNone {c : Scene} : overrideOf c t = none ↔ c.overrides.any (·.target == t) = false := by
  simp [overrideOf, List.any_eq_false]

theorem overrideOf_setOverride (c : Scene) (t : Target) (v : Int) : overrideOf (setOverride t v c) t = some v := by
  unfold setOverride
  cases h : c.overrides.any (·.target == t)
  · have absent : c.overrides.find? (·.target == t) = none := by
      rw [List.find?_eq_none]
      exact fun o ho => List.any_eq_false.1 h o ho
    simp [overrideOf, List.find?_append, absent]
  · obtain ⟨o, ho⟩ : ∃ o, c.overrides.find? (·.target == t) = some o := by
      rw [← Option.isSome_iff_exists, List.find?_isSome]
      exact List.any_eq_true.1 h
    have hit : o.target = t := by simpa using List.find?_some ho
    have keeps : ((fun o : Override => o.target == t) ∘ fun o => if o.target = t then { o with value := v } else o) =
        fun o => o.target == t := by
      funext o
      by_cases ht : o.target = t <;> simp [ht]
    simp only [overrideOf, if_true, List.find?_map, keeps, ho, Option.map_some, hit]

theorem overrideOf_filter (c : Scene) (t : Target) :
    overrideOf { c with overrides := c.overrides.filter fun o => o.target != t } t = none := by
  rw [overrideOf_isNone, List.any_eq_false]
  intro o ho
  simpa using (List.mem_filter.1 ho).2

/-! ## SCENE_EDIT (R82) -/

/-- A taken change of scene `k` that affects target `t`: for the current scene its effective value is handed where no entry
drives it. -/
theorem takeScene_eq (h : y.scene.buffer.record = some r) (k : Nat) (f : Scene → Scene) (t : Target) :
    let z := edited { r with scenes := modAt r.scenes k f } y
    let cur := y.scene.buffer.scene
    takeScene k f (some t) y = if k = cur ∧ isDriven y t = false then
      handedNew t (undriven r cur t) (undriven { r with scenes := modAt r.scenes k f } cur t) z else z := by
  intro z cur
  simp only [takeScene, takenEdit_onSceneAt h]
  by_cases hk : k = cur
  · have changed := handChanged_edited (r' := { r with scenes := modAt r.scenes k f }) h rfl t
    rw [if_pos hk, changed]
    by_cases hd : isDriven y t = false
    · rw [if_pos hd, if_pos ⟨hk, hd⟩]
    · rw [if_neg hd, if_neg fun both => hd both.2]
  · rw [if_neg hk, if_neg fun both => hk both.1]

/-- The values before and after count on the current scene alone. -/
theorem takeScene_of (h : y.scene.buffer.record = some r) (f : Scene → Scene) (t : Target)
    {before after : Option Int}
    (hb : k = y.scene.buffer.scene → undriven r k t = before)
    (ha : k = y.scene.buffer.scene → undriven { r with scenes := modAt r.scenes k f } k t = after) :
    takeScene k f (some t) y = if k = y.scene.buffer.scene ∧ isDriven y t = false then
      handedNew t before after (edited { r with scenes := modAt r.scenes k f } y)
    else edited { r with scenes := modAt r.scenes k f } y := by
  rw [takeScene_eq h]
  by_cases hc : k = y.scene.buffer.scene
  · rw [← hb hc, ← ha hc, ← hc]
  · rw [if_neg fun both => hc both.1, if_neg fun both => hc both.1]

theorem undriven_override {cur : Nat} {v : Int} (h : overrideOf (sceneOf r cur) t = some v) :
    undriven r cur t = some (overrideValue t v) := by simp only [undriven, h]

theorem undriven_base {cur : Nat} (h : overrideOf (sceneOf r cur) t = none) : undriven r cur t = baseValue r cur t := by
  simp only [undriven, h]

theorem overrideTarget_none {raw : RawTarget}
    (h : ∀ t, targetOf raw = some t → t = .level ∨ targetRange r.chain t = none) : overrideTarget r raw = none := by
  unfold overrideTarget
  cases ht : targetOf raw with
  | none => rfl
  | some t =>
    have out := h t ht
    cases t with
    | level => rfl
    | param q i => simp [out.resolve_left (by simp)]
    | bypass q => simp [out.resolve_left (by simp)]
    | sat i g => simp [out.resolve_left (by simp)]

theorem overrideTarget_some {raw : RawTarget} {g : Int × Int} (ht : targetOf raw = some t) (hl : t ≠ .level)
    (hg : targetRange r.chain t = some g) : overrideTarget r raw = some (t, g) := by
  unfold overrideTarget
  rw [ht]
  cases t with
  | level => exact absurd rfl hl
  | param q i => simp [hg]
  | bypass q => simp [hg]
  | sat i g => simp [hg]

/-- Two changes of a scene that agree on it. -/
theorem modAt_scene {f g : Scene → Scene} (h : f (sceneOf r k) = g (sceneOf r k)) : modAt r.scenes k f = modAt r.scenes k g :=
  ShowClock.modAt_congr fun a ha => by
    have value : sceneOf r k = a := by rw [sceneOf, List.getD_eq_getElem?_getD, ha, Option.getD_some]
    rwa [value] at h

theorem setOverride_new {c : Scene} (h : overrideOf c t = none) (w : Int) :
    setOverride t w c = { c with overrides := c.overrides ++ [⟨t, w⟩] } := by
  simp [setOverride, overrideOf_isNone.1 h]

theorem setOverride_old {c : Scene} (h : overrideOf c t ≠ none) (w : Int) : setOverride t w c =
    { c with overrides := c.overrides.map fun o => if o.target = t then { o with value := w } else o } := by
  have there : c.overrides.any (·.target == t) = true := by
    rw [Ne, overrideOf_isNone, Bool.not_eq_false] at h
    exact h
  simp [setOverride, there]

/-- A taken SET_OVERRIDE, said with the change `g` that it makes to its scene. -/
theorem takeScene_setOverride (h : y.scene.buffer.record = some r) (hk : k < r.scenes.length) (w : Int) {g : Scene → Scene}
    (hg : setOverride t w (sceneOf r k) = g (sceneOf r k)) {before : Option Int}
    (hb : k = y.scene.buffer.scene → undriven r k t = before) :
    takeScene k (setOverride t w) (some t) y = if k = y.scene.buffer.scene ∧ isDriven y t = false then
      handedNew t before (some (overrideValue t w)) (edited { r with scenes := modAt r.scenes k g } y)
    else edited { r with scenes := modAt r.scenes k g } y := by
  rw [← modAt_scene hg]
  refine takeScene_of h _ _ hb fun _ => undriven_override ?_
  rw [sceneOf_modAt hk]
  exact overrideOf_setOverride ..

theorem sceneSetOverride_eq {l : Fin 4} {raw : RawTarget} {v : Nat} {lo hi : Int} (ht : targetOf raw = some t)
    (hl : t ≠ .level) (hg : targetRange r.chain t = some (lo, hi)) :
    let w0 : Int := if lo < 0 then signed16 v else v
    let w := if w0 < lo then lo else if hi < w0 then hi else w0
    sceneSetOverride l k raw v r y =
      if targetDetached y t then refuse l .detached y
      else if overrideOf (sceneOf r k) t = none ∧ 32 ≤ (sceneOf r k).overrides.length then refuse l .full y
      else answer l (okOr (decide (w ≠ w0))) [] (takeScene k (setOverride t w) (some t) y) := by
  simp only [sceneSetOverride, overrideTarget_some ht hl hg, clampInt_ite (targetRange_ordered hg), overrideOf_isNone]
  rfl

/-- Settles O57: each operation is a taken change of one scene (`takeScene_of`) with the values before and after it. -/
theorem sceneEditsChangeOneScene : Obligations.SceneEditsChangeOneScene := by
  unfold Obligations.SceneEditsChangeOneScene
  intro p expected k s y cur
  have hy : heard p 0x18 s = y := rfl
  clear_value y
  refine ⟨fun h hs raw v name c hc => ?_, fun r h => ?_⟩
  · have stale := fun body : State → State => edit_stale (body := body) h hy hs
    simp only [List.mem_cons, List.not_mem_nil, or_false] at hc
    rcases hc with rfl | rfl | rfl | rfl | rfl | rfl | rfl <;> exact stale _
  intro scene re handedHere
  have hr := record_heard h hy
  have refuses : ∀ (owner : Record → State → State) (st : Status), owner r y = refuse p.link st y →
      edit p 0x18 8 expected (withRecord p.link owner) s = .next (filled p 0x18 st [] y) := fun owner st hb =>
    edit_refuses h hy ((withRecord_some hr).trans hb)
  have answers : ∀ (owner : Record → State → State) (st : Status) (z : State), owner r y = answer p.link st [] z →
      (linkOf z p.link).outstanding = (linkOf y p.link).outstanding →
      edit p 0x18 8 expected (withRecord p.link owner) s = .next (filled p 0x18 st [] z) := fun owner st z hb ho =>
    edit_answers h hy ((withRecord_some hr).trans hb) ho
  have handedKeeps : ∀ t before after f, (linkOf (handedHere t before after (scene f)) p.link).outstanding =
      (linkOf y p.link).outstanding := by
    intro t before after f
    show (linkOf (if _ then _ else _) p.link).outstanding = _
    split
    · exact outstanding_handedNew ..
    · rfl
  refine ⟨fun far raw v name c hc => ?_, fun hk => ?_, fun full => ?_, fun room far => ?_, fun c room hc => ?_⟩
  · have gone := fun owner : Record → State → State => refuses
      (fun r x => if r.scenes.length ≤ k then refuse p.link .badArg x else owner r x) .badArg (if_pos far)
    simp only [List.mem_cons, List.not_mem_nil, or_false] at hc
    rcases hc with rfl | rfl | rfl | rfl | rfl | rfl <;> exact gone _
  · have sceneRefuses : ∀ (owner : Record → State → State) (st : Status), owner r y = refuse p.link st y →
        sceneEdit p expected k owner s = .next (filled p 0x18 st [] y) := fun owner st hb =>
      refuses (fun r x => if r.scenes.length ≤ k then refuse p.link .badArg x else owner r x) st
        ((if_neg (Nat.not_le.2 hk)).trans hb)
    have sceneAnswers : ∀ (owner : Record → State → State) (st : Status) (z : State), owner r y = answer p.link st [] z →
        (linkOf z p.link).outstanding = (linkOf y p.link).outstanding →
        sceneEdit p expected k owner s = .next (filled p 0x18 st [] z) := fun owner st z hb ho =>
      answers (fun r x => if r.scenes.length ≤ k then refuse p.link .badArg x else owner r x) st z
        ((if_neg (Nat.not_le.2 hk)).trans hb) ho
    have here : ∀ f : Scene → Scene, sceneOf { r with scenes := modAt r.scenes k f } k = f (sceneOf r k) := fun f =>
      sceneOf_modAt hk
    refine ⟨fun v => ?_, fun v => ?_, fun name legal => ?_, fun name illegal => ?_, fun raw v out => ?_,
      fun raw v t lo hi ht hl hg => ?_, fun raw out => ?_, fun raw t o ht ho => ?_, fun last => ?_, fun more other => ?_⟩
    · intro w level
      have hw : min 32768 v = w := by
        show min 32768 v = if 32768 < v then 32768 else v
        split <;> omega
      refine sceneAnswers _ _ _ ?_ (handedKeeps ..)
      show answer _ (okOr (decide (min 32768 v ≠ v))) _ _ = _
      rw [hw]
      refine congrArg _ (takeScene_of hr _ _ (fun hc => ?_) fun hc => ?_)
      · rw [undriven_base (hc ▸ level)]
        rfl
      · subst hc
        rw [undriven_base]
        · show some ((sceneOf _ _).level : Int) = _
          rw [here]
        · rw [here]
          exact level
    · intro w
      have hw : clampNat 1 128 v = w := clampNat_ite (by decide) v
      refine sceneAnswers _ _ _ ?_ rfl
      show answer _ (okOr (decide (clampNat 1 128 v ≠ v))) _ _ = _
      rw [hw]
      exact congrArg _ (takenEdit_onSceneAt hr _ _)
    · refine sceneAnswers _ _ _ ((if_pos legal).trans ?_) rfl
      exact congrArg _ (takenEdit_onSceneAt hr _ _)
    · exact sceneRefuses _ _ (if_neg (by rw [illegal]; decide))
    · refine sceneRefuses _ _ ?_
      show sceneSetOverride _ _ _ _ _ _ = _
      rw [sceneSetOverride, overrideTarget_none out]
    · intro w0 w st old
      have row : sceneSetOverride p.link k raw v r y = _ := sceneSetOverride_eq ht hl hg
      refine ⟨fun det => ?_, fun det fresh full => ?_, fun det fresh room => ?_, fun o det there => ?_⟩
      · exact sceneRefuses _ _ (row.trans (if_pos det))
      · exact sceneRefuses _ _ (row.trans ((if_neg (by simp [det])).trans (if_pos ⟨fresh, full⟩)))
      · refine sceneAnswers _ _ _ (row.trans ((if_neg (by simp [det])).trans ((if_neg (by omega)).trans ?_))) (handedKeeps ..)
        exact congrArg _ (takeScene_setOverride hr hk w (setOverride_new fresh w) fun hc => congrArg (undriven r · t) hc)
      · have kept : overrideOf (sceneOf r k) t ≠ none := by
          rw [show overrideOf (sceneOf r k) t = some o from there]
          exact Option.some_ne_none o
        refine sceneAnswers _ _ _ (row.trans ((if_neg (by simp [det])).trans ((if_neg fun c => kept c.1).trans ?_)))
          (handedKeeps ..)
        exact congrArg _ (takeScene_setOverride hr hk w (setOverride_old kept w) fun _ => undriven_override there)
    · refine sceneRefuses _ _ ?_
      show sceneRemoveOverride _ _ _ _ _ = _
      unfold sceneRemoveOverride
      cases ht : targetOf raw with
      | none => rfl
      | some t => exact if_pos (by rw [out t ht]; rfl)
    · have row : sceneRemoveOverride p.link k raw r y = if targetDetached y t then refuse p.link .detached y else
          answer p.link .ok [] (takeScene k (fun c => { c with overrides := c.overrides.filter (·.target != t) }) (some t) y) := by
        simp only [sceneRemoveOverride, ht, ho, Option.isNone_some, Bool.false_eq_true, if_false]
      refine ⟨fun det => sceneRefuses _ _ (row.trans (if_pos det)), fun det => ?_⟩
      refine sceneAnswers _ _ _ (row.trans ((if_neg (by simp [det])).trans ?_)) (handedKeeps ..)
      refine congrArg _ (takeScene_of hr _ _ (fun _ => undriven_override ho) fun hc => ?_)
      rw [undriven_base (by rw [here]; exact overrideOf_filter _ _), show cur = k from hc.symm]
      cases t with
      | param q i => rfl
      | bypass q => rfl
      | level =>
        show some ((sceneOf _ _).level : Int) = _
        rw [here]
        rfl
      | sat i g => rfl
    · exact sceneRefuses _ _ (if_pos (by omega))
    · refine sceneAnswers _ _ _ ((if_neg (by omega)).trans (congrArg _ ?_)) rfl
      unfold takenEdit onBuffer edited
      simp only [onScene, hr]
      rfl
  · exact refuses _ _ (if_pos full)
  · exact refuses _ _ ((if_neg (by omega)).trans (if_pos far))
  · refine answers _ _ _ ((if_neg (by omega)).trans ((if_neg ?_).trans ?_)) rfl
    · have := (List.getElem?_eq_some_iff.1 hc).1
      omega
    · have copy : sceneOf r k = c := by rw [sceneOf, List.getD_eq_getElem?_getD, hc, Option.getD_some]
      rw [copy]
      exact congrArg _ (takenEdit_onRecord hr _)

end Sys2Proof.Frame

end

section
/-! The satellite images of the buffer (R84) and the control map (R67). -/

namespace Sys2Proof.Frame

open Sys2Proof Sys2Proof.Machine

variable {p : Pkt} {expected : Nat} {s x y z : State} {r r' : Record} {t : Target} {k n : Nat}

/-! ## Image values (R69, R84) -/

theorem find?_setReg (g v : Nat) (regs : List (Nat × Nat)) : (setReg g v regs).find? (·.1 == g) = some (g, v) := by
  induction regs with
  | nil => simp [setReg]
  | cons a rest ih =>
    obtain ⟨b, w⟩ := a
    simp only [setReg]
    split
    · simp
    · split
      · simp
      · next ne => rw [List.find?_cons_of_neg (by simpa using Ne.symm ne), ih]

theorem imageValue_setImage (i g v : Nat) : imageValue { r with images := setImage i g v r.images } i g = some (v : Int) := by
  unfold imageValue setImage
  dsimp only
  cases h : r.images.any (·.sat == i)
  · have absent : r.images.find? (·.sat == i) = none := List.find?_eq_none.2 fun e he => List.any_eq_false.1 h e he
    simp [List.find?_append, absent]
  · obtain ⟨e, he⟩ : ∃ e, r.images.find? (·.sat == i) = some e := by
      rw [← Option.isSome_iff_exists, List.find?_isSome]
      exact List.any_eq_true.1 h
    have hit : e.sat = i := by simpa using List.find?_some he
    have keeps : ((fun e : SatImage => e.sat == i) ∘ fun e => if e.sat = i then { e with regs := setReg g v e.regs } else e) =
        fun e => e.sat == i := by
      funext a
      by_cases ha : a.sat = i <;> simp [ha]
    simp only [if_true, List.find?_map, keeps, he, Option.map_some, hit, find?_setReg]

theorem imageValue_clearImage (i g : Nat) : imageValue { r with images := clearImage i g r.images } i g = none := by
  unfold imageValue
  dsimp only
  cases h : (clearImage i g r.images).find? (·.sat == i) with
  | none => rfl
  | some e =>
    have hit : e.sat = i := by simpa using List.find?_some h
    obtain ⟨a, -, ha⟩ := List.mem_map.1 (List.mem_of_mem_filter (List.mem_of_find?_eq_some h))
    have cleared : e.regs.find? (·.1 == g) = none := by
      rw [List.find?_eq_none]
      intro q hq
      by_cases hs : a.sat = i
      · rw [if_pos hs] at ha
        rw [← ha] at hq
        simpa using (List.mem_filter.1 hq).2
      · rw [if_neg hs] at ha
        exact absurd (ha ▸ hit) hs
    simp only [cleared, Option.map_none]

/-- A change of the images alone hands a register where neither entry nor override sets it. -/
theorem handChanged_images (h : y.scene.buffer.record = some r) (images : List SatImage) (i g : Nat) :
    let z := edited { r with images := images } y
    handChanged y (.sat i g) z = if isDriven y (.sat i g) = true ∨ isOverridden y (.sat i g) = true then z else
      handedNew (.sat i g) (imageValue r i g) (imageValue { r with images := images } i g) z := by
  intro z
  have changed := handChanged_edited (r' := { r with images := images }) h rfl (.sat i g)
  rw [changed, isOverridden_some h]
  cases hd : isDriven y (.sat i g)
  · rw [if_pos rfl]
    have same : ∀ ims, overrideOf (sceneOf { r with images := ims } y.scene.buffer.scene) (.sat i g) =
      overrideOf (sceneOf r y.scene.buffer.scene) (.sat i g) := fun _ => rfl
    cases ho : overrideOf (sceneOf r y.scene.buffer.scene) (.sat i g) with
    | none =>
      rw [if_neg (by simp), undriven_base ho, undriven_base ((same _).trans ho)]
      rfl
    | some o =>
      rw [if_pos (by simp), undriven_override ho, undriven_override ((same _).trans ho)]
      exact if_pos rfl
  · rw [if_neg (by decide), if_pos (by simp)]

/-! ## The control map (R67) -/

theorem setMap_eq (h : y.scene.buffer.record = some r) (m : List MapEntry) (d : List Int) :
    setMap m d y = { edited { r with map := m } y with scene := { (edited { r with map := m } y).scene with driven := d } } := by
  unfold setMap takenEdit onRecord onBuffer edited
  simp only [onScene, h]
  rfl

theorem entryOf_bad {e : RawEntry}
    (h : (∀ t, targetOf e.target = some t → targetRange r.chain t = none) ∨ 15 < e.source ∨ e.points.length ≠ 9) :
    entryOf r e = none := by
  unfold entryOf
  cases ht : targetOf e.target with
  | none => rfl
  | some t =>
    cases hg : targetRange r.chain t with
    | none => simp [hg]
    | some g =>
      have malformed : ¬ (e.source ≤ 15 ∧ e.points.length = 9) := by
        rintro ⟨small, nine⟩
        rcases h with out | far | wrong
        · rw [out t ht] at hg
          cases hg
        · omega
        · exact wrong nine
      simp only [hg, if_neg malformed]

theorem entryOf_good {e : RawEntry} {lo hi : Int} (ht : targetOf e.target = some t)
    (hg : targetRange r.chain t = some (lo, hi)) (hs : e.source ≤ 15) (h9 : e.points.length = 9) :
    let raw := e.points.map fun v => if lo < 0 then signed16 v else (v : Int)
    let pts := raw.map fun v => if v < lo then lo else if hi < v then hi else v
    entryOf r e = some (⟨e.source, t, pts⟩, decide (pts ≠ raw)) := by
  intro raw pts
  have points : raw.map (clampInt lo hi) = pts :=
    List.map_congr_left fun v _ => clampInt_ite (targetRange_ordered hg) v
  have fields : e.points.map (fieldValue (lo, hi)) = raw := rfl
  simp only [entryOf, ht, hg, if_pos (And.intro hs h9), fields, points]

theorem handed_scene (t : Target) (v : Int) (z : State) : (handed t v z).scene = z.scene := by
  have push : ∀ cls i g w, (satPush cls i g w z).scene = z.scene := by
    intro cls i g w
    rw [← pushed_eq]
    unfold pushed
    dsimp only
    split <;> rfl
  have change : ∀ (c : Change) (x : State), x.scene = z.scene → (hand c x).scene = z.scene := fun c x hx =>
    ((AudioOnly.refl x).hand c).scene.trans hx
  rw [handed_eq]
  cases t with
  | param q i =>
    simp only [handValue]
    split
    · exact change _ _ rfl
    · rfl
  | bypass q =>
    simp only [handValue]
    split
    · exact change _ _ rfl
    · rfl
  | level =>
    simp only [handValue, levelChanged]
    split
    · exact change _ _ rfl
    · exact change _ _ rfl
    · rfl
    · exact change _ _ rfl
    · exact change _ _ rfl
  | sat i g => exact push ..

theorem handedNew_scene (t : Target) (before after : Option Int) (z : State) : (handedNew t before after z).scene = z.scene := by
  unfold handedNew
  split
  · split
    · rfl
    · exact handed_scene ..
  · rfl

theorem effective_of_scene (h : x.scene = y.scene) : effective x t = effective y t := by simp only [effective, h]

/-- The only entry on a target drives it. -/
theorem effectiveIn_entry {e : MapEntry} {cur : Nat} {d : List Int} (he : r.map[n]? = some e)
    (only : ∀ j o, j ≠ n → r.map[j]? = some o → o.target ≠ e.target) :
    effectiveIn r cur d e.target = some (drivenValue e.target (d.getD n 0)) := by
  have first : firstIdx (fun o : MapEntry => o.target == e.target) r.map = some n :=
    firstIdx_eq_some.2 ⟨⟨e, he, by simp⟩, fun j hj o ho => by simpa using only j o (by omega) ho⟩
  simp only [effectiveIn, first]

theorem target_ne_of_nodup {e o : MapEntry} {j : Nat} (hm : (r.map.map (·.target)).Nodup) (he : r.map[n]? = some e)
    (hj : j ≠ n) (ho : r.map[j]? = some o) : o.target ≠ e.target := by
  intro same
  have hn : (r.map.map (·.target))[n]? = some e.target := by rw [List.getElem?_map, he]; rfl
  have hjt : (r.map.map (·.target))[j]? = some e.target := by rw [List.getElem?_map, ho, ← same]; rfl
  have bound : j < (r.map.map (·.target)).length := (List.getElem?_eq_some_iff.1 hjt).1
  exact hj ((List.getElem?_inj bound hm).1 (hjt.trans hn.symm))

/-- An entry that leaves the map or changes its target drives no longer. -/
theorem undriven_after {m : List MapEntry} {cur : Nat} {d : List Int} (h : ∀ o ∈ m, o.target ≠ t) :
    effectiveIn { r with map := m } cur d t = undriven r cur t :=
  effectiveIn_undriven (r := { r with map := m }) (List.any_eq_false.2 fun o ho => by simpa using h o ho)

theorem mem_set_cases {α : Type} {l : List α} {a o : α} (h : o ∈ l.set n a) : o = a ∨ ∃ j, j ≠ n ∧ l[j]? = some o := by
  obtain ⟨j, hj⟩ := List.getElem?_of_mem h
  by_cases hn : n = j
  · subst hn
    rw [List.getElem?_set_self'] at hj
    cases hl : l[n]? with
    | none => simp [hl] at hj
    | some b =>
      rw [hl] at hj
      cases hj
      exact .inl rfl
  · rw [List.getElem?_set_ne hn] at hj
    exact .inr ⟨j, Ne.symm hn, hj⟩

theorem addEntry_eq (h : y.scene.buffer.record = some r) (hd : y.scene.driven.length = r.map.length) {e : MapEntry}
    (fresh : ∀ o ∈ r.map, o.target ≠ e.target) :
    let v := evalEntry y.scene.controls r.chain e
    addEntry r e y = handed e.target (drivenValue e.target v) (setMap (r.map ++ [e]) (y.scene.driven ++ [v]) y) := by
  intro v
  have value : effective (setMap (r.map ++ [e]) (y.scene.driven ++ [v]) y) e.target = some (drivenValue e.target v) := by
    rw [setMap_eq h]
    refine (effectiveIn_entry (r := { r with map := r.map ++ [e] }) (n := r.map.length) (e := e) (by simp) ?_).trans ?_
    · intro j o hj ho
      refine fresh o (List.mem_of_getElem? (i := j) ?_)
      have inside : j < r.map.length := by
        have := (List.getElem?_eq_some_iff.1 ho).1
        simp at this
        omega
      rwa [List.getElem?_append_left inside] at ho
    · rw [← hd]
      simp
  simp only [addEntry, handAlways, value, handed_eq, v]

/-- A REPLACE that keeps the target: R61 decides whether the new value is handed. -/
theorem replaceEntry_same (h : y.scene.buffer.record = some r) {e : MapEntry} (hn : n < r.map.length) :
    let v := evalEntry y.scene.controls r.chain e
    let z := setMap (r.map.set n e) (y.scene.driven.set n v) y
    replaceEntry n e.target r e y =
      if drivenValue e.target v = drivenValue e.target (y.scene.driven.getD n 0) then z
      else handed e.target (drivenValue e.target v) z := by
  intro v z
  have entry : (r.map.set n e)[n]? = some e := by rw [List.getElem?_set_self hn]
  have moved : onScene (fun c => { c with driven := c.driven.set n v }) (setMap (r.map.set n e) y.scene.driven y) = z := by
    show _ = setMap _ _ y
    rw [setMap_eq h, setMap_eq h]
    rfl
  have record : (setMap (r.map.set n e) y.scene.driven y).scene.buffer.record = some { r with map := r.map.set n e } := by
    rw [setMap_eq h]
    rfl
  have controls : (setMap (r.map.set n e) y.scene.driven y).scene.controls = y.scene.controls := by
    rw [setMap_eq h]
    rfl
  have driven : (setMap (r.map.set n e) y.scene.driven y).scene.driven = y.scene.driven := by
    rw [setMap_eq h]
  rw [replaceEntry, if_pos rfl]
  simp only [driveEntry, record, entry, controls, driven, handed_eq]
  rw [← moved]

/-- A REPLACE of the target: the old one is released, the new one driven. -/
theorem replaceEntry_other (h : y.scene.buffer.record = some r) (hd : y.scene.driven.length = r.map.length)
    (hm : (r.map.map (·.target)).Nodup) {e old : MapEntry} (ho : r.map[n]? = some old)
    (ne : old.target ≠ e.target) (fresh : ∀ o ∈ r.map, o.target ≠ e.target) :
    let v := evalEntry y.scene.controls r.chain e
    replaceEntry n old.target r e y = handed e.target (drivenValue e.target v)
      (handedNew old.target (some (drivenValue old.target (y.scene.driven.getD n 0)))
        (undriven r y.scene.buffer.scene old.target) (setMap (r.map.set n e) (y.scene.driven.set n v) y)) := by
  intro v
  have inside : n < r.map.length := (List.getElem?_eq_some_iff.1 ho).1
  have before : effective y old.target = some (drivenValue old.target (y.scene.driven.getD n 0)) := by
    rw [effective_some h]
    exact effectiveIn_entry ho fun j o hj hjo => target_ne_of_nodup hm ho hj hjo
  have after : effective (setMap (r.map.set n e) (y.scene.driven.set n v) y) old.target =
      undriven r y.scene.buffer.scene old.target := by
    rw [setMap_eq h]
    refine undriven_after fun o mem => ?_
    rcases mem_set_cases mem with rfl | ⟨j, hj, hjo⟩
    · exact Ne.symm ne
    · exact target_ne_of_nodup hm ho hj hjo
  have value : effective (setMap (r.map.set n e) (y.scene.driven.set n v) y) e.target = some (drivenValue e.target v) := by
    rw [setMap_eq h]
    refine (effectiveIn_entry (r := { r with map := r.map.set n e }) (n := n) (e := e) ?_ ?_).trans ?_
    · exact List.getElem?_set_self inside
    · intro j o hj hjo
      refine fresh o (List.mem_of_getElem? (i := j) ?_)
      rwa [List.getElem?_set_ne (Ne.symm hj)] at hjo
    · simp [List.getD_eq_getElem?_getD, hd ▸ inside]
  rw [replaceEntry, if_neg ne]
  show handAlways e.target (handChanged y old.target (setMap (r.map.set n e) (y.scene.driven.set n v) y)) = _
  simp only [handAlways, handChanged_eq, effective_of_scene (handedNew_scene ..), value, before, after, handed_eq]

theorem mapRemove_eq (h : y.scene.buffer.record = some r) (hm : (r.map.map (·.target)).Nodup) {e : MapEntry}
    (he : r.map[n]? = some e) (l : Fin 4) : mapRemove l n r y = answer l .ok []
      (handedNew e.target (some (drivenValue e.target (y.scene.driven.getD n 0))) (undriven r y.scene.buffer.scene e.target)
        (setMap (r.map.eraseIdx n) (y.scene.driven.eraseIdx n) y)) := by
  have before : effective y e.target = some (drivenValue e.target (y.scene.driven.getD n 0)) := by
    rw [effective_some h]
    exact effectiveIn_entry he fun j o hj hjo => target_ne_of_nodup hm he hj hjo
  have after : effective (setMap (r.map.eraseIdx n) (y.scene.driven.eraseIdx n) y) e.target =
      undriven r y.scene.buffer.scene e.target := by
    rw [setMap_eq h]
    refine undriven_after fun o mem => ?_
    obtain ⟨j, hj, hjo⟩ := List.mem_eraseIdx_iff_getElem?.1 mem
    exact target_ne_of_nodup hm he hj hjo
  simp only [mapRemove, he, handChanged_eq, before, after]

theorem outstanding_setMap (m : List MapEntry) (d : List Int) (l : Fin 4) :
    (linkOf (setMap m d y) l).outstanding = (linkOf y l).outstanding := rfl

theorem entryRefusal_occupied {others : List MapEntry} (hd : targetDetached y t = false) (h : ∃ o ∈ others, o.target = t) :
    entryRefusal y others t = some .occupied := by
  have meets : others.any (·.target == t) = true := by simpa using h
  simp [entryRefusal, hd, meets]

theorem entryRefusal_free {others : List MapEntry} (hd : targetDetached y t = false) (h : ∀ o ∈ others, o.target ≠ t) :
    entryRefusal y others t = none := by
  have free : others.any (·.target == t) = false := by simpa using h
  simp [entryRefusal, hd, free]

theorem mapAdd_parsed {l : Fin 4} {raw : RawEntry} {e : MapEntry} {clamped : Bool} (room : r.map.length < 16)
    (he : entryOf r raw = some (e, clamped)) : mapAdd l raw r y =
      (entryRefusal y r.map e.target).elim (answer l (okOr clamped) [] (addEntry r e y)) fun st => refuse l st y := by
  rw [mapAdd, if_neg (by omega), he]
  dsimp only
  cases entryRefusal y r.map e.target <;> rfl

theorem mapReplace_parsed {l : Fin 4} {raw : RawEntry} {e old : MapEntry} {clamped : Bool} (ho : r.map[n]? = some old)
    (he : entryOf r raw = some (e, clamped)) : mapReplace l n raw r y =
      (entryRefusal y (r.map.eraseIdx n) e.target).elim (answer l (okOr clamped) [] (replaceEntry n old.target r e y))
        fun st => refuse l st y := by
  rw [mapReplace, he, ho]
  dsimp only
  cases entryRefusal y (r.map.eraseIdx n) e.target <;> rfl

/-- Settles O59: an image edit by `handChanged_images`, an entry's checks in R67's order, and what each change of the map hands
by the only entry on each target. -/
theorem imagesAndMapEntriesAreEdited : Obligations.ImagesAndMapEntriesAreEdited := by
  unfold Obligations.ImagesAndMapEntriesAreEdited
  intro p expected s
  refine ⟨fun i g v h hs c hc => ?_, fun e n h hs c hc => ?_, fun r h => ⟨fun i g v => ?_, ?_⟩⟩
  · have stale := fun body : State → State => edit_stale (body := body) h (kind := 0x1B) rfl hs
    simp only [List.mem_cons, List.not_mem_nil, or_false] at hc
    rcases hc with rfl | rfl <;> exact stale _
  · have stale := fun body : State → State => edit_stale (body := body) h (kind := 0x1C) rfl hs
    simp only [List.mem_cons, List.not_mem_nil, or_false] at hc
    rcases hc with rfl | rfl | rfl <;> exact stale _
  · intro y w z re
    have hy : heard p 0x1B s = y := rfl
    clear_value y
    have hr := record_heard h hy
    have hw : min 255 v = w := by
      show min 255 v = if 255 < v then 255 else v
      split <;> omega
    have clear : ∀ st z, imageClear p.link i g r y = answer p.link st [] z →
        (linkOf z p.link).outstanding = (linkOf y p.link).outstanding → re (.satImageClear p expected i g) st z :=
      fun st z hb ho => edit_answers h hy ((withRecord_some hr).trans hb) ho
    refine ⟨fun bad => ⟨edit_refuses h hy (if_neg (by omega)), clear _ _ (if_neg (by omega)) rfl⟩, fun hi hg =>
      ⟨?_, fun absent => clear _ _ (if_neg (by simp [absent])) rfl, fun there => ?_⟩⟩
    · have changed := handChanged_images hr (setImage i g w r.images) i g
      rw [imageValue_setImage] at changed
      have row : imageSet p.link i g v y = answer p.link (okOr (decide (w ≠ v))) []
          (if isDriven y (.sat i g) = true ∨ isOverridden y (.sat i g) = true ∨ imageValue r i g = some (w : Int) then z
            else handed (.sat i g) w z) := by
        rw [imageSet, if_pos ⟨hi, hg⟩, hw, takenEdit_onRecord hr, changed]
        refine congrArg _ ?_
        by_cases set : isDriven y (.sat i g) = true ∨ isOverridden y (.sat i g) = true
        · rw [if_pos set, if_pos (or_assoc.1 (.inl set))]
        · rw [if_neg set]
          by_cases same : imageValue r i g = some (w : Int)
          · rw [if_pos (.inr (.inr same))]
            exact if_pos same
          · rw [if_neg (by tauto)]
            exact if_neg same
      refine edit_answers h hy row ?_
      · split
        · rfl
        · exact outstanding_handed ..
    · have changed := handChanged_images hr (clearImage i g r.images) i g
      rw [imageValue_clearImage] at changed
      refine clear _ _ ((if_pos ⟨hi, hg, Option.isSome_iff_ne_none.2 there⟩).trans ?_) rfl
      rw [takenEdit_onRecord hr, changed]
      refine congrArg _ ?_
      split <;> rfl
  · intro y cur re map driven bad
    have hy : heard p 0x1C s = y := rfl
    clear_value y
    have hr := record_heard h hy
    have answers : ∀ (owner : Record → State → State) (st : Status) (z : State), owner r y = answer p.link st [] z →
        (linkOf z p.link).outstanding = (linkOf y p.link).outstanding →
        edit p 0x1C 8 expected (withRecord p.link owner) s = .next (filled p 0x1C st [] z) := fun owner st z hb ho =>
      edit_answers h hy ((withRecord_some hr).trans hb) ho
    have hmap : ∀ m d, setMap m d y = map m d := setMap_eq hr
    refine ⟨fun e full => answers _ _ _ (if_pos full) rfl, fun e room wrong => ?_, fun e n wrong => ?_, fun n far => ?_, fun hd hm =>
      ⟨fun n e he => ?_, fun e t lo hi ht hg hs h9 => ?_⟩⟩
    · refine answers _ _ _ ((if_neg (by omega)).trans ?_) rfl
      rw [entryOf_bad wrong]
      rfl
    · refine answers _ _ _ ?_ rfl
      show mapReplace _ _ _ _ _ = _
      unfold mapReplace
      rcases wrong with far | wrong
      · rw [List.getElem?_eq_none far]
        rfl
      · rw [entryOf_bad wrong]
        cases r.map[n]? <;> rfl
    · refine answers _ _ _ ?_ rfl
      show mapRemove _ _ _ _ = _
      rw [mapRemove, List.getElem?_eq_none far]
      rfl
    · rw [← hmap]
      exact answers _ _ _ (mapRemove_eq hr hm he p.link) ((outstanding_handedNew ..).trans (outstanding_setMap ..))
    · intro raw pts x st entry add
      have parsed : entryOf r e = some (entry, decide (pts ≠ raw)) := entryOf_good ht hg hs h9
      have value : evalEntry y.scene.controls r.chain entry = x := by
        show evalCurve pts _ ((targetRange r.chain t).getD (0, 0)) = x
        rw [hg]
        rfl
      have handedKeeps : ∀ m d, (linkOf (handed t (drivenValue t x) (map m d)) p.link).outstanding =
          (linkOf y p.link).outstanding := fun m d => (outstanding_handed ..).trans rfl
      refine ⟨fun room => ?_, fun n old ho => ?_⟩
      · have row : mapAdd p.link e r y = (entryRefusal y r.map t).elim (answer p.link st [] (addEntry r entry y))
          fun st => refuse p.link st y := mapAdd_parsed room parsed
        refine ⟨fun det => answers _ _ _ (row.trans ?_) rfl, fun det meets => answers _ _ _ (row.trans ?_) rfl, fun det fresh =>
          answers _ _ _ (row.trans ?_) (handedKeeps ..)⟩
        · rw [entryRefusal, if_pos det]
          rfl
        · rw [entryRefusal_occupied det meets]
          rfl
        · rw [entryRefusal_free det fresh]
          refine congrArg (answer p.link st []) ((addEntry_eq hr hd (e := entry) fresh).trans ?_)
          rw [value, hmap]
      · intro replace z
        have inside : n < r.map.length := (List.getElem?_eq_some_iff.1 ho).1
        have row : mapReplace p.link n e r y = (entryRefusal y (r.map.eraseIdx n) t).elim
          (answer p.link st [] (replaceEntry n old.target r entry y)) fun st => refuse p.link st y :=
            mapReplace_parsed ho parsed
        refine ⟨fun det => answers _ _ _ (row.trans ?_) rfl, fun det meets => answers _ _ _ (row.trans ?_) rfl, fun det same =>
          answers _ _ _ (row.trans ?_) ?_, fun det ne fresh => answers _ _ _ (row.trans ?_) ?_⟩
        · rw [entryRefusal, if_pos det]
          rfl
        · obtain ⟨j, o, hj, hjo, hit⟩ := meets
          rw [entryRefusal_occupied det ⟨o, List.mem_eraseIdx_iff_getElem?.2 ⟨j, hj, hjo⟩, hit⟩]
          rfl
        · have alone : ∀ o ∈ r.map.eraseIdx n, o.target ≠ t := fun o mem => by
            obtain ⟨j, hj, hjo⟩ := List.mem_eraseIdx_iff_getElem?.1 mem
            exact same ▸ target_ne_of_nodup hm ho hj hjo
          rw [entryRefusal_free det alone, same]
          refine congrArg (answer p.link st []) ((replaceEntry_same hr (e := entry) inside).trans ?_)
          rw [value, hmap]
        · split
          · rfl
          · exact handedKeeps ..
        · have alone : ∀ o ∈ r.map.eraseIdx n, o.target ≠ t := fun o mem => fresh o (List.mem_of_mem_eraseIdx mem)
          rw [entryRefusal_free det alone]
          refine congrArg (answer p.link st []) ((replaceEntry_other hr hd hm (e := entry) ho ne fresh).trans ?_)
          rw [value, hmap]
        · exact (outstanding_handed ..).trans (outstanding_handedNew ..)

end Sys2Proof.Frame

end

section
/-! The status requests and the contents of their replies (12.7). -/

namespace Sys2Proof.Frame

open Sys2Proof Sys2Proof.Machine

variable {p : Pkt} {s x y z : State}

/-! ## Fields of equal length -/

section Fields

variable {α : Type} {f : α → List Byte} {m : Nat}

theorem length_flatMap_const (hf : ∀ a, (f a).length = m) (l : List α) : (l.flatMap f).length = m * l.length := by
  induction l with
  | nil => rfl
  | cons a t ih => rw [List.flatMap_cons, List.length_append, hf, ih, List.length_cons, Nat.mul_succ, Nat.add_comm]

/-- The field of element `k` stands at `m * k`. -/
theorem field_flatMap (hf : ∀ a, (f a).length = m) {l : List α} {k : Nat} {a : α} (h : l[k]? = some a) (rest : List Byte) :
    ((l.flatMap f ++ rest).drop (m * k)).take m = f a := by
  induction l generalizing k with
  | nil => simp at h
  | cons b t ih =>
    rw [List.flatMap_cons, List.append_assoc]
    cases k with
    | zero =>
      cases h
      rw [Nat.mul_zero, List.drop_zero, List.take_append_of_le_length (by rw [hf]), ← hf a, List.take_length]
    | succ k =>
      rw [Nat.mul_succ, Nat.add_comm, ← List.drop_drop, show m = (f b).length from (hf b).symm, List.drop_left, hf]
      exact ih h

/-- What stands beyond a front part. -/
theorem drop_front {front : List Byte} {n : Nat} (hn : front.length = n) (rest : List Byte) (i : Nat) :
    (front ++ rest).drop (n + i) = rest.drop i := by
  rw [← hn, ← List.drop_drop, List.drop_left]

theorem drop_front_exact {front : List Byte} {n : Nat} (hn : front.length = n) (rest : List Byte) :
    (front ++ rest).drop n = rest := by rw [← hn, List.drop_left]

theorem length_nameBytes (n : Nat) (name : List Nat) : (nameBytes n name).length = n := by
  simp [nameBytes]

theorem getElem?_nameBytes {n k : Nat} (name : List Nat) (hk : k < n) :
    (nameBytes n name)[k]? = some (match name[k]? with | some x => byte x | none => 0) := by
  unfold nameBytes
  rw [List.getElem?_take_of_lt hk]
  cases h : name[k]? with
  | none =>
    have beyond : name.length ≤ k := List.getElem?_eq_none_iff.1 h
    rw [List.getElem?_append_right (by simpa using beyond), List.getElem?_replicate, if_pos (by simp; omega)]
  | some a =>
    rw [List.getElem?_append_left (by simpa using (List.getElem?_eq_some_iff.1 h).1), List.getElem?_map, h]
    rfl

end Fields

/-! ## The rows -/

/-- IDENTIFY and GET_STATUS are answered in every start-up state. -/
theorem alwaysAnswered (h : Ready p 0 s ∨ (live s = true ∧ p.form = .exact ∧ (prelude s).link.links.length = 4 ∧
      (linkOf (prelude s) p.link).rx.st ≠ .waitHigh ∧ (linkOf (prelude s) p.link).outstanding = none ∧
      running (prelude s) = false)) (kind : Nat) (content : State → List Byte) :
    outside (dispatch p kind 0 true false fun x => answer p.link .ok (content x) x) s =
      .next (filled p kind .ok (content (heard p kind s)) (heard p kind s)) := by
  rcases h with ready | ⟨alive, exact, four, hears, free, starting⟩
  · rw [outside_live ready.live, dispatch_ready ready, answer_heard ready _ _ _ _ rfl]
  · have out : (linkOf (heard p kind s) p.link).outstanding = some ⟨kind, false⟩ := by
      rw [heard, linkOf_onLinkAt _ _ _ four]
    have row := dispatch_free (p := p) rfl kind 0 true false (fun x => answer p.link .ok (content x) x) (prelude s) hears free
    simp only [starting, exact, Bool.false_eq_true, if_false, if_true] at row
    rw [outside_live alive, row]
    exact congrArg _ (answer_eq_filled p kind _ _ _ out)

theorem switchStatus_row (h : Ready p 0 s) : exec (.switchStatus p) s = .next
    { filled p 0x08 .ok (switchStatusContent p.link (heard p 0x08 s)) (heard p 0x08 s) with
      freeCount := (heard p 0x08 s).freeCount + 1 } := by
  show request p 0x08 0 _ s = _
  rw [request_ready h, answer_heard h _ _ _ _ rfl]

/-! ## Small fields -/

theorem be2i_eq (x : Int) : be2i x = be2 (x % 65536).toNat := by simp [be2i, BitVec.toNat_ofInt]

theorem be4i_eq (x : Int) : be4i x = be4 (x % 4294967296).toNat := by simp [be4i, BitVec.toNat_ofInt]

theorem length_sortNat (l : List Nat) : (sortNat l).length = l.length := by
  have insert : ∀ (a : Nat) (m : List Nat), (insertSorted a m).length = m.length + 1 := by
    intro a m
    induction m with
    | nil => rfl
    | cons b t ih =>
      unfold insertSorted
      split
      · rfl
      · rw [List.length_cons, ih, List.length_cons]
  induction l with
  | nil => rfl
  | cons a t ih => rw [sortNat, List.foldr_cons, insert, List.length_cons, ← ih, sortNat]

theorem ringMedian_nil : ringMedian [] = 0 := rfl

theorem ringMedian_some {l : List Nat} (h : l ≠ []) : (sortNat l)[(l.length - 1) / 2]? = some (ringMedian l) := by
  have pos := List.length_pos_iff.2 h
  have inside : (l.length - 1) / 2 < (sortNat l).length := by rw [length_sortNat]; omega
  rw [ringMedian, List.getD_eq_getElem?_getD, List.getElem?_eq_getElem inside, Option.getD_some]

/-! ## The transport (R150) -/

/-- Is a cue one that the countdown counts to? -/
def cueAhead (c : Show) (q : Cue) : Bool :=
  !q.fired && (decide (c.bar < q.bar) || (q.bar == c.bar && (decide (c.beat < q.beat) ||
    (decide (c.transport = .stopped ∨ c.transport = .armed) && q.beat == c.beat))))

theorem cueAhead_iff (c : Show) (q : Cue) : cueAhead c q = true ↔ q.fired = false ∧ (c.bar < q.bar ∨ (c.bar = q.bar ∧
    (c.beat < q.beat ∨ ((c.transport = .stopped ∨ c.transport = .armed) ∧ c.beat = q.beat)))) := by
  simp only [cueAhead, Bool.and_eq_true, Bool.not_eq_true', Bool.or_eq_true, decide_eq_true_eq, beq_iff_eq,
    @eq_comm _ q.bar c.bar, @eq_comm _ q.beat c.beat]

theorem cueCountdown_none {c : Show} (h : ∀ q ∈ c.cues, ¬ cueAhead c q = true) : cueCountdown c = none := by
  have none : c.cues.find? (cueAhead c) = none := List.find?_eq_none.2 h
  show (c.cues.find? (cueAhead c)).map _ = _
  rw [none]
  rfl

theorem cueCountdown_first {c : Show} {pre post : List Cue} {q : Cue} (hc : c.cues = pre ++ q :: post)
    (before : ∀ a ∈ pre, ¬ cueAhead c a = true) (ahead : cueAhead c q = true) :
    cueCountdown c = some (((q.bar : Int) - c.bar) * c.bpb + ((q.beat : Int) - c.beat)).toNat := by
  have first : c.cues.find? (cueAhead c) = some q := by
    rw [hc, List.find?_append, List.find?_eq_none.2 before, List.find?_cons_of_pos ahead]
    rfl
  show (c.cues.find? (cueAhead c)).map _ = _
  rw [first]
  rfl

/-! ## Lengths of the contents' fields -/

theorem length_seatBytes (x : Seat) : (seatBytes x).length = 6 := rfl

theorem length_areaBytes (a : Area) : (areaBytes a).length = 6 := by cases a <;> rfl

theorem length_targetBytes (t : Target) : (targetBytes t).length = 3 := by cases t <;> rfl

theorem length_storeState (c : Store) : (storeState c).length = 2 := by
  unfold storeState
  split <;> rfl

theorem length_actionBytes (a : CueAction) : (actionBytes a).length = 5 := by cases a <;> rfl

theorem tapsCode_of {n : Nat} {b : Byte} (h : (n = 256 ∧ b = 0) ∨ (n = 512 ∧ b = 1) ∨ (n = 1024 ∧ b = 2)) :
    byte (tapsCode n) = b := by
  rcases h with ⟨rfl, rfl⟩ | ⟨rfl, rfl⟩ | ⟨rfl, rfl⟩ <;> rfl

theorem seatBytes_eq (x : Seat) : seatBytes x = [byte x.tier, byte x.precedence,
    (match x.rate with | .k250 => 0 | .m1 => 1 | .m3 => 2), flagByte x.quiet,
    byte (x.mask.toNat / 256), byte x.mask.toNat] := by
  cases h : x.rate <;> simp [seatBytes, h, rateCode, be2, byte]

theorem targetBytes_eq (t : Target) : targetBytes t = (match t with
    | .param p i => [0, byte p, byte i]
    | .bypass p => [1, byte p, 0]
    | .level => [2, 0, 0]
    | .sat i r => [3, byte i, byte r]) := by cases t <;> rfl

/-! ## SWITCH_STATUS (R116) -/

/-- The lanes of a set as bits. -/
theorem getLsbD_lanes (g : Nat → Bool) {i : Nat} (h : i < 8) :
    (byte (((List.range 4).filter g).foldl (fun m l => m + 2 ^ l) 0)).getLsbD i = decide (i < 4 ∧ g i = true) := by
  have four : (List.range 4).filter g = [(0, g 0), (1, g 1), (2, g 2), (3, g 3)].filterMap
      fun e : Nat × Bool => if e.2 then some e.1 else none := by
    rw [show List.range 4 = [0, 1, 2, 3] from rfl]
    cases h0 : g 0 <;> cases h1 : g 1 <;> cases h2 : g 2 <;> cases h3 : g 3 <;> simp [h0, h1, h2, h3]
  have table : ∀ b0 b1 b2 b3 : Bool, ∀ i < 8, (byte (([(0, b0), (1, b1), (2, b2), (3, b3)].filterMap
      fun e : Nat × Bool => if e.2 then some e.1 else none).foldl (fun m l => m + 2 ^ l) 0)).getLsbD i =
      ([b0, b1, b2, b3][i]?.getD false) := by decide
  rw [four, table _ _ _ _ i h]
  rcases Nat.lt_or_ge i 4 with small | large
  · obtain rfl | rfl | rfl | rfl : i = 0 ∨ i = 1 ∨ i = 2 ∨ i = 3 := by omega
    all_goals simp
  · have out : ([g 0, g 1, g 2, g 3] : List Bool)[i]? = none := List.getElem?_eq_none (by simpa using large)
    rw [out]
    simp [large]

theorem length_inflightBytes (s : State) : (inflightBytes s).length = 10 := by
  unfold inflightBytes
  split <;> rfl

/-- The pending part of SWITCH_STATUS. -/
def pendingBytes (s : State) : List Byte :=
  match s.sw.pending with
  | some q => byte (targetKindCode q.target) :: requestBytes s (some q) ++ [byte q.precedence]
  | none => [0xFF, 0xFF, 0xFF, 0xFF, 0xFF]

theorem length_pendingBytes (s : State) : (pendingBytes s).length = 5 := by
  unfold pendingBytes
  split <;> rfl

theorem switchStatusContent_eq (l : Fin 4) (s : State) : switchStatusContent l s = [byte (engineCode (engine s))] ++
    (inflightBytes s ++ (pendingBytes s ++ ([optByte (s.sw.guard.map (·.1)), byte (guardRemaining s / 256),
      byte (guardRemaining s)] ++ (flagByte s.sw.reservation :: be2i s.sw.level ++ outcomeBytes (outcomeRec s l))))) := by
  unfold switchStatusContent pendingBytes
  simp only [List.append_assoc, List.cons_append, List.nil_append, be2] <;> rfl

/-- Preset, scene and target kind as SWITCH_STATUS names them (log 22). -/
theorem reportedTarget_named (s : State) (q : SwRequest) :
    (∀ a i, q.target = .preset a i → byte (targetKindCode q.target) = 0 ∧ optByte (reportedTarget s q.target).1 = byte a ∧
      optByte (reportedTarget s q.target).2 = byte i) ∧
    (∀ e, q.target = .stash e → byte (targetKindCode q.target) = 1 ∧ optByte (reportedTarget s q.target).1 = optByte e.preset ∧
      optByte (reportedTarget s q.target).2 = byte e.scene) ∧
    (q.target = .rebuild → byte (targetKindCode q.target) = 2 ∧
      optByte (reportedTarget s q.target).1 = optByte s.scene.buffer.preset ∧
      optByte (reportedTarget s q.target).2 = byte s.scene.buffer.scene) := by
  refine ⟨fun a i h => ?_, fun e h => ?_, fun h => ?_⟩ <;> rw [h] <;> exact ⟨rfl, rfl, rfl⟩

theorem originCode_named (q : SwRequest) : (∀ k, q.origin = .link k → byte (originCode q.origin) = byte k.val) ∧
    (∀ t, q.origin = .cue t → byte (originCode q.origin) = 4) := by
  refine ⟨fun k h => ?_, fun t h => ?_⟩ <;> rw [h] <;> rfl

/-! ## CUE_LIST (R151) -/

/-- One cue in CUE_LIST. -/
def cueEntry (x : Nat × Cue) : List Byte :=
  byte x.1 :: be2 x.2.bar ++ [byte x.2.beat, byte (actionCode x.2.action)] ++ actionBytes x.2.action ++
    [flagByte x.2.fired, outcomeCode x.2.outcome]

theorem length_cueEntry (x : Nat × Cue) : (cueEntry x).length = 12 := by
  simp [cueEntry, be2, length_actionBytes]

/-- The cues that CUE_LIST lists, with their numbers. -/
def cuesListed (n : Nat) (c : Show) : List (Nat × Cue) := (((List.range c.cues.length).zip c.cues).drop n).take 16

theorem length_cuesListed (n : Nat) (c : Show) : (cuesListed n c).length = min 16 (c.cues.length - n) := by
  simp [cuesListed]

theorem getElem?_cuesListed {n k : Nat} {c : Show} {q : Cue} (hk : k < 16) (h : c.cues[n + k]? = some q) :
    (cuesListed n c)[k]? = some (n + k, q) := by
  have inside := (List.getElem?_eq_some_iff.1 h).1
  simp only [cuesListed, List.getElem?_take_of_lt hk, List.getElem?_drop, List.getElem?_zip_eq_some]
  exact ⟨List.getElem?_range inside, h⟩

theorem cueListContent_eq (n : Nat) (s : State) : cueListContent n s =
    [byte s.clk.cues.length, byte (cuesListed n s.clk).length] ++ ((cuesListed n s.clk).flatMap cueEntry ++ []) := by
  rw [List.append_nil]
  rfl

/-! ## The fields of the other contents -/

/-- A link's request and flags in LINK_STATUS. -/
def linkPortBytes (l : Link) : List Byte :=
  (match l.outstanding with | none => 0 | some o => if o.orphaned then 2 else 1) :: be2 l.flags.toNat

/-- A slot of the image table in AREA_STATUS. -/
def slotEntry (x : Option (Nat × Nat) × Bool) : List Byte :=
  [optByte (x.1.map (·.1)), byte ((x.1.map fun e => tapsCode e.2).getD 255), flagByte x.2]

/-- An entry of the map in MAP_STATUS. -/
def mapEntryBytes (x : MapEntry × Int) : List Byte := byte x.1.source :: targetBytes x.1.target ++ be2i x.2

/-- The transaction in flight in SAT_STATUS. -/
def inFlightBytes : Option Trans → List Byte
  | some t => [byte t.sat, byte t.reg, byte (satClassCode t.cls)]
  | none => [0xFF, 0xFF, 0xFF]

theorem tunerStatusContent_eq (s : State) : tunerStatusContent s = [byte (tunerModeCode s.tuner.mode), flagByte s.tuner.sourceB,
    byte (s.tuner.reference / 256), byte s.tuner.reference, byte s.tuner.exponent, flagByte s.tuner.stringSet.isSome,
    optByte s.tuner.stringSet, byte (detCode s.tuner.state), byte s.tuner.ring.length] ++ be4 (ringMedian s.tuner.ring) ++
    readingBytes s.tuner.reading ++ be4i ((s.tuner.reading.map (·.c)).getD 0) ++ [flagByte s.tone.holders.tuner] := rfl

/-- A stash entry in BUFFER_STATUS. -/
def stashEntryBytes (e : StashEntry) : List Byte := optByte e.preset :: (nameBytes 16 e.record.name ++ be4 e.seq.toNat)

theorem length_stashEntryBytes (e : StashEntry) : (stashEntryBytes e).length = 21 := by
  simp [stashEntryBytes, length_nameBytes, be4]

/-- BUFFER_STATUS with its fields side by side. -/
theorem bufferStatusContent_eq (s : State) : bufferStatusContent s =
    ([optByte s.scene.buffer.preset, byte s.scene.buffer.scene] ++ be4 s.scene.buffer.seq.toNat ++
      [flagByte s.scene.buffer.dirty]) ++ (nameBytes 16 ((s.scene.buffer.record.map (·.name)).getD []) ++
    ([byte s.tone.chain.length] ++ (s.tone.chain.flatMap positionBytes ++
      ((flagByte s.scene.posMap.isSome :: storeState s.store ++ [byte s.scene.stash.length]) ++
        (s.scene.stash.flatMap stashEntryBytes ++ [s.scene.drops, optByte s.scene.lastDropped]))))) := by
  simp only [bufferStatusContent, word4, rebuildOutstanding, List.append_assoc, List.cons_append, List.nil_append]
  rfl

/-- Settles O54: the rows by `statusRequest_ready`, the codes and numbers by evaluation, and each content by its fields of equal
length (`field_flatMap`). -/
theorem statusRequestsReportTheState : Obligations.StatusRequestsReportTheState := by
  unfold Obligations.StatusRequestsReportTheState
  refine ⟨fun p s h => ⟨alwaysAnswered h 0x01 (identifyContent p.link), ?_⟩, fun p s h => ?_, by decide, by decide, by decide, by decide,
    by decide, by decide, by decide, by decide, by decide, by decide, by decide, by decide, fun n => ⟨rfl, rfl⟩,
    fun x => ⟨be2i_eq x, be4i_eq x⟩, fun c => ?_, fun c => ?_, fun s four access => ?_, fun s h32 h16 hf => ?_,
    fun s h16 => ?_, fun s => ?_, fun l s => ?_, fun s => ?_, fun s => ?_, fun s n => ?_, fun s m h8 => ?_⟩
  · exact alwaysAnswered h 0x02 getStatusContent
  · intro re
    refine ⟨statusRequest_ready h 0x03 _, statusRequest_ready h 0x05 _, statusRequest_ready h 0x06 _, statusRequest_ready h 0x07 _,
      statusRequest_ready h 0x09 _, statusRequest_ready h 0x0A _, switchStatus_row h, fun n inside => ?_, fun n some beyond => ?_,
      fun n hn => ?_, ?_, fun n hn ne => ?_⟩
    · have row : cueList p.link n (heard p 0x0B s) = answer p.link .ok (cueListContent n (heard p 0x0B s)) (heard p 0x0B s) :=
        if_neg fun out => inside.elim out.1 (Nat.not_lt.2 out.2)
      exact request_fills h rfl row rfl
    · have row : cueList p.link n (heard p 0x0B s) = refuse p.link .badArg (heard p 0x0B s) := if_pos ⟨some, beyond⟩
      exact request_refuses h rfl row
    · have row : satStatus p.link n (heard p 0x0C s) =
          answer p.link .ok (satStatusContent (some n) (heard p 0x0C s)) (heard p 0x0C s) :=
        (if_neg (by omega)).trans (if_pos hn)
      exact request_fills h rfl row rfl
    · have row : satStatus p.link 255 (heard p 0x0C s) =
          answer p.link .ok (satStatusContent none (heard p 0x0C s)) (heard p 0x0C s) := if_pos rfl
      exact request_fills h rfl row rfl
    · have row : satStatus p.link n (heard p 0x0C s) = refuse p.link .badArg (heard p 0x0C s) :=
        (if_neg ne).trans (if_neg (by omega))
      exact request_refuses h rfl row
  · refine ⟨fun h => ?_, fun l n r q h => ?_, fun l n h => ?_, fun l k a t w h => ?_, fun l v h => ?_, fun who n h => ?_,
      fun w h => ?_⟩
    all_goals unfold storeState; rw [h]
    cases w <;> rfl
  · intro after shows
    refine ⟨fun nobody => ?_, fun pre q post hc before ahead => ?_⟩
    · have none : cueCountdown c = none := cueCountdown_none fun q hq => mt (cueAhead_iff c q).1 (nobody q hq)
      show transportBytes c = _
      unfold transportBytes
      rw [none]
      rfl
    · intro n small
      have first : cueCountdown c = some n := cueCountdown_first hc (fun a ha => mt (cueAhead_iff c a).1 (before a ha))
        ((cueAhead_iff c q).2 ahead)
      show transportBytes c = _
      unfold transportBytes
      rw [first, countdownBytes, if_pos small]
      rfl
  · intro out
    have front : (s.link.links.flatMap fun x => seatBytes x.seat).length = 24 := by
      rw [length_flatMap_const (m := 6) fun _ => rfl, four]
    have ports : ∀ x : Link, (linkPortBytes x).length = 3 := fun _ => rfl
    have middle : (s.link.access.map byte).length = 21 := by rw [List.length_map, access]
    have parts : out = (s.link.links.flatMap fun x => seatBytes x.seat) ++ (s.link.access.map byte ++
        (s.link.links.flatMap linkPortBytes ++ [])) := by
      rw [List.append_nil, ← List.append_assoc]
      rfl
    clear_value out
    subst parts
    refine ⟨?_, fun l x hx => ⟨?_, ?_⟩, fun k t ht => ?_⟩
    · simp only [List.length_append, front, middle, length_flatMap_const ports, four]
      rfl
    · rw [field_flatMap (f := fun x : Link => seatBytes x.seat) (fun _ => rfl) hx]
      exact seatBytes_eq _
    · rw [show 45 + 3 * l = 24 + (21 + 3 * l) by omega, drop_front front, drop_front middle, field_flatMap ports hx]
      rfl
    · rw [List.getElem?_append_right (by omega), front, Nat.add_sub_cancel_left, List.getElem?_append_left, List.getElem?_map, ht]
      · rfl
      · rw [middle, ← access]
        exact (List.getElem?_eq_some_iff.1 ht).1
  · intro out tapsOf
    have area : (s.area.areas.flatMap areaBytes).length = 192 := by rw [length_flatMap_const length_areaBytes, h32]
    have slot : ((s.area.table.zip s.area.failed).flatMap slotEntry).length = 48 := by
      rw [length_flatMap_const (m := 3) fun _ => rfl, List.length_zip, h16, hf]
      rfl
    have parts : out = s.area.areas.flatMap areaBytes ++ ((s.area.table.zip s.area.failed).flatMap slotEntry ++
        [flagByte s.sw.reservation, byte (freeAreas s.area)]) := by
      rw [← List.append_assoc]
      rfl
    clear_value out
    subst parts
    refine ⟨?_, fun a => ?_, fun k b hb => ?_, ?_⟩
    · simp only [List.length_append, area, slot]
      rfl
    · have field : ∀ x, s.area.areas[a]? = some x → (((s.area.areas.flatMap areaBytes ++
          ((s.area.table.zip s.area.failed).flatMap slotEntry ++
            [flagByte s.sw.reservation, byte (freeAreas s.area)])).drop (6 * a)).take 6) = areaBytes x :=
        fun x hx => field_flatMap length_areaBytes hx _
      intro f
      refine ⟨fun hx => field _ hx, fun p r h hx => field _ hx, fun p r h hx => field _ hx, fun l r h hx => field _ hx,
        fun k n m t hx taps => ?_, fun l n m v b t hx taps => ?_⟩
      · rw [show f = _ from field _ hx, areaBytes, tapsCode_of taps]
        rfl
      · rw [show f = _ from field _ hx, areaBytes, tapsCode_of taps]
        rfl
    · intro f
      have field : ∀ e, s.area.table[k]? = some e → f = slotEntry (e, b) := fun e he => by
        have zip : (s.area.table.zip s.area.failed)[k]? = some (e, b) := List.getElem?_zip_eq_some.2 ⟨he, hb⟩
        show List.take 3 (List.drop (192 + 3 * k) _) = _
        rw [drop_front area, field_flatMap (f := slotEntry) (fun _ => rfl) zip]
      refine ⟨fun ht => field _ ht, fun a n t ht taps => ?_⟩
      rw [field _ ht]
      show [byte a, byte (tapsCode n), flagByte b] = _
      rw [tapsCode_of taps]
    · rw [show 240 = 192 + 48 from rfl, drop_front area, drop_front_exact slot]
  · intro out
    have front : (s.scene.controls.flatMap be2).length = 32 := by rw [length_flatMap_const (m := 2) fun _ => rfl, h16]
    have mapped : ∀ m, (s.scene.buffer.record.map (·.map)).getD [] = m → out = s.scene.controls.flatMap be2 ++
        ([byte m.length] ++ ((m.zip s.scene.driven).flatMap mapEntryBytes ++ [])) := by
      rintro m rfl
      rw [List.append_nil, ← List.append_assoc]
      rfl
    refine ⟨fun k v hv => ?_, fun none => ?_, fun r hr hd => ?_⟩
    · rw [mapped _ rfl, field_flatMap (f := be2) (fun _ => rfl) hv]
      rfl
    · rw [mapped [] (by rw [none]; rfl), drop_front_exact front]
      rfl
    · have entry : ∀ x, (mapEntryBytes x).length = 6 := fun x => by simp [mapEntryBytes, length_targetBytes, be2i, be2]
      rw [mapped r.map (by rw [hr]; rfl)]
      refine ⟨?_, ?_, fun k e d he hk => ?_⟩
      · simp only [List.length_append, front, length_flatMap_const entry, List.length_zip, hd, min_self]
        simp
        omega
      · rw [List.getElem?_append_right (by omega), front]
        rfl
      · have zip : (r.map.zip s.scene.driven)[k]? = some (e, d) := List.getElem?_zip_eq_some.2 ⟨he, hk⟩
        rw [show 33 + 6 * k = 32 + (1 + 6 * k) by omega, drop_front front,
          drop_front (front := [_]) (n := 1) rfl, field_flatMap entry zip, mapEntryBytes, targetBytes_eq] <;>
          rfl
  · intro out b name m
    have head : ([optByte b.preset, byte b.scene] ++ be4 b.seq.toNat ++ [flagByte b.dirty]).length = 7 := rfl
    have label := length_nameBytes 16 ((s.scene.buffer.record.map (·.name)).getD [])
    have chain := length_flatMap_const (f := positionBytes) (m := 2) (fun _ => rfl) s.tone.chain
    have mid : (flagByte s.scene.posMap.isSome :: storeState s.store ++ [byte s.scene.stash.length]).length = 4 := by
      simp [length_storeState]
    have stash := length_flatMap_const length_stashEntryBytes s.scene.stash
    have named : ∀ n, name (nameBytes 16 n) n := fun n => ⟨length_nameBytes 16 n, fun k hk => getElem?_nameBytes n hk⟩
    have parts : out = _ := bufferStatusContent_eq s
    have beyond : ∀ i, m + i = 7 + (16 + (1 + (2 * s.tone.chain.length + i))) := fun i => by
      show 24 + 2 * s.tone.chain.length + i = _
      omega
    clear_value out
    subst parts
    refine ⟨?_, ?_, ?_, ?_, fun k p hk => ?_, ?_, fun k e hk => ?_, ?_⟩
    · rw [List.length_append, head]
      simp only [List.length_append, label, chain, mid, stash, List.length_cons, List.length_nil]
      show _ = 24 + 2 * s.tone.chain.length + 6 + _
      omega
    · rw [List.take_append_of_le_length (by rw [head])]
      rfl
    · rw [drop_front_exact head, List.take_append_of_le_length (by rw [label]), List.take_of_length_le (by rw [label])]
      exact named _
    · rw [List.getElem?_append_right (by rw [head]; decide), head, List.getElem?_append_right (by rw [label]), label]
      rfl
    · rw [show 24 + 2 * k = 7 + (16 + (1 + 2 * k)) by omega, drop_front head, drop_front label, drop_front (front := [_]) (n := 1) rfl,
        field_flatMap (f := positionBytes) (fun _ => rfl) hk]
      refine ⟨_, rfl, fun gone => ?_, fun i hi => ⟨fun a x h g f hp => ?_, fun w d n h y f x hp => ?_, fun cab delay => ?_⟩⟩
      · rw [gone]
        rfl
      · simp only [hi, hp]
        cases x <;> rfl
      · simp only [hi, hp]
        cases x <;> rfl
      · simp only [hi]
        cases hp : i.proc with
        | cab a x h g f => exact absurd hp (cab a x h g f)
        | delay w d n h y f x => exact absurd hp (delay w d n h y f x)
        | _ => rfl
    · rw [show m = m + 0 from rfl, beyond, drop_front head, drop_front label, drop_front (front := [_]) (n := 1) rfl, drop_front chain,
        List.drop_zero, List.take_append_of_le_length (by rw [mid]), List.take_of_length_le (by rw [mid])]
    · intro v
      have entry : v = stashEntryBytes e := by
        show List.take 21 (List.drop (m + 4 + 21 * k) _) = _
        rw [Nat.add_assoc m, beyond, drop_front head, drop_front label, drop_front (front := [_]) (n := 1) rfl, drop_front chain,
          drop_front mid, field_flatMap length_stashEntryBytes hk]
      rw [entry]
      refine ⟨rfl, ?_, ?_⟩
      · show name ((nameBytes 16 e.record.name ++ be4 e.seq.toNat).take 16) _
        rw [List.take_append_of_le_length (by rw [length_nameBytes]), List.take_of_length_le (by rw [length_nameBytes])]
        exact named _
      · show (nameBytes 16 e.record.name ++ be4 e.seq.toNat).drop 16 = _
        rw [drop_front_exact (length_nameBytes ..)]
    · rw [Nat.add_assoc m, beyond, drop_front head, drop_front label, drop_front (front := [_]) (n := 1) rfl, drop_front chain,
        drop_front mid, drop_front_exact stash]
  · intro out b named origin
    have flight := length_inflightBytes s
    have waiting := length_pendingBytes s
    have parts : out = _ := switchStatusContent_eq l s
    clear_value out
    subst parts
    have tenth : ∀ rest : List Byte, (([byte (engineCode (engine s))] ++ (inflightBytes s ++ rest)).drop 1).take 10 =
        inflightBytes s := fun rest => by
      rw [drop_front_exact (front := [_]) (n := 1) rfl, List.take_append_of_le_length (by rw [flight]),
        List.take_of_length_le (by rw [flight])]
    have beyond : ∀ (rest : List Byte) (i : Nat),
        ([byte (engineCode (engine s))] ++ (inflightBytes s ++ rest)).drop (11 + i) = rest.drop i := fun rest i => by
      rw [show 11 + i = 1 + (10 + i) by omega, drop_front (front := [_]) (n := 1) rfl, drop_front flight]
    have last : ∀ (rest : List Byte) (i : Nat),
        ([byte (engineCode (engine s))] ++ (inflightBytes s ++ (pendingBytes s ++ rest))).drop (16 + i) = rest.drop i :=
      fun rest i => by rw [show 16 + i = 11 + (5 + i) by omega, beyond, drop_front waiting]
    have fifth : ∀ rest : List Byte,
        (([byte (engineCode (engine s))] ++ (inflightBytes s ++ (pendingBytes s ++ rest))).drop 11).take 5 = pendingBytes s :=
      fun rest => by
        rw [show 11 = 11 + 0 from rfl, beyond, List.drop_zero, List.take_append_of_le_length (by rw [waiting]),
          List.take_of_length_le (by rw [waiting])]
    refine ⟨?_, rfl, fun idle => ?_, fun f hf => ?_, fun none => ?_, fun q hq => ?_, fun none => ?_, fun p ms hg => ?_, ?_,
      fun o ho => ?_⟩
    · simp only [List.length_append, flight, waiting]
      rfl
    · rw [tenth, inflightBytes, idle]
    · rw [tenth, inflightBytes, hf]
      have bits := fun i hi => getLsbD_lanes f.assigned.contains (i := i) hi
      refine ⟨byte (targetKindCode f.req.target), optByte (reportedTarget s f.req.target).1,
        optByte (reportedTarget s f.req.target).2, byte (originCode f.req.origin), _, ?_, reportedTarget_named s f.req,
        originCode_named f.req, fun i hi => (bits i hi).trans ?_⟩
      · dsimp only
        by_cases fading : f.phase = .fadingOut
        · rw [if_pos fading, if_pos fading] <;> rfl
        · rw [if_neg fading, if_neg fading]
          rfl
      · simp
    · rw [fifth, pendingBytes, none]
    · rw [fifth, pendingBytes, hq]
      exact ⟨_, _, _, _, rfl, reportedTarget_named s q, originCode_named q⟩
    · rw [show 16 = 16 + 0 from rfl, last, List.drop_zero, show guardRemaining s = 0 by rw [guardRemaining, none],
        none]
      rfl
    · refine ⟨guardRemaining s, ?_, ?_⟩
      · rw [guardRemaining, hg]
        exact Nat.le_of_lt_succ (Nat.mod_lt _ (Nat.succ_pos _))
      · rw [show 16 = 16 + 0 from rfl, last, hg]
        rfl
    · rw [show 19 = 16 + 3 from rfl, last]
      rfl
    · rw [show 22 = 16 + 6 from rfl, last]
      have here : outcomeRec s l = o := by rw [outcomeRec, List.getD_eq_getElem?_getD, ho, Option.getD_some]
      rw [here]
      rfl
  · intro t head last
    refine ⟨fun none => ⟨ringMedian t.ring, ?_, fun h => by rw [h]; rfl, ringMedian_some⟩, fun r hr =>
      ⟨ringMedian t.ring, ?_, fun h => by rw [h]; rfl, ringMedian_some⟩⟩
    · rw [tunerStatusContent_eq, show s.tuner.reading = Option.none from none]
      rfl
    · rw [tunerStatusContent_eq, show s.tuner.reading = some r from hr]
      simp only [readingBytes, Option.map_some, Option.getD_some, List.append_assoc, List.cons_append, List.nil_append]
      rfl
  · rfl
  · intro out
    have parts : out = _ := cueListContent_eq n s
    clear_value out
    subst parts
    refine ⟨?_, ?_, fun k q hk hq => ?_⟩
    · simp only [List.length_append, length_flatMap_const length_cueEntry, length_cuesListed]
      simp
    · rw [length_cuesListed]
      rfl
    · rw [drop_front (front := [_, _]) (n := 2) rfl, field_flatMap length_cueEntry (getElem?_cuesListed hk hq)]
      obtain ⟨bar, beat, action, fired, outcome, tag⟩ := q
      refine ⟨byte (actionCode action), actionBytes action, rfl, ?_⟩
      refine ⟨fun a b x g h => ?_, fun t h => ?_, fun w h => ?_, fun i r v h => ?_, fun h => ?_⟩ <;>
        rw [show action = _ from h] <;> exact ⟨rfl, rfl⟩
  · intro out
    have sat : ∀ x : Sat, (satBytes x ++ [byte x.failures]).length = 7 := fun _ => rfl
    have flight : (inFlightBytes s.sat.inFlight).length = 3 := by cases s.sat.inFlight <;> rfl
    have all : (s.sat.sats.flatMap fun x => satBytes x ++ [byte x.failures]).length = 56 := by
      rw [length_flatMap_const sat, h8]
    have parts : out = [flagByte s.sat.holdAuto, flagByte s.sat.refresh, byte s.sat.queue.length] ++
        (inFlightBytes s.sat.inFlight ++ ((s.sat.sats.flatMap fun x => satBytes x ++ [byte x.failures]) ++
          (match m with
            | some i => (satOf s i).desired.map byte ++ (satOf s i).marks.map markCode ++ [flagByte (satOf s i).owed]
            | none => []))) := by
      show satStatusContent m s = _
      unfold satStatusContent
      rw [List.append_assoc, List.append_assoc]
      rfl
    clear_value out
    subst parts
    refine ⟨rfl, fun idle => ?_, fun t ht => ?_, fun i x hx => ?_, fun none => ?_, fun i x hm hx => ?_⟩
    · rw [drop_front_exact (front := [_, _, _]) (n := 3) rfl, List.take_append_of_le_length (by omega), idle]
      rfl
    · rw [drop_front_exact (front := [_, _, _]) (n := 3) rfl, List.take_append_of_le_length (by omega), ht]
      cases h : t.cls <;> simp [inFlightBytes, h, satClassCode, byte]
    · rw [show 6 + 7 * i = 3 + (3 + 7 * i) by omega, drop_front (front := [_, _, _]) (n := 3) rfl, drop_front flight,
        field_flatMap sat hx, satBytes_eq]
      rfl
    · subst none
      simp only [List.length_append, flight, all]
      rfl
    · subst hm
      rw [show 62 = 3 + (3 + 56) from rfl, drop_front (front := [_, _, _]) (n := 3) rfl, drop_front flight,
        drop_front_exact all]
      have here : satOf s i = x := by rw [satOf, List.getD_eq_getElem?_getD, hx, Option.getD_some]
      show (satOf s i).desired.map byte ++ (satOf s i).marks.map markCode ++ [flagByte (satOf s i).owed] = _
      rw [here]
      refine congrArg (fun l => x.desired.map byte ++ l ++ [flagByte x.owed]) (List.map_congr_left fun a _ => ?_)
      cases a <;> rfl

end Sys2Proof.Frame

end

section
/-! BOOTING and IMAGES: the setup that the blocks take, and the image slots that are copied (11.2, 3.7). -/

namespace Sys2Proof.Frame

open Sys2Proof Sys2Proof.Machine

variable {s x y : State} {k j : Nat}

/-! ## The next image slot (R56) -/

/-- Is an image slot marked, with a copy that passes? -/
def slotCopies (y : State) (j : Nat) : Bool :=
  y.area.mask.getD j false && match y.store.images.getD j .absent with | .good .. => true | _ => false

theorem slotCopies_iff : slotCopies y j = true ↔
    y.area.mask.getD j false = true ∧ ∃ t w, y.store.images.getD j .absent = .good t w := by
  unfold slotCopies
  cases h : y.store.images.getD j .absent <;> simp

/-- The failed marks after the slots in `passed` were passed over. -/
def failedMarks (y : State) (passed : List Nat) : List Bool :=
  passed.foldl (fun f j => if y.area.mask.getD j false && (y.store.images.getD j .absent == .bad) then f.set j true else f)
    y.area.failed

theorem getD_set_true {f : List Bool} {i : Nat} (h : f.getD i false = true) (j : Nat) : (f.set j true).getD i false = true := by
  by_cases hj : j = i
  · subst hj
    have inside : j < f.length := by
      by_contra out
      rw [List.getD_eq_default _ _ (Nat.not_lt.1 out)] at h
      cases h
    simp [List.getD_eq_getElem?_getD, inside]
  · rw [List.getD_eq_getElem?_getD, List.getElem?_set_ne hj, ← List.getD_eq_getElem?_getD]
    exact h

/-- A marked slot whose copy fails has its failed mark once it is passed over. -/
theorem failedMarks_getD {passed : List Nat} {i : Nat} (hi : i ∈ passed) (bound : i < y.area.failed.length)
    (marked : y.area.mask.getD i false = true) (bad : y.store.images.getD i .absent = .bad) :
    (failedMarks y passed).getD i false = true := by
  have hit : (y.area.mask.getD i false && (y.store.images.getD i .absent == .bad)) = true := by rw [marked, bad]; rfl
  unfold failedMarks
  generalize y.area.failed = f at bound ⊢
  induction passed generalizing f with
  | nil => cases hi
  | cons a t ih =>
    have keeps : ∀ (l : List Nat) (f : List Bool), f.getD i false = true → (l.foldl (fun f j =>
        if y.area.mask.getD j false && (y.store.images.getD j .absent == .bad) then f.set j true else f) f).getD i false = true := by
      intro l
      induction l with
      | nil => exact fun f h => h
      | cons b l il =>
        intro f h
        refine il _ ?_
        dsimp only
        split
        · exact getD_set_true h b
        · exact h
    rw [List.foldl_cons]
    rcases List.mem_cons.1 hi with rfl | later
    · refine keeps t _ ?_
      rw [if_pos hit, List.getD_eq_getElem?_getD, List.getElem?_set_self bound]
      rfl
    · refine ih later _ ?_
      split
      · rwa [List.length_set]
      · exact bound

theorem find?_first {l : List Nat} {p : Nat → Bool} (sorted : l.Pairwise (· < ·)) (hk : k ∈ l) (hp : p k = true)
    (least : ∀ i ∈ l, i < k → ¬ p i = true) : l.find? p = some k := by
  induction l with
  | nil => cases hk
  | cons a t ih =>
    obtain ⟨below, rest⟩ := List.pairwise_cons.1 sorted
    rcases List.mem_cons.1 hk with rfl | later
    · exact List.find?_cons_of_pos hp
    · rw [List.find?_cons_of_neg (least a (List.mem_cons_self ..) (below k later))]
      exact ih rest later fun i hi => least i (List.mem_cons_of_mem _ hi)

theorem mem_slotsFrom {i : Nat} : i ∈ (List.range 16).drop k ↔ k ≤ i ∧ i < 16 := by
  rw [List.mem_drop_iff_getElem]
  simp only [List.length_range, List.getElem_range]
  constructor
  · rintro ⟨n, hn, rfl⟩
    omega
  · rintro ⟨hk, hi⟩
    exact ⟨i - k, by omega, by omega⟩

/-- What follows a copy, given the next slot that copies. -/
def imagesAt (k : Nat) (y : State) : Option Nat → State
  | some j => { y with
      store := { y.store with op := some (.startRead (.image j)) }
      area := joinImage j (y.store.images.getD j .absent)
        { y.area with failed := failedMarks y (((List.range 16).drop k).filter fun i => decide (i < j)) } }
  | none => { y with
      startup := { y.startup with phase := .firstLoad }
      store := { y.store with op := some (.startRead (.preset y.link.startPreset)) }
      area := { y.area with failed := failedMarks y ((List.range 16).drop k), mask := y.area.table.map Option.isSome } }

theorem imagesFrom_eq (k : Nat) (y : State) : imagesFrom k y = imagesAt k y (((List.range 16).drop k).find? (slotCopies y)) := by
  unfold imagesFrom
  dsimp only
  generalize found : List.find? _ ((List.range 16).drop k) = next
  have found : ((List.range 16).drop k).find? (slotCopies y) = next := found
  rw [found]
  cases next <;> rfl

/-- The next slot that copies. -/
theorem imagesFrom_next (hk : k ≤ j) (hj : j < 16) (good : slotCopies y j = true)
    (least : ∀ i, k ≤ i → i < j → ¬ slotCopies y i = true) : imagesFrom k y = imagesAt k y (some j) := by
  rw [imagesFrom_eq, find?_first List.pairwise_lt_range.drop (mem_slotsFrom.2 ⟨hk, hj⟩) good
    fun i hi hij => least i (mem_slotsFrom.1 hi).1 hij]

/-- No slot left. -/
theorem imagesFrom_none (no : ∀ i, k ≤ i → i < 16 → ¬ slotCopies y i = true) : imagesFrom k y = imagesAt k y none := by
  rw [imagesFrom_eq, List.find?_eq_none.2 fun i hi => no i (mem_slotsFrom.1 hi).1 (mem_slotsFrom.1 hi).2]

theorem joinImage_frame (j : Nat) (c : ImageCopy) (m : AreaMan) : joinImage j c m = { m with areas := (joinImage j c m).areas } := by
  unfold joinImage
  split <;> rfl

theorem joinImage_lowest {c taps : Nat} {words : List Word32} {m : AreaMan} (h : m.areas[c]? = some .free)
    (least : ∀ b, b < c → m.areas[b]? ≠ some .free) :
    (joinImage j (.good taps words) m).areas = m.areas.set c (.image (some j) taps 0) := by
  simp only [joinImage, firstIdx_isFree h least]

/-- The failed marks and what the copy of the next slot changes; nothing else. -/
theorem imagesFrom_frame (k : Nat) (y : State) : imagesFrom k y = { y with
    startup := { y.startup with phase := (imagesFrom k y).startup.phase }
    store := { y.store with op := (imagesFrom k y).store.op }
    area := { y.area with
      areas := (imagesFrom k y).area.areas, failed := (imagesFrom k y).area.failed, mask := (imagesFrom k y).area.mask } } := by
  rw [imagesFrom_eq]
  cases ((List.range 16).drop k).find? (slotCopies y) with
  | none => rfl
  | some j =>
    unfold imagesAt
    dsimp only
    rw [joinImage_frame]

/-- The next slot's copy begins, with its area joined and the failed marks of the slots before it. -/
theorem imagesFrom_copies (hk : k ≤ j) (hj : j < 16) (good : slotCopies y j = true)
    (least : ∀ i, k ≤ i → i < j → ¬ slotCopies y i = true) :
    (imagesFrom k y).store.op = some (.startRead (.image j)) ∧ (imagesFrom k y).startup.phase = y.startup.phase ∧
      (imagesFrom k y).area.mask = y.area.mask ∧
      (∀ c t w, y.store.images.getD j .absent = .good t w → y.area.areas[c]? = some .free →
        (∀ b, b < c → y.area.areas[b]? ≠ some .free) →
        (imagesFrom k y).area.areas = y.area.areas.set c (.image (some j) t 0)) ∧
      (y.area.failed.length = 16 → ∀ i, k ≤ i → i < j → y.area.mask.getD i false = true →
        y.store.images.getD i .absent = .bad → (imagesFrom k y).area.failed.getD i false = true) := by
  rw [imagesFrom_next hk hj good least]
  refine ⟨rfl, rfl, ?_, fun c t w copy hc least => ?_, fun len i hi hij marked bad => ?_⟩
  · show (joinImage _ _ _).mask = _
    rw [joinImage_frame]
  · show (joinImage _ _ _).areas = _
    rw [copy]
    exact joinImage_lowest (m := { y.area with failed := _ }) hc least
  · show (joinImage _ _ _).failed.getD i false = true
    rw [joinImage_frame]
    refine failedMarks_getD ?_ (by omega) marked bad
    exact List.mem_filter.2 ⟨mem_slotsFrom.2 ⟨hi, by omega⟩, by simpa using hij⟩

/-- With no slot left FIRST_LOAD reads the start preset. -/
theorem imagesFrom_ends (no : ∀ i, k ≤ i → i < 16 → ¬ slotCopies y i = true) :
    (imagesFrom k y).store.op = some (.startRead (.preset y.link.startPreset)) ∧
      (imagesFrom k y).startup.phase = .firstLoad ∧ (imagesFrom k y).area.areas = y.area.areas ∧
      (imagesFrom k y).area.mask = y.area.table.map Option.isSome ∧
      (y.area.failed.length = 16 → ∀ i, k ≤ i → i < 16 → y.area.mask.getD i false = true →
        y.store.images.getD i .absent = .bad → (imagesFrom k y).area.failed.getD i false = true) := by
  rw [imagesFrom_none no]
  refine ⟨rfl, rfl, rfl, rfl, fun len i hi h16 marked bad => ?_⟩
  exact failedMarks_getD (mem_slotsFrom.2 ⟨hi, h16⟩) (by omega) marked bad

/-! ## The copy of a slot (R56) -/

theorem isImageOf_iff {a : Area} : isImageOf k a = true ↔ ∃ t refs, a = .image (some k) t refs := by
  cases a with
  | image slot t refs =>
    cases slot with
    | none => simp [isImageOf]
    | some i => simp [isImageOf]
  | _ => simp [isImageOf]

/-- The state from which the next slot is sought, once the words of slot `k` stand in area `a`. -/
def slotCopied (k a taps : Nat) (words : List Word32) (y : State) : State := { y with
  area := { y.area with
    dram := dramWriteAll y.area.dram (areaAddr a 0) words
    table := y.area.table.set k (some (a, taps)) } }

theorem imageCopied_eq {a taps : Nat} {words : List Word32} (copy : y.store.images.getD k .absent = .good taps words)
    (ha : ∃ t refs, y.area.areas[a]? = some (.image (some k) t refs))
    (least : ∀ b, b < a → ∀ t refs, y.area.areas[b]? ≠ some (.image (some k) t refs)) :
    imageCopied k y = imagesFrom (k + 1) (slotCopied k a taps words y) := by
  obtain ⟨t, refs, ha⟩ := ha
  have area : firstIdx (isImageOf k) y.area.areas = some a := by
    refine firstIdx_eq_some.2 ⟨⟨_, ha, isImageOf_iff.2 ⟨t, refs, rfl⟩⟩, fun b hb x hx => ?_⟩
    rw [Bool.eq_false_iff]
    intro hit
    obtain ⟨t, refs, rfl⟩ := isImageOf_iff.1 hit
    exact least b hb t refs hx
  simp only [imageCopied, copy, area]
  rfl

/-- The end of an image copy, for the row. -/
def copyCompletion (x : State) : State :=
  match x.store.op with
  | some (.startRead (.image k)) => imageCopied k x
  | _ => x

/-- Settles O15: the copied slot's part, then the next slot as `imagesFrom` seeks it. -/
theorem imageCopyTakesAnArea : Obligations.ImageCopyTakesAnArea := by
  unfold Obligations.ImageCopyTakesAnArea
  intro k a taps words s hl
  have row : exec .imageCopyCompletion s = .next (copyCompletion (prelude s)) := outside_live hl copyCompletion
  rw [row]
  generalize prelude s = y
  intro y
  refine ⟨fun other => ?_, fun op copy ha least => ?_⟩
  · refine congrArg _ ?_
    unfold copyCompletion
    split
    · next op => exact absurd op (other _)
    · rfl
  intro good
  refine ⟨imagesFrom (k + 1) (slotCopied k a taps words y), ?_, imagesFrom_frame (k + 1) (slotCopied k a taps words y), ?_, ?_⟩
  · refine congrArg _ ?_
    unfold copyCompletion
    rw [op]
    exact imageCopied_eq copy ha least
  · intro j hkj hj hgood first
    obtain ⟨op, phase, mask, areas, -⟩ := imagesFrom_copies (y := slotCopied k a taps words y) hkj hj (slotCopies_iff.2 hgood)
      fun i hi hij copies => first i hi hij (slotCopies_iff.1 copies)
    exact ⟨op, phase, mask, areas⟩
  · intro no
    obtain ⟨op, phase, areas, mask, -⟩ := imagesFrom_ends (y := slotCopied k a taps words y) (k := k + 1)
      fun i hi h16 copies => no i hi h16 (slotCopies_iff.1 copies)
    refine ⟨op, phase, areas, mask.trans ?_⟩
    rw [imagesFrom_frame]

/-! ## BOOTING (R190) -/

/-- The blocks with their parts of the setup, before the master level is handed. -/
def setupTaken (v : Setup) (factory : Bool) (y : State) : State :=
  let t := clampNat 300 3000 v.defTempo
  { y with
    startup := { y.startup with phase := .images, factory := factory }
    link := { y.link with
      links := List.zipWith (fun x seat => takeSeat false seat x) y.link.links v.seats
      access := takeAccess v.access, startPreset := v.startPreset, startScene := v.startScene, masterLevel := v.masterLevel }
    tuner := { y.tuner with
      sourceB := v.sourceB, reference := clampNat 4300 4500 v.reference, exponent := clampNat 6 12 v.exponent
      strings := v.strings.map (·.map clampString) }
    clk := { y.clk with tempo := t, defTempo := t, ppb := v.ppb, bpb := v.bpb, countdown := (beatLen t : Nat), bc := beatLen t }
    sat := { y.sat with
      sats := List.zipWith (fun x h => { x with hidden := h }) y.sat.sats v.hideMask
      holdAuto := v.holdAuto, refresh := v.refresh, pollTimer := true, refTimer := true }
    area := { y.area with mask := v.imageMask }
    tone := if y.mon.state = .present then { y.tone with changes := y.tone.changes ++ [.gainSet .master v.masterLevel] }
      else { y.tone with master := .rest v.masterLevel } }

theorem onStartup_applySetup (v : Setup) (factory : Bool) (y : State) :
    onStartup (fun u => { u with phase := .images }) (onStartup (fun u => { u with factory := factory }) (applySetup v y)) =
      setupTaken v factory y := by
  unfold applySetup setupTaken hand present
  by_cases h : y.mon.state = .present
  · simp [h, onTone, onStartup, onArea, onSat, onClk, onTuner, onLink, loadCountdown]
  · simp [h, onTone, onStartup, onArea, onSat, onClk, onTuner, onLink, loadCountdown, applyChange, takeGain]

theorem bootRead_eq {v : Setup} {y : State}
    (h : y.store.setup = .good v ∨ ((∀ w, y.store.setup ≠ .good w) ∧ v = Setup.factory)) :
    ∃ factory, (factory = true ↔ ∀ w, y.store.setup ≠ .good w) ∧ bootRead y = imagesFrom 0 (setupTaken v factory y) := by
  unfold bootRead
  rcases h with good | ⟨bad, rfl⟩
  · refine ⟨false, by simp [good], ?_⟩
    rw [← onStartup_applySetup, good]
  · refine ⟨true, by simpa using bad, ?_⟩
    rw [← onStartup_applySetup]
    split
    · next w hw => exact absurd hw (bad w)
    · rfl

theorem map_seat_zipWith {links : List Link} {seats : List Seat} (h : links.length = seats.length) :
    (List.zipWith (fun x seat => takeSeat false seat x) links seats).map (·.seat) = seats := by
  rw [List.map_zipWith]
  show List.zipWith (fun _ seat => seat) links seats = seats
  induction links generalizing seats with
  | nil => cases seats with
    | nil => rfl
    | cons => cases h
  | cons a t ih => cases seats with
    | nil => cases h
    | cons b u => rw [List.zipWith_cons_cons, ih (Nat.succ.inj h)]

theorem takeAccess_getD {stored : List Nat} {k d : Nat} (hk : k < 21) : (takeAccess stored).getD k d =
    if k = 0 ∨ k = 19 ∨ k = 20 then factoryAccess.getD k 0 else stored.getD k (factoryAccess.getD k 0) := by
  simp [takeAccess, List.getD_eq_getElem?_getD, hk]

/-- The end of the setup's read, for the row. -/
def bootCompletion (x : State) : State := if x.store.op = some (.startRead .setup) then bootRead x else x

/-- Settles O14: the blocks take their parts (`setupTaken`), then the first image slot is sought. -/
theorem bootingTakesTheSetup : Obligations.BootingTakesTheSetup := by
  unfold Obligations.BootingTakesTheSetup
  intro s hl
  have row : exec .setupReadCompletion s = .next (bootCompletion (prelude s)) := outside_live hl bootCompletion
  rw [row]
  generalize prelude s = y
  intro y
  refine ⟨fun other => congrArg _ (if_neg other), fun v op setup four seats access failed => ?_⟩
  obtain ⟨factory, flag, boot⟩ := bootRead_eq setup
  have frame := imagesFrom_frame 0 (setupTaken v factory y)
  refine ⟨imagesFrom 0 (setupTaken v factory y), congrArg _ ((if_pos op).trans boot), ?_⟩
  have slots : ∀ i, slotCopies (setupTaken v factory y) i = true ↔
      v.imageMask.getD i false = true ∧ ∃ t w, y.store.images.getD i .absent = .good t w := fun i => slotCopies_iff
  have copies := fun (j : Nat) (hj : j < 16) good (first : ∀ i, i < j → ¬ slotCopies (setupTaken v factory y) i = true) =>
    imagesFrom_copies (k := 0) (y := setupTaken v factory y) (Nat.zero_le j) hj good fun i _ hi => first i hi
  have ends := fun no : ∀ i, i < 16 → ¬ slotCopies (setupTaken v factory y) i = true =>
    imagesFrom_ends (k := 0) (y := setupTaken v factory y) fun i _ h16 => no i h16
  generalize imagesFrom 0 (setupTaken v factory y) = z at frame copies ends
  have startup : z.startup.factory = factory := by rw [frame]; rfl
  have link : z.link = (setupTaken v factory y).link := by rw [frame]
  have tuner : z.tuner = (setupTaken v factory y).tuner := by rw [frame]
  have clk : z.clk = (setupTaken v factory y).clk := by rw [frame]
  have sat : z.sat = (setupTaken v factory y).sat := by rw [frame]
  have tone : z.tone = (setupTaken v factory y).tone := by rw [frame]
  have getAccess := fun (k d : Nat) (hk : k < 21) => takeAccess_getD (stored := v.access) (k := k) (d := d) hk
  refine ⟨?_, startup ▸ flag, ?_, ?_, ?_, ?_, ?_, ?_, ?_, tuner, clk, sat, fun hp => ?_, fun j hj good first => ?_, fun no => ?_⟩
  · rw [tuner, clk, sat, tone, link, startup]
    exact frame
  · rw [link]
    rfl
  · rw [link]
    exact map_seat_zipWith (four.trans seats.symm)
  · rw [link]
    simp [setupTaken, takeAccess]
  · rw [link]
    exact (getAccess 0 9 (by decide)).trans rfl
  · rw [link]
    exact (getAccess 19 0 (by decide)).trans rfl
  · rw [link]
    exact (getAccess 20 0 (by decide)).trans rfl
  · intro k low high
    have there : k < v.access.length := by omega
    rw [link]
    refine (getAccess k 0 (by omega)).trans ((if_neg (by omega)).trans ?_)
    simp only [List.getD_eq_getElem?_getD, List.getElem?_eq_getElem there, Option.getD_some]
  · rw [tone]
    exact if_pos (by simpa [present] using hp)
  · obtain ⟨op, phase, mask, areas, marks⟩ := copies j hj ((slots j).2 good) fun i hi c => first i hi ((slots i).1 c)
    exact ⟨op, phase, mask, fun a t w => areas a t w, fun i hi => marks failed i (Nat.zero_le i) hi⟩
  · obtain ⟨op, phase, areas, -, marks⟩  := ends fun i h16 c => no i h16 ((slots i).1 c)
    exact ⟨op, phase, areas, fun i hi => marks failed i (Nat.zero_le i) hi⟩

end Sys2Proof.Frame

end

section
/-! What a new buffer pushes to the satellites (R106, R155): the registers with an effective value, as URGENT, in one list of
writes; what each satellite and the notice flags are after it. -/

namespace Sys2Proof.Frame

open Sys2Proof Sys2Proof.Machine

variable {s x y z : State} {i r : Nat}

/-! ## Notice flags that become pending together (R182) -/

/-- The flags `all` become pending on every link whose mask marks them. -/
def withFlags (all : BitVec 16) (s : State) : State :=
  { s with link := { s.link with links := s.link.links.map fun l => { l with flags := l.flags ||| (l.seat.mask &&& all) } } }

theorem raise_eq_withFlags (k : NoticeKind) (s : State) : raise k s = withFlags (noticeBit k) s := rfl

theorem withFlags_withFlags (a b : BitVec 16) (s : State) : withFlags a (withFlags b s) = withFlags (b ||| a) s := by
  have join : ∀ m : BitVec 16, m &&& b ||| m &&& a = m &&& (b ||| a) := fun m => by
    ext k
    simp only [BitVec.getElem_or, BitVec.getElem_and]
    cases m[k] <;> rfl
  simp only [withFlags, List.map_map, Function.comp_def, BitVec.or_assoc, join]

theorem withFlags_zero (s : State) : withFlags 0 s = s := by simp [withFlags]

/-! ## One push and a list of pushes -/

/-- A satellite after the push of register `w.2.1` of satellite `w.1` as URGENT. -/
def satWrite (w : Nat × Nat × Nat) (i : Nat) (a : Sat) : Sat :=
  if w.1 = i then { a with
    desired := a.desired.set w.2.1 w.2.2
    marks := modAt a.marks w.2.1 fun _ => .urgent
    state := if a.state = .inStep then .behind else a.state }
  else a

/-- A satellite after a list of pushes. -/
def satWrites (ws : List (Nat × Nat × Nat)) (i : Nat) (a : Sat) : Sat := ws.foldl (fun a w => satWrite w i a) a

/-- Does a push of the list meet an IN_STEP satellite? -/
def fallsBehind (ws : List (Nat × Nat × Nat)) (s : State) : Bool :=
  ws.any fun w => (s.sat.sats[w.1]?).any (·.state == .inStep)

/-- `s` after a list of pushes. -/
def satsWritten (ws : List (Nat × Nat × Nat)) (s : State) : State :=
  withFlags (if fallsBehind ws s then noticeBit .satellite else 0)
    { s with sat := { s.sat with sats := s.sat.sats.mapIdx (satWrites ws) } }

theorem satOf_inStep : (satOf s i).state = .inStep ↔ (s.sat.sats[i]?).any (·.state == .inStep) = true := by
  rw [satOf, List.getD_eq_getElem?_getD]
  cases s.sat.sats[i]? with
  | none => simp [Sat.entry]
  | some a => simp

theorem satPush_urgent (w : Nat × Nat × Nat) (s : State) : satPush .urgent w.1 w.2.1 w.2.2 s = satsWritten [w] s := by
  have written : ∀ f : Sat → Sat, (∀ a, s.sat.sats[w.1]? = some a → f a = satWrite w w.1 a) →
      modAt s.sat.sats w.1 f = s.sat.sats.mapIdx (satWrites [w]) := by
    intro f hf
    refine List.ext_getElem? fun k => ?_
    rw [getElem?_modAt, List.getElem?_mapIdx]
    cases hk : s.sat.sats[k]? with
    | none => split <;> rfl
    | some a =>
      by_cases h : k = w.1
      · subst h
        simp [hf a hk, satWrites]
      · simp [h, satWrites, satWrite, Ne.symm h]
  have mark : enterMark .urgent = fun _ => Mark.urgent := by
    funext m
    exact if_pos (.inl rfl)
  rw [satPush, mark]
  refine (satFilled_onSatAt (f := fun a => { a with
    desired := a.desired.set w.2.1 w.2.2, marks := modAt a.marks w.2.1 fun _ => .urgent }) (fun _ => rfl) w.1 s).trans ?_
  by_cases h : (satOf s w.1).state = .inStep
  · have falls : fallsBehind [w] s = true := by simpa [fallsBehind] using satOf_inStep.1 h
    rw [if_pos h, satsWritten, if_pos falls, raise_eq_withFlags, ← written (fun a => { a with
      desired := a.desired.set w.2.1 w.2.2, marks := modAt a.marks w.2.1 fun _ => .urgent, state := .behind })]
    · simp only [onSatAt, onSat, modAt_modAt]
    · intro a ha
      have step : a.state = .inStep := by
        rwa [satOf, List.getD_eq_getElem?_getD, ha] at h
      simp [satWrite, step]
  · have stays : fallsBehind [w] s = false := by
      rw [Bool.eq_false_iff]
      intro falls
      exact h (satOf_inStep.2 (by simpa [fallsBehind] using falls))
    rw [if_neg h, satsWritten, stays, if_neg (by decide), withFlags_zero, ← written (fun a => { a with
      desired := a.desired.set w.2.1 w.2.2, marks := modAt a.marks w.2.1 fun _ => .urgent })]
    · rfl
    · intro a ha
      have step : a.state ≠ .inStep := by
        rwa [satOf, List.getD_eq_getElem?_getD, ha] at h
      simp [satWrite, step]

theorem satsWritten_sats (ws : List (Nat × Nat × Nat)) (s : State) (i : Nat) :
    (satsWritten ws s).sat.sats[i]? = (s.sat.sats[i]?).map (satWrites ws i) := List.getElem?_mapIdx

theorem satsWritten_cons (w : Nat × Nat × Nat) (ws : List (Nat × Nat × Nat)) (s : State) :
    satsWritten ws (satsWritten [w] s) = satsWritten (w :: ws) s := by
  have sats : (satsWritten [w] s).sat.sats.mapIdx (satWrites ws) = s.sat.sats.mapIdx (satWrites (w :: ws)) := by
    show (s.sat.sats.mapIdx (satWrites [w])).mapIdx (satWrites ws) = _
    rw [List.mapIdx_mapIdx]
    rfl
  have stays : ∀ v : Nat × Nat × Nat, fallsBehind [w] s = false →
      ((satsWritten [w] s).sat.sats[v.1]?).any (·.state == .inStep) = (s.sat.sats[v.1]?).any (·.state == .inStep) := by
    intro v hw
    rw [satsWritten_sats]
    cases hv : s.sat.sats[v.1]? with
    | none => rfl
    | some a =>
      by_cases h : w.1 = v.1
      · have step : a.state ≠ .inStep := by
          rw [fallsBehind] at hw
          simpa [h, hv] using hw
        simp [satWrites, satWrite, h, step]
      · simp [satWrites, satWrite, h]
  have falls : fallsBehind [w] s = false → fallsBehind ws (satsWritten [w] s) = fallsBehind ws s := fun hw => by
    unfold fallsBehind
    exact congrArg ws.any (funext fun v => stays v hw)
  have first : fallsBehind (w :: ws) s = (fallsBehind [w] s || fallsBehind ws s) := by simp [fallsBehind]
  have flags : ∀ b : Bool, (noticeBit .satellite ||| if b = true then noticeBit .satellite else 0) = noticeBit .satellite := by
    decide
  have whole : satsWritten ws (satsWritten [w] s) = withFlags (if fallsBehind ws (satsWritten [w] s) then noticeBit .satellite else 0)
      (withFlags (if fallsBehind [w] s then noticeBit .satellite else 0)
        { s with sat := { s.sat with sats := s.sat.sats.mapIdx (satWrites (w :: ws)) } }) := by
    rw [← sats]
    rfl
  have target : satsWritten (w :: ws) s = withFlags (if fallsBehind [w] s || fallsBehind ws s then noticeBit .satellite else 0)
      { s with sat := { s.sat with sats := s.sat.sats.mapIdx (satWrites (w :: ws)) } } := by
    rw [← first]
    rfl
  rw [whole, target]
  cases hw : fallsBehind [w] s
  · rw [falls hw, Bool.false_or, if_neg Bool.false_ne_true, withFlags_zero]
  · rw [withFlags_withFlags, if_pos rfl, flags, Bool.true_or, if_pos rfl]

theorem foldl_satPush (ws : List (Nat × Nat × Nat)) (s : State) :
    ws.foldl (fun x w => satPush .urgent w.1 w.2.1 w.2.2 x) s = satsWritten ws s := by
  induction ws generalizing s with
  | nil =>
    have same : s.sat.sats.mapIdx (satWrites []) = s.sat.sats := by
      refine List.ext_getElem? fun k => ?_
      rw [List.getElem?_mapIdx]
      cases s.sat.sats[k]? <;> rfl
    rw [List.foldl_nil, satsWritten, same]
    exact (withFlags_zero s).symm
  | cons w ws ih => rw [List.foldl_cons, ih, satPush_urgent, satsWritten_cons]

/-! ## A satellite after a list of pushes -/

section Writes

variable (ws : List (Nat × Nat × Nat)) (i : Nat) (a : Sat)

theorem satWrites_append (w : Nat × Nat × Nat) : satWrites (ws ++ [w]) i a = satWrite w i (satWrites ws i a) := by
  simp [satWrites]

theorem satWrites_frame : satWrites ws i a =
    { a with desired := (satWrites ws i a).desired, marks := (satWrites ws i a).marks, state := (satWrites ws i a).state } := by
  induction ws using List.reverseRecOn with
  | nil => rfl
  | append_singleton ws w ih =>
    rw [satWrites_append, satWrite]
    split
    · conv_lhs => rw [ih]
    · exact ih

theorem length_satWrites_desired : (satWrites ws i a).desired.length = a.desired.length := by
  induction ws using List.reverseRecOn with
  | nil => rfl
  | append_singleton ws w ih =>
    rw [satWrites_append, satWrite]
    split
    · exact List.length_set.trans ih
    · exact ih

theorem length_satWrites_marks : (satWrites ws i a).marks.length = a.marks.length := by
  induction ws using List.reverseRecOn with
  | nil => rfl
  | append_singleton ws w ih =>
    rw [satWrites_append, satWrite]
    split
    · exact (length_modAt ..).trans ih
    · exact ih

theorem satWrites_state : (satWrites ws i a).state =
    if a.state = .inStep ∧ ∃ w ∈ ws, w.1 = i then .behind else a.state := by
  induction ws using List.reverseRecOn with
  | nil => simp [satWrites]
  | append_singleton ws w ih =>
    rw [satWrites_append, satWrite]
    by_cases hw : w.1 = i
    · rw [if_pos hw]
      show (if (satWrites ws i a).state = .inStep then SatState.behind else (satWrites ws i a).state) = _
      rw [ih]
      by_cases hs : a.state = .inStep
      · have hit : ∃ v ∈ ws ++ [w], v.1 = i := ⟨w, by simp, hw⟩
        rw [if_pos (And.intro hs hit)]
        by_cases before : ∃ v ∈ ws, v.1 = i
        · rw [if_pos (And.intro hs before), if_neg (by decide)]
        · have no : ¬ (a.state = .inStep ∧ ∃ w ∈ ws, w.1 = i) := fun both => before both.2
          rw [if_neg no, if_pos hs]
      · simp [hs]
    · have same : (∃ v ∈ ws ++ [w], v.1 = i) ↔ ∃ v ∈ ws, v.1 = i := by simp [hw]
      rw [if_neg hw, ih, if_congr (and_congr_right fun _ => same) rfl rfl]

variable {ws i}

theorem satWrites_written {v : Nat} (mem : (i, r, v) ∈ ws) (only : ∀ v', (i, r, v') ∈ ws → v' = v) :
    (r < a.desired.length → (satWrites ws i a).desired[r]? = some v) ∧
      (r < a.marks.length → (satWrites ws i a).marks[r]? = some .urgent) := by
  induction ws using List.reverseRecOn with
  | nil => cases mem
  | append_singleton ws w ih =>
    have lenD := length_satWrites_desired ws i a
    have lenM := length_satWrites_marks ws i a
    rw [satWrites_append, satWrite]
    by_cases hw : w.1 = i
    · rw [if_pos hw]
      by_cases hr : w.2.1 = r
      · obtain ⟨i', r', v'⟩ := w
        subst hw hr
        obtain rfl := only v' (by simp)
        refine ⟨fun h => ?_, fun h => ?_⟩
        · exact List.getElem?_set_self (by omega)
        · rw [getElem?_modAt, if_pos rfl, List.getElem?_eq_getElem (by omega)]
          rfl
      · have before : (i, r, v) ∈ ws := by
          rcases List.mem_append.1 mem with h | h
          · exact h
          · rw [← List.mem_singleton.1 h] at hr
            exact absurd rfl hr
        obtain ⟨desired, marks⟩ := ih before fun v' h => only v' (List.mem_append_left _ h)
        refine ⟨fun h => ?_, fun h => ?_⟩
        · exact (List.getElem?_set_ne hr).trans (desired h)
        · rw [getElem?_modAt, if_neg (Ne.symm hr)]
          exact marks h
    · rw [if_neg hw]
      have before : (i, r, v) ∈ ws := by
        rcases List.mem_append.1 mem with h | h
        · exact h
        · rw [← List.mem_singleton.1 h] at hw
          exact absurd rfl hw
      exact ih before fun v' h => only v' (List.mem_append_left _ h)

theorem satWrites_untouched (no : ∀ v, (i, r, v) ∉ ws) :
    (satWrites ws i a).desired[r]? = a.desired[r]? ∧ (satWrites ws i a).marks[r]? = a.marks[r]? := by
  induction ws using List.reverseRecOn with
  | nil => exact ⟨rfl, rfl⟩
  | append_singleton ws w ih =>
    obtain ⟨desired, marks⟩ := ih fun v h => no v (List.mem_append_left _ h)
    rw [satWrites_append, satWrite]
    split
    · next hw =>
      have hr : w.2.1 ≠ r := by
        rintro rfl
        exact no w.2.2 (by rw [← hw]; simp)
      refine ⟨(List.getElem?_set_ne hr).trans desired, ?_⟩
      rw [getElem?_modAt, if_neg (Ne.symm hr)]
      exact marks
    · exact ⟨desired, marks⟩

end Writes

/-! ## The registers of the new buffer -/

/-- The push of one register: its effective value, where it has one and, under `only`, one that differs from the desired one. -/
def registerWrite (only : Bool) (s : State) (p : Nat × Nat) : Option (Nat × Nat × Nat) :=
  match effective s (.sat p.1 p.2) with
  | some v => if only && ((satOf s p.1).desired.getD p.2 0 == v.toNat) then none else some (p.1, p.2, v.toNat)
  | none => none

def registerWrites (only : Bool) (s : State) : List (Nat × Nat × Nat) := allRegs.filterMap (registerWrite only s)

theorem mem_allRegs {p : Nat × Nat} : p ∈ allRegs ↔ p.1 < 8 ∧ p.2 < 16 := by
  obtain ⟨i, r⟩ := p
  simp [allRegs]

theorem nodup_allRegs : allRegs.Nodup :=
  (List.nodup_range.product List.nodup_range : (List.range 8 ×ˢ List.range 16).Nodup)

theorem mem_registerWrites {only : Bool} {v : Nat} : (i, r, v) ∈ registerWrites only s ↔
    i < 8 ∧ r < 16 ∧ ∃ e, effective s (.sat i r) = some e ∧ e.toNat = v ∧
      (only = true → (satOf s i).desired.getD r 0 ≠ e.toNat) := by
  unfold registerWrites registerWrite
  rw [List.mem_filterMap]
  constructor
  · rintro ⟨⟨i', r'⟩, mem, h⟩
    obtain ⟨hi, hr⟩ := mem_allRegs.1 mem
    dsimp only at h
    split at h
    · next e he =>
      split at h
      · cases h
      · next keep =>
        cases h
        exact ⟨hi, hr, e, he, rfl, fun ho same => keep (by rw [ho, same]; simp)⟩
    · cases h
  · rintro ⟨hi, hr, e, he, rfl, keep⟩
    refine ⟨(i, r), mem_allRegs.2 ⟨hi, hr⟩, ?_⟩
    dsimp only
    rw [he]
    refine if_neg fun same => ?_
    rw [Bool.and_eq_true, beq_iff_eq] at same
    exact keep same.1 same.2

theorem satsWritten_scene (ws : List (Nat × Nat × Nat)) (s : State) : (satsWritten ws s).scene = s.scene := rfl

/-- A push leaves the desired values of the other registers. -/
theorem desired_satsWritten_ne {p q : Nat × Nat} (h : p ≠ q) (v : Nat) (x : State) :
    (satOf (satsWritten [(p.1, p.2, v)] x) q.1).desired.getD q.2 0 = (satOf x q.1).desired.getD q.2 0 := by
  have other : ∀ v', (q.1, q.2, v') ∉ [(p.1, p.2, v)] := by
    intro v' hv
    have := List.mem_singleton.1 hv
    simp only [Prod.mk.injEq] at this
    exact h (Prod.ext this.1.symm this.2.1.symm)
  have sats := satsWritten_sats [(p.1, p.2, v)] x q.1
  simp only [satOf, List.getD_eq_getElem?_getD, sats]
  cases x.sat.sats[q.1]? with
  | none => rfl
  | some a => simp only [Option.map_some, Option.getD_some, (satWrites_untouched a other).1]

theorem pushImages_eq (only : Bool) (s : State) : pushImages only s = satsWritten (registerWrites only s) s := by
  rw [← foldl_satPush]
  unfold pushImages registerWrites
  have same : ∀ (l : List (Nat × Nat)) (x : State), l.Nodup → x.scene = s.scene →
      (∀ p ∈ l, (satOf x p.1).desired.getD p.2 0 = (satOf s p.1).desired.getD p.2 0) →
      l.foldl (fun x p => match effective x (.sat p.1 p.2) with
        | some v => if only && ((satOf x p.1).desired.getD p.2 0 == v.toNat) then x else satPush .urgent p.1 p.2 v.toNat x
        | none => x) x =
      (l.filterMap (registerWrite only s)).foldl (fun x w => satPush .urgent w.1 w.2.1 w.2.2 x) x := by
    intro l
    induction l with
    | nil => intros; rfl
    | cons p t ih =>
      intro x nodup scene desired
      obtain ⟨fresh, rest⟩ := List.nodup_cons.1 nodup
      have step : effective x (.sat p.1 p.2) = effective s (.sat p.1 p.2) := effective_of_scene scene
      have here := desired p (List.mem_cons_self ..)
      have skip := ih x rest scene fun q hq => desired q (List.mem_cons_of_mem _ hq)
      rw [List.foldl_cons, step, here]
      cases he : effective s (.sat p.1 p.2) with
      | none =>
        have drop : registerWrite only s p = none := by simp only [registerWrite, he]
        rw [List.filterMap_cons_none drop]
        exact skip
      | some v =>
        by_cases keep : (only && ((satOf s p.1).desired.getD p.2 0 == v.toNat)) = true
        · have drop : registerWrite only s p = none := by simp only [registerWrite, he, if_pos keep]
          rw [List.filterMap_cons_none drop]
          simp only [if_pos keep]
          exact skip
        · have take : registerWrite only s p = some (p.1, p.2, v.toNat) := by simp only [registerWrite, he, if_neg keep]
          rw [List.filterMap_cons_some take, List.foldl_cons]
          simp only [if_neg keep]
          have push := satPush_urgent (p.1, p.2, v.toNat) x
          dsimp only at push
          rw [push]
          refine ih _ rest scene fun q hq => ?_
          rw [desired_satsWritten_ne (fun h : p = q => fresh (h ▸ hq))]
          exact desired q (List.mem_cons_of_mem _ hq)
  exact same allRegs s nodup_allRegs rfl fun _ _ => rfl

/-! ## In the terms of the claims -/

theorem handsRegister_iff {P : Prop} {only : Bool} (hP : P ↔ only = true) (hsat : y.sat = s.sat) (hscene : z.scene = y.scene)
    {e : Int} : HandsRegister P s z i r e ↔
      i < 8 ∧ r < 16 ∧ effective y (.sat i r) = some e ∧ (only = true → (satOf y i).desired.getD r 0 ≠ e.toNat) := by
  have sat : satOf s i = satOf y i := by rw [satOf, satOf, hsat]
  rw [HandsRegister, effective_of_scene hscene, hP, sat]

/-- `z` has the satellites that the pushes of `y` leave, `y` those of `s`. -/
theorem imagesPushed_of {P : Prop} {only : Bool} (hP : P ↔ only = true) (hsat : y.sat = s.sat) (hscene : z.scene = y.scene)
    (hz : z.sat = (satsWritten (registerWrites only y) y).sat) : ImagesPushed P s z := by
  have hands := fun (i r : Nat) (e : Int) => handsRegister_iff (i := i) (r := r) (e := e) hP hsat hscene
  have mem : ∀ i r e, HandsRegister P s z i r e → (i, r, e.toNat) ∈ registerWrites only y := fun i r e h => by
    obtain ⟨hi, hr, he, keep⟩ := (hands i r e).1 h
    exact mem_registerWrites.2 ⟨hi, hr, e, he, rfl, keep⟩
  have back : ∀ i r v, (i, r, v) ∈ registerWrites only y → ∃ e, HandsRegister P s z i r e ∧ e.toNat = v := fun i r v h => by
    obtain ⟨hi, hr, e, he, hv, keep⟩ := mem_registerWrites.1 h
    exact ⟨e, (hands i r e).2 ⟨hi, hr, he, keep⟩, hv⟩
  have alone : ∀ i r e v', HandsRegister P s z i r e → (i, r, v') ∈ registerWrites only y → v' = e.toNat := fun i r e v' h h' => by
    obtain ⟨-, -, he, -⟩ := (hands i r e).1 h
    obtain ⟨-, -, e', he', hv, -⟩ := mem_registerWrites.1 h'
    rw [he] at he'
    cases he'
    exact hv.symm
  have sats : ∀ i, z.sat.sats[i]? = (s.sat.sats[i]?).map (satWrites (registerWrites only y) i) := fun i => by
    rw [hz, satsWritten_sats, hsat]
  refine ⟨?_, ?_, fun i x hx => ⟨satWrites (registerWrites only y) i x, ?_, satWrites_frame .., length_satWrites_desired ..,
    length_satWrites_marks .., fun step some => ?_, fun still => ?_, fun r e h => ?_, fun r no => ?_⟩⟩
  · rw [hz, ← hsat]
    rfl
  · rw [hz, ← hsat]
    exact List.length_mapIdx
  · rw [sats, hx, Option.map_some]
  · obtain ⟨r, e, h⟩ := some
    rw [satWrites_state, if_pos ⟨step, _, mem i r e h, rfl⟩]
  · rw [satWrites_state]
    refine if_neg ?_
    rintro ⟨step, ⟨i', r, v⟩, hw, rfl⟩
    obtain ⟨e, he, -⟩ := back _ _ _ hw
    exact still.elim (· step) fun no => no r e he
  · exact satWrites_written x (mem i r e h) fun v' h' => alone i r e v' h h'
  · refine satWrites_untouched x fun v h => ?_
    obtain ⟨e, he, -⟩ := back _ _ _ h
    exact no e he

theorem flagsRaised_of {P : Prop} {only : Bool} {flags : BitVec 16} (hP : P ↔ only = true) (hsat : y.sat = s.sat)
    (hscene : z.scene = y.scene) (hz : z.link = (withFlags flags (satsWritten (registerWrites only y) y)).link)
    (hlink : y.link = s.link) : FlagsRaised P flags s z := by
  refine ⟨fallsBehind (registerWrites only y) y, ?_, ?_⟩
  · unfold fallsBehind
    rw [List.any_eq_true, hsat]
    constructor
    · rintro ⟨⟨i, r, v⟩, hw, hs⟩
      obtain ⟨hi, hr, e, he, -, keep⟩ := mem_registerWrites.1 hw
      cases hx : s.sat.sats[i]? with
      | none => simp [hx] at hs
      | some x => exact ⟨i, x, r, e, hx, by simpa [hx] using hs, (handsRegister_iff hP hsat hscene).2 ⟨hi, hr, he, keep⟩⟩
    · rintro ⟨i, x, r, e, hx, step, h⟩
      obtain ⟨hi, hr, he, keep⟩ := (handsRegister_iff hP hsat hscene).1 h
      exact ⟨(i, r, e.toNat), mem_registerWrites.2 ⟨hi, hr, e, he, rfl, keep⟩, by simp [hx, step]⟩
  · rw [hz, satsWritten, withFlags_withFlags, ← hlink, BitVec.or_comm]
    rfl

end Sys2Proof.Frame

end

section
/-! The first load (R28, R114, R191): what it hands is taken up by the audio part alone, so that it may be taken from the state
before the load; the other parts come from the loaded state. -/

namespace Sys2Proof.Frame

open Sys2Proof Sys2Proof.Machine

variable {c x y z s : State} {l : Loaded} {joined : List (Nat × List Nat)}

/-! ## The audio part of one state beside the other parts of another -/

/-- `c` with the Tone Engine, the areas, the Show Clock and the clock monitor of `x`; the chain gain is that of `c`. -/
def withAudio (c x : State) : State :=
  { c with
    mon := x.mon
    tone := { x.tone with chainGain := c.tone.chainGain, chainRested := c.tone.chainRested }
    area := x.area
    clk := x.clk }

theorem cabResolve_withAudio (c : State) (pos keep : Nat) (gain : Ramp) (phase : ResolvePhase) (x : State) :
    cabResolve pos keep gain phase (withAudio c x) = withAudio c (cabResolve pos keep gain phase x) := by
  unfold cabResolve
  rw [show instAt (withAudio c x) pos = instAt x pos from rfl]
  cases instAt x pos with
  | none => rfl
  | some i => cases hi : i.proc <;> simp only [hi] <;> rfl

theorem resolveCabs_withAudio (c : State) (n : Nat) (x : State) :
    resolveCabs n (withAudio c x) = withAudio c (resolveCabs n x) := by
  unfold resolveCabs
  generalize List.range n = l
  induction l generalizing x with
  | nil => rfl
  | cons k t ih => rw [List.foldl_cons, List.foldl_cons, cabResolve_withAudio, ih]

/-- The areas of the instances of a new chain, the former ones dropped (R46, R47). -/
def reheld (insts : List Inst) (s : State) : AreaMan :=
  let m := s.tone.chain.foldl (fun m p => (p.inst.map fun i => dropInst i m).getD m) s.area
  ((insts.map (buildLength s.clk.tempo)).foldl
    (fun (mk : AreaMan × Nat) i => (reholdList (.live mk.2) i.areas mk.1, mk.2 + 1)) (m, 0)).1

/-- A rebuild before the images of its CABs are resolved (R46, R141). -/
def rebuilt (insts : List Inst) (s : State) : State :=
  let built := insts.map (buildLength s.clk.tempo)
  { s with
    area := reheld insts s
    tone := { s.tone with
      chain := built.map fun i => ⟨i.stype, some i⟩
      lanes := s.tone.lanes.map fun l => { l with
        fed := false, st := if l.st = .feeding then .ringing else l.st, quiet := if l.st = .feeding then 0 else l.quiet } }
    clk := { s.clk with handed := (List.range 12).map fun k => (built[k]?).bind builtHanded } }

theorem takeRebuild_eq (insts : List Inst) (s : State) :
    takeRebuild insts s = resolveCabs (insts.map (buildLength s.clk.tempo)).length (rebuilt insts s) := rfl

theorem takeRebuild_withAudio (c : State) (insts : List Inst) (x : State) :
    takeRebuild insts (withAudio c x) = withAudio c (takeRebuild insts x) := by
  rw [takeRebuild_eq, takeRebuild_eq, ← resolveCabs_withAudio]
  rfl

theorem takeSyncLen_withAudio (c : State) (k n : Nat) (x : State) :
    takeSyncLen true k n (withAudio c x) = withAudio c (takeSyncLen true k n x) := by
  rw [ShowClock.takeSyncLen_lost, ShowClock.takeSyncLen_lost]
  rfl

theorem handLens_withAudio (c x : State) : handLens (withAudio c x) = withAudio c (handLens x) := by
  have taken : ∀ (ks : List Nat) (y : State),
      applyChanges true (ks.filterMap fun k => (ShowClock.newLen x k).map (.syncLen k)) (withAudio c y) =
        withAudio c (applyChanges true (ks.filterMap fun k => (ShowClock.newLen x k).map (.syncLen k)) y) := by
    intro ks
    induction ks with
    | nil => intro y; rfl
    | cons k t ih =>
      intro y
      cases hk : ShowClock.newLen x k with
      | none => rw [List.filterMap_cons_none (by rw [hk]; rfl)]; exact ih y
      | some n =>
        rw [List.filterMap_cons_some (by rw [hk]; rfl)]
        simp only [applyChanges, List.foldl_cons, applyChange, takeSyncLen_withAudio]
        exact ih _
  unfold handLens
  rw [show lensChanges (withAudio c x) = lensChanges x from rfl, show present (withAudio c x) = present x from rfl]
  split
  · rfl
  · rw [ShowClock.lensChanges_eq]
    exact taken _ (onClk (fun d => { d with handed := syncedLens x }) x)

theorem setTempo_withAudio (c : State) (v : Nat) (x : State) : setTempo v (withAudio c x) = withAudio c (setTempo v x) := by
  unfold setTempo
  by_cases same : clampNat 300 3000 v = x.clk.tempo
  · rw [if_pos same, if_pos (by exact same)]
  · rw [if_neg same, if_neg (by exact same), show present (withAudio c x) = present x from rfl]
    dsimp only
    split
    · rfl
    · exact handLens_withAudio c (onClk (fun d => { d with tempo := clampNat 300 3000 v }) x)

theorem commandTempo_withAudio (c : State) (v : Nat) (x : State) :
    commandTempo v (withAudio c x) = withAudio c (commandTempo v x) := by
  unfold commandTempo
  rw [show (withAudio c x).clk.source = x.clk.source from rfl, setTempo_withAudio]
  cases x.clk.source <;> rfl

theorem presetTempo_withAudio (c : State) (v : Option Nat) (x : State) :
    presetTempo v (withAudio c x) = withAudio c (presetTempo v x) := by
  unfold presetTempo
  cases v with
  | none => rfl
  | some t =>
    dsimp only
    rw [commandTempo_withAudio, show (withAudio c x).clk = x.clk from rfl]
    split <;> rfl

/-! ## A preset's tempo (R133) -/

theorem presetTempo_ignored {v : Option Nat} (h : v = none ∨ x.clk.lock = true ∨ x.clk.source = .external) : presetTempo v x = x := by
  unfold presetTempo
  cases v with
  | none => rfl
  | some t =>
    dsimp only
    rw [if_pos]
    simpa using h

theorem presetTempo_taken {t : Nat} (h : ¬ (x.clk.lock = true ∨ x.clk.source = .external)) :
    presetTempo (some t) x = commandTempo t x := if_neg (by simpa using h)

theorem presetTempo_present {v : Option Nat} (hp : present x = true) : ∃ d, presetTempo v x = { x with clk := d } ∧
    (v = none ∨ (x.clk.lock = true ∨ x.clk.source = .external) → d = x.clk) ∧
    (∀ t, v = some t → ¬ (x.clk.lock = true ∨ x.clk.source = .external) → d = { x.clk with
      tempo := clampNat 300 3000 t, tapLast := if x.clk.source = .tap then none else x.clk.tapLast
      taps := if x.clk.source = .tap then [] else x.clk.taps }) := by
  by_cases ignored : v = none ∨ (x.clk.lock = true ∨ x.clk.source = .external)
  · refine ⟨x.clk, presetTempo_ignored ignored, fun _ => rfl, fun t ht no => ?_⟩
    rcases ignored with rfl | h
    · cases ht
    · exact absurd h no
  · obtain ⟨t, rfl⟩ := Option.ne_none_iff_exists'.1 fun h => ignored (.inl h)
    have no : ¬ (x.clk.lock = true ∨ x.clk.source = .external) := fun h => ignored (.inr h)
    refine ⟨(commandTempo t x).clk, ?_, fun h => absurd h ignored, fun t' ht _ => ?_⟩
    · rw [presetTempo_taken no]
      unfold commandTempo
      rw [ShowClock.setTempo_plain (.inl hp)]
      cases x.clk.source <;> rfl
    · cases ht
      unfold commandTempo
      rw [ShowClock.setTempo_plain (.inl hp)]
      cases hs : x.clk.source with
      | external => exact absurd (.inr hs) no
      | internal => rfl
      | tap => rfl

/-! ## Two changes that are handed together -/

theorem hand_hand_present (b d : Change) (hp : present x = true) :
    hand d (hand b x) = { x with tone := { x.tone with changes := x.tone.changes ++ [b, d] } } := by
  rw [hand_present _ _ hp, hand_present _ _ (by exact hp)]
  dsimp only
  rw [List.append_assoc]
  rfl

theorem hand_hand_lost (b d : Change) (hp : present x = false) :
    hand d (hand b x) = applyChange true d (applyChange true b x) := by
  have lost : present (applyChange true b x) = false := by
    rw [present, ((AudioOnly.refl x).applyChange true b).mon]
    exact hp
  rw [hand_lost _ _ hp, hand_lost _ _ lost]

/-! ## The load -/

/-- The scene controller after the load of `l` with the map evaluated (R61, R79). -/
def loadedScene (l : Loaded) (c : SceneCtl) : SceneCtl :=
  { c with
    counter := c.counter + 1
    buffer := ⟨l.preset, min l.scene (l.record.scenes.length - 1), some l.record, c.counter + 1, l.stashSeq.isSome⟩
    driven := l.record.map.map (evalEntry c.controls l.record.chain) }

theorem evalMap_loadBuffer (l : Loaded) (s : State) :
    evalMap (loadBuffer l s) = { s with scene := loadedScene l s.scene } := rfl

/-- `s` with the load `l` in its buffer, its level recorded by the Switch Engine, and RUNNING. -/
def loadedRunning (l : Loaded) (s : State) : State :=
  let c : State := { s with scene := loadedScene l s.scene }
  { c with
    sw := { s.sw with level := effectiveLevel c }
    startup := { s.startup with phase := .running, load := none, joined := [] } }

theorem muteRise_startup (h : Holders) : (h.startup = true ∧ anyHolder { h with startup := false } = false) ↔
    h = ⟨false, false, true, false⟩ := by
  obtain ⟨a, b, c, d⟩ := h
  simp [anyHolder]
  tauto

/-- The release of the start-up holder while the clock is present. -/
theorem releaseStartupHolder_present (hp : present x = true) : releaseStartupHolder x = { x with tone := { x.tone with
    holders := { x.tone.holders with startup := false }
    changes := x.tone.changes ++ if x.tone.holders = ⟨false, false, true, false⟩ then [.muteRise 16] else [] } } := by
  have last := muteRise_startup x.tone.holders
  unfold releaseStartupHolder
  by_cases free : x.tone.holders.startup = false
  · rw [releaseHolder_free _ _ _ free, if_neg fun h => by simp [(last.2 h).1] at free, List.append_nil, ← free]
  · have held : x.tone.holders.startup = true := by simpa using free
    cases more : anyHolder { x.tone.holders with startup := false }
    · rw [releaseHolder_last_present _ held more hp, if_pos (last.1 ⟨held, more⟩)]
      rfl
    · rw [releaseHolder_more _ held more, if_neg fun h => by simp [(last.2 h).2] at more, List.append_nil]
      rfl

/-- The release of the start-up holder in a clock loss. -/
theorem releaseStartupHolder_lost (hp : present x = false) : releaseStartupHolder x = { x with tone := { x.tone with
    holders := { x.tone.holders with startup := false }
    mute := if x.tone.holders = (⟨false, false, true, false⟩ : Holders) then .rest 32768 else x.tone.mute } } := by
  have last := muteRise_startup x.tone.holders
  unfold releaseStartupHolder
  by_cases free : x.tone.holders.startup = false
  · rw [releaseHolder_free _ _ _ free, if_neg fun h => by simp [(last.2 h).1] at free, ← free]
  · have held : x.tone.holders.startup = true := by simpa using free
    cases more : anyHolder { x.tone.holders with startup := false }
    · rw [releaseHolder_last_lost _ held more hp, if_pos (last.1 ⟨held, more⟩)]
      rfl
    · rw [releaseHolder_more _ held more, if_neg fun h => by simp [(last.2 h).2] at more]
      rfl

/-! ## What a rebuild leaves -/

theorem cabResolve_clk (pos keep : Nat) (gain : Ramp) (phase : ResolvePhase) (x : State) :
    (cabResolve pos keep gain phase x).clk = x.clk := by
  unfold cabResolve
  cases instAt x pos with
  | none => rfl
  | some i => cases hi : i.proc <;> simp only [hi] <;> rfl

theorem resolveCabs_clk (n : Nat) (x : State) : (resolveCabs n x).clk = x.clk := by
  unfold resolveCabs
  generalize List.range n = l
  induction l generalizing x with
  | nil => rfl
  | cons k t ih => rw [List.foldl_cons, ih, cabResolve_clk]

/-- The images that are resolved change instances of the live chain alone. -/
theorem cabResolve_tone (pos keep : Nat) (gain : Ramp) (phase : ResolvePhase) (x : State) :
    (cabResolve pos keep gain phase x).tone = { x.tone with chain := (cabResolve pos keep gain phase x).tone.chain } := by
  unfold cabResolve
  cases instAt x pos with
  | none => rfl
  | some i => cases hi : i.proc <;> simp only [hi] <;> rfl

theorem resolveCabs_tone (n : Nat) (x : State) :
    (resolveCabs n x).tone = { x.tone with chain := (resolveCabs n x).tone.chain } := by
  unfold resolveCabs
  generalize List.range n = l
  induction l generalizing x with
  | nil => rfl
  | cons k t ih =>
    rw [List.foldl_cons]
    refine (ih _).trans ?_
    rw [cabResolve_tone k 0 (.rest 32768) .steady x]

theorem takeRebuild_tone (insts : List Inst) (x : State) : (takeRebuild insts x).tone =
    { x.tone with chain := (takeRebuild insts x).tone.chain, lanes := (rebuilt insts x).tone.lanes } := by
  rw [takeRebuild_eq]
  exact (resolveCabs_tone _ _).trans rfl

/-- A preset's tempo changes instances of the live chain alone in the Tone Engine. -/
theorem presetTempo_tone (v : Option Nat) (hp : present x = false) :
    (presetTempo v x).tone = { x.tone with chain := (presetTempo v x).tone.chain } := by
  have set : ∀ t, (setTempo t x).tone = { x.tone with chain := (setTempo t x).tone.chain } := fun t => by
    unfold setTempo
    dsimp only
    split
    · rfl
    · obtain ⟨chain, hx, -⟩ := ShowClock.handLens_lost (x := onClk (fun d => { d with tempo := clampNat 300 3000 t }) x) (by exact hp)
      rw [if_neg (by rw [hp]; decide), hx]
      rfl
  cases v with
  | none => rfl
  | some t =>
    unfold presetTempo commandTempo
    dsimp only
    split
    · rfl
    · cases x.clk.source with
      | external => rfl
      | internal => exact set t
      | tap => exact set t

theorem takeRebuild_clk (insts : List Inst) (x : State) : (takeRebuild insts x).clk = (rebuilt insts x).clk := by
  rw [takeRebuild_eq, resolveCabs_clk]

/-! ## The first load -/

/-- The registers that the load of `l` pushes. -/
def loadWrites (l : Loaded) (s : State) : List (Nat × Nat × Nat) := registerWrites false { s with scene := loadedScene l s.scene }

/-- The parts beside the audio after the first load of `l`, the chain gain landed at the level `v`. -/
def firstLoadRest (l : Loaded) (s : State) : State :=
  let v := effectiveLevel { s with scene := loadedScene l s.scene }
  withFlags (noticeBit .scene) (satsWritten (loadWrites l s)
    { loadedRunning l s with tone := { s.tone with chainGain := .rest v, chainRested := true } })

theorem finishFirstLoad_present (hp : present s = true) (hs : x = { s with startup := { s.startup with load := some l, joined := joined } }) :
    ∃ d, finishFirstLoad x = { firstLoadRest l s with
        clk := d
        tone := { s.tone with
          holders := { s.tone.holders with startup := false }
          changes := s.tone.changes ++ [.rebuild (effectiveInsts joined { s with scene := loadedScene l s.scene }),
              .gainSet .chain (effectiveLevel { s with scene := loadedScene l s.scene })] ++
            if s.tone.holders = ⟨false, false, true, false⟩ then [.muteRise 16] else [] } } ∧
      (l.record.tempo = none ∨ (s.clk.lock = true ∨ s.clk.source = .external) → d = s.clk) ∧
      (∀ t, l.record.tempo = some t → ¬ (s.clk.lock = true ∨ s.clk.source = .external) → d = { s.clk with
        tempo := clampNat 300 3000 t, tapLast := if s.clk.source = .tap then none else s.clk.tapLast
        taps := if s.clk.source = .tap then [] else s.clk.taps }) := by
  subst hs
  unfold finishFirstLoad
  dsimp only
  rw [evalMap_loadBuffer, hand_hand_present _ _ (by exact hp), pushImages_eq]
  generalize hq : satsWritten _ _ = q
  obtain ⟨d, hd, plain, taken⟩ := presetTempo_present (v := l.record.tempo) (x := q) (by rw [← hq]; exact hp)
  rw [hd, releaseStartupHolder_present (by rw [← hq]; exact hp)]
  refine ⟨d, ?_, ?_, ?_⟩
  · rw [← hq]
    rfl
  · rw [← hq] at plain
    exact plain
  · rw [← hq] at taken
    exact taken

/-- A rebuild and a chain level that are handed in a clock loss, the audio that of `s` still. -/
theorem hand_rebuild_lost (insts : List Inst) (v : Int) (hp : present c = false) (grafted : c = withAudio c s) :
    hand (.gainSet .chain v) (hand (.rebuild insts) c) =
      withAudio { c with tone := { c.tone with chainGain := .rest v, chainRested := true } } (takeRebuild insts s) := by
  have built : applyChange true (.rebuild insts) c = withAudio c (takeRebuild insts s) := by
    conv_lhs => rw [grafted]
    exact takeRebuild_withAudio c _ s
  rw [hand_hand_lost _ _ hp, built]
  simp only [applyChange, takeGain, onTone, Bool.or_true]
  rfl

theorem finishFirstLoad_lost (hp : present s = false) (hs : x = { s with startup := { s.startup with load := some l, joined := joined } }) :
    let w := presetTempo l.record.tempo (takeRebuild (effectiveInsts joined { s with scene := loadedScene l s.scene }) s)
    finishFirstLoad x = { firstLoadRest l s with
      area := w.area
      clk := w.clk
      tone := { w.tone with
        holders := { s.tone.holders with startup := false }
        chainGain := .rest (effectiveLevel { s with scene := loadedScene l s.scene })
        chainRested := true
        mute := if s.tone.holders = (⟨false, false, true, false⟩ : Holders) then .rest 32768 else w.tone.mute } } := by
  intro w
  have audio : AudioOnly s w := ((AudioOnly.refl s).takeRebuild _).presetTempo _
  have hw : presetTempo l.record.tempo (takeRebuild (effectiveInsts joined { s with scene := loadedScene l s.scene }) s) = w := rfl
  clear_value w
  subst hs
  unfold finishFirstLoad
  dsimp only
  rw [evalMap_loadBuffer, hand_rebuild_lost (s := s) _ _ (by exact hp) rfl, pushImages_eq]
  generalize hq : satsWritten _ _ = q
  have grafted : q = withAudio q (takeRebuild (effectiveInsts joined { s with scene := loadedScene l s.scene }) s) := by
    rw [← hq]
    rfl
  have holders : w.tone.holders = s.tone.holders := by
    have lost : present (takeRebuild (effectiveInsts joined { s with scene := loadedScene l s.scene }) s) = false := by
      rw [present, ((AudioOnly.refl s).takeRebuild _).mon]
      exact hp
    rw [← hw, presetTempo_tone _ lost, takeRebuild_tone]
  rw [grafted, presetTempo_withAudio, hw, releaseStartupHolder_lost (by rw [present]; exact audio.mon ▸ hp), ← hq]
  have mon := audio.mon
  simp only [withAudio, onStartup, onSw, raise, holders, mon]
  rfl

end Sys2Proof.Frame
end

section
/-! The first load as the claims say it, and the end of the start preset's read (R28, R114, R191). -/

namespace Sys2Proof.Frame

open Sys2Proof Sys2Proof.Machine

variable {x z s : State} {l : Loaded} {joined : List (Nat × List Nat)}

/-- The parts beside the audio are what the claim says. -/
theorem firstLoadRest_frame (hz : z = { firstLoadRest l s with tone := z.tone, area := z.area, clk := z.clk }) :
    z = { s with
      startup := { s.startup with phase := .running, load := none, joined := [] }
      scene := z.scene, sw := z.sw, tone := z.tone, area := z.area, clk := z.clk, sat := z.sat, link := z.link } ∧
    z.scene = loadedScene l s.scene ∧ z.sw = { s.sw with level := effectiveLevel z } ∧ ImagesPushed False s z ∧
    FlagsRaised False (noticeBit .scene) s z := by
  have never : False ↔ false = true := by simp
  refine ⟨?_, ?_, ?_, ?_, ?_⟩
  · rw [hz]; rfl
  · rw [hz]; rfl
  · rw [hz]; rfl
  · exact imagesPushed_of (y := { s with scene := loadedScene l s.scene }) never rfl (by rw [hz]; rfl) (by rw [hz]; rfl)
  · exact flagsRaised_of (y := { s with scene := loadedScene l s.scene }) never rfl (by rw [hz]; rfl) (by rw [hz]; rfl) rfl

theorem effectiveInsts_of_scene (j : List (Nat × List Nat)) (h : x.scene = z.scene) :
    effectiveInsts j x = effectiveInsts j z := by
  unfold effectiveInsts effectiveSlots
  simp only [h]

theorem finishFirstLoad_firstLoaded (hs : x = { s with startup := { s.startup with load := some l, joined := joined } }) :
    FirstLoaded l joined s (finishFirstLoad x) := by
  cases hp : present s
  · have hz := finishFirstLoad_lost hp hs
    dsimp only at hz
    generalize finishFirstLoad x = z at hz
    have parts : z = { firstLoadRest l s with tone := z.tone, area := z.area, clk := z.clk } := by rw [hz]
    obtain ⟨frame, scene, level, sat, link⟩ := firstLoadRest_frame parts
    have insts : effectiveInsts joined z = effectiveInsts joined { s with scene := loadedScene l s.scene } :=
      effectiveInsts_of_scene _ scene
    have chain : effectiveLevel z = effectiveLevel { s with scene := loadedScene l s.scene } :=
      congrArg (·.getD 0) (effective_of_scene scene)
    have clock : (takeRebuild (effectiveInsts joined { s with scene := loadedScene l s.scene }) s).clk.lock = s.clk.lock ∧
        (takeRebuild (effectiveInsts joined { s with scene := loadedScene l s.scene }) s).clk.source = s.clk.source := by
      rw [takeRebuild_clk]
      exact ⟨rfl, rfl⟩
    refine ⟨frame, scene, level, sat, link, fun h => absurd h (by rw [hp]; decide), fun _ => ?_⟩
    intro ignored built w
    have taken : w = presetTempo l.record.tempo (takeRebuild (effectiveInsts joined { s with scene := loadedScene l s.scene }) s) := by
      have same : built = takeRebuild (effectiveInsts joined { s with scene := loadedScene l s.scene }) s := by
        rw [← insts]
        rfl
      rw [← same] at clock ⊢
      clear_value built
      subst w
      cases l.record.tempo with
      | none => rfl
      | some t =>
        dsimp only
        by_cases no : ignored
        · rw [if_pos no, presetTempo_ignored]
          rw [clock.1, clock.2]
          exact .inr no
        · rw [if_neg no, presetTempo_taken]
          rw [clock.1, clock.2]
          exact no
    rw [taken, chain, hz]
    exact ⟨rfl, rfl, rfl⟩
  · obtain ⟨d, hz, plain, set⟩ := finishFirstLoad_present hp hs
    generalize finishFirstLoad x = z at hz
    have parts : z = { firstLoadRest l s with tone := z.tone, area := z.area, clk := z.clk } := by rw [hz]
    obtain ⟨frame, scene, level, sat, link⟩ := firstLoadRest_frame parts
    have insts : effectiveInsts joined z = effectiveInsts joined { s with scene := loadedScene l s.scene } :=
      effectiveInsts_of_scene _ scene
    have chain : effectiveLevel z = effectiveLevel { s with scene := loadedScene l s.scene } :=
      congrArg (·.getD 0) (effective_of_scene scene)
    refine ⟨frame, scene, level, sat, link, fun _ => ⟨by rw [hz]; rfl, ?_, ?_, ?_⟩, fun h => absurd h (by rw [hp]; decide)⟩
    · rw [insts, chain, hz, List.append_assoc]
    · rw [hz]
      exact plain
    · rw [hz]
      exact set

/-! ## A line join (R43) -/

theorem joinLines_cons (pos : Nat) (r : SlotRec) (t : List SlotRec) (m : AreaMan) : joinLines pos (r :: t) m =
    if lineNeed r.stype r.lclass = 0 then joinLines (pos + 1) t m
    else ((pos, (joinLine pos (lineNeed r.stype r.lclass) m).1) ::
        (joinLines (pos + 1) t (joinLine pos (lineNeed r.stype r.lclass) m).2).1,
      (joinLines (pos + 1) t (joinLine pos (lineNeed r.stype r.lclass) m).2).2) := rfl

theorem sumNat_eq_sum (l : List Nat) : sumNat l = l.sum := List.sum_eq_foldl.symm

theorem chainNeed_cons (r : SlotRec) (t : List SlotRec) : chainNeed (r :: t) = lineNeed r.stype r.lclass + chainNeed t := by
  simp only [chainNeed, sumNat_eq_sum, List.map_cons, List.sum_cons]

/-- A chain without a LINE need joins nothing. -/
theorem joinLines_none (pos : Nat) (c : List SlotRec) (m : AreaMan) (h : chainNeed c = 0) : joinLines pos c m = ([], m) := by
  induction c generalizing pos with
  | nil => rfl
  | cons r t ih =>
    rw [chainNeed_cons] at h
    rw [joinLines_cons, if_pos (by omega)]
    exact ih _ (by omega)

theorem joinLines_some (pos : Nat) (c : List SlotRec) (m : AreaMan) (h : 0 < chainNeed c) : (joinLines pos c m).1 ≠ [] := by
  induction c generalizing pos with
  | nil => cases h
  | cons r t ih =>
    rw [chainNeed_cons] at h
    rw [joinLines_cons]
    split
    · exact ih _ (by omega)
    · exact List.cons_ne_nil _ _

/-! ## The end of the start preset's read -/

/-- The load of the start preset, or of the fallback record (R114). -/
def startLoad (n : Nat) (s : State) : Loaded :=
  match readPlace (placeOf s n) with
  | some (some r) => if chainNeed r.chain ≤ freeAreas s.area then ⟨r, some n, s.link.startScene, none⟩
    else ⟨fallbackRecord, none, 0, none⟩
  | _ => ⟨fallbackRecord, none, 0, none⟩

theorem startPresetRead_eq (n : Nat) (s : State) : startPresetRead n s =
    let l := startLoad n s
    let s1 := { s with
      startup := { s.startup with load := some l, joined := (joinLines 0 l.record.chain s.area).1 }
      store := { s.store with op := none }, area := (joinLines 0 l.record.chain s.area).2 }
    if (joinLines 0 l.record.chain s.area).1 = [] then finishFirstLoad s1 else s1 := rfl

/-- The row of the start preset's read. -/
def startReadCompletion (y : State) : State :=
  match y.store.op with
  | some (.startRead (.preset n)) => startPresetRead n y
  | _ => y

/-- Settles O16: the read hands the load to `finishFirstLoad` where nothing is joined. -/
theorem firstLoadReachesRunning : Obligations.FirstLoadReachesRunning := by
  unfold Obligations.FirstLoadReachesRunning
  intro n s hl
  have row : exec .startPresetReadCompletion s = .next (startReadCompletion (prelude s)) := outside_live hl startReadCompletion
  rw [row]
  generalize prelude s = y
  intro y
  refine ⟨fun other => congrArg _ ?_, fun l op which => ?_⟩
  · unfold startReadCompletion
    split
    · next op => exact absurd op (other _)
    · rfl
  have load : startLoad n y = l := by
    unfold startLoad
    rcases which with ⟨r, place, fits, rfl⟩ | ⟨short, rfl⟩
    · rw [place]
      exact if_pos fits
    · split
      · next r place => exact if_neg (by have := short r place; omega)
      · rfl
  have here : startReadCompletion y = startPresetRead n y := by
    unfold startReadCompletion
    rw [op]
  rw [here, startPresetRead_eq, load]
  dsimp only
  refine ⟨fun need => ?_, fun need => ?_⟩
  · rw [if_neg (joinLines_some 0 _ _ need)]
  · rw [joinLines_none 0 _ _ need]
    exact ⟨_, rfl, finishFirstLoad_firstLoaded rfl⟩

end Sys2Proof.Frame
end

section
/-! Line joins and fills (R43, R44). -/

namespace Sys2Proof.Frame

open Sys2Proof Sys2Proof.Machine

variable {s y : State} {m : AreaMan}

/-! ## A line join takes FREE areas -/

/-- The areas with those of `ks` marked as LINE, FILLING. -/
def linesMarked (h : Holder) (ks : List (Nat × Nat)) (areas : List Area) : List Area :=
  ks.foldl (fun areas k => areas.set k.1 (.line h false (k.2 == 1))) areas

/-- FREE areas that are marked are FREE no more; no other area becomes FREE. -/
theorem linesMarked_free (h : Holder) (ks : List (Nat × Nat)) (areas : List Area) (nodup : (ks.map Prod.fst).Nodup)
    (free : ∀ k ∈ ks, areas[k.1]? = some .free) :
    (linesMarked h ks areas).countP isFree + ks.length = areas.countP isFree ∧
      ∀ a : Nat, (linesMarked h ks areas)[a]? = some .free → areas[a]? = some .free := by
  induction ks generalizing areas with
  | nil => exact ⟨rfl, fun _ h => h⟩
  | cons k t ih =>
    obtain ⟨fresh, rest⟩ := List.nodup_cons.1 nodup
    have here : areas[k.1]? = some .free := free k (List.mem_cons_self ..)
    obtain ⟨lt, at_⟩ := List.getElem?_eq_some_iff.1 here
    have later : ∀ q ∈ t, (areas.set k.1 (.line h false (k.2 == 1)))[q.1]? = some .free := fun q hq => by
      have other : k.1 ≠ q.1 := fun same => fresh (same ▸ List.mem_map_of_mem hq)
      rw [List.getElem?_set_ne other]
      exact free q (List.mem_cons_of_mem _ hq)
    obtain ⟨count, back⟩ := ih _ rest later
    have set : (areas.set k.1 (.line h false (k.2 == 1))).countP isFree = areas.countP isFree - 1 := by
      rw [List.countP_set lt, at_]
      rfl
    have some : 0 < areas.countP isFree := List.countP_pos_iff.2 ⟨_, List.mem_of_getElem? here, rfl⟩
    refine ⟨?_, fun a ha => ?_⟩
    · rw [List.length_cons]
      unfold linesMarked at count ⊢
      rw [List.foldl_cons]
      omega
    · have ha := back a ha
      by_cases same : k.1 = a
      · rw [← same]
        exact here
      · rwa [List.getElem?_set_ne same] at ha

theorem freeAreas_eq (m : AreaMan) : freeAreas m = m.areas.countP isFree := List.countP_eq_length_filter.symm

theorem length_indicesFrom {α : Type} (p : α → Bool) (k : Nat) (l : List α) : (indicesFrom p k l).length = l.countP p := by
  induction l generalizing k with
  | nil => rfl
  | cons a t ih =>
    unfold indicesFrom
    rw [List.countP_cons]
    split <;> simp [ih]

theorem mem_joinLine {pos need a : Nat} (h : a ∈ (joinLine pos need m).1) : m.areas[a]? = some .free := by
  obtain ⟨r, x, hx, free, rfl⟩ := mem_indicesFrom.1 (List.mem_of_mem_take h)
  rw [Nat.zero_add, hx, (isFree_iff x).1 free]

theorem joinLine_free {pos need : Nat} (h : need ≤ freeAreas m) : (joinLine pos need m).1.length = need ∧
    freeAreas (joinLine pos need m).2 + need = freeAreas m ∧
    ∀ a : Nat, (joinLine pos need m).2.areas[a]? = some Area.free → m.areas[a]? = some Area.free := by
  have length : (joinLine pos need m).1.length = need := by
    show ((indicesFrom isFree 0 m.areas).take need).length = need
    rw [List.length_take, length_indicesFrom, ← freeAreas_eq]
    omega
  obtain ⟨count, back⟩ := linesMarked_free (.incoming pos)
    ((joinLine pos need m).1.zip (List.range (joinLine pos need m).1.length)) m.areas
    (by
      rw [List.map_fst_zip (by simp)]
      exact ((indicesFrom_pairwise isFree 0 m.areas).imp Nat.ne_of_lt).sublist (List.take_sublist ..))
    (fun k hk => mem_joinLine (List.of_mem_zip hk).1)
  refine ⟨length, ?_, back⟩
  have marked : (joinLine pos need m).2.areas = linesMarked (.incoming pos)
    ((joinLine pos need m).1.zip (List.range (joinLine pos need m).1.length)) m.areas := rfl
  rw [List.length_zip, List.length_range, Nat.min_self, ← marked, length] at count
  rw [freeAreas_eq, freeAreas_eq]
  exact count

theorem joinLines_free (pos : Nat) (chain : List SlotRec) (m : AreaMan) (h : chainNeed chain ≤ freeAreas m) :
    freeAreas (joinLines pos chain m).2 + chainNeed chain = freeAreas m ∧
    ∀ j ∈ (joinLines pos chain m).1, pos ≤ j.1 ∧ ∃ x, chain[j.1 - pos]? = some x ∧ j.2.length = lineNeed x.stype x.lclass ∧
      ∀ a ∈ j.2, m.areas[a]? = some .free := by
  induction chain generalizing pos m with
  | nil => exact ⟨rfl, fun j hj => by cases hj⟩
  | cons r t ih =>
    rw [chainNeed_cons] at h ⊢
    have shift : ∀ j, pos + 1 ≤ j → (r :: t)[j - pos]? = t[j - (pos + 1)]? := fun j hj => by
      rw [show j - pos = (j - (pos + 1)) + 1 by omega, List.getElem?_cons_succ]
    rw [joinLines_cons]
    by_cases none : lineNeed r.stype r.lclass = 0
    · rw [if_pos none, none, Nat.zero_add]
      obtain ⟨count, members⟩ := ih (pos + 1) m (by omega)
      refine ⟨count, fun j hj => ?_⟩
      obtain ⟨le, x, hx, rest⟩ := members j hj
      exact ⟨by omega, x, (shift _ le).trans hx, rest⟩
    · rw [if_neg none]
      obtain ⟨length, left, back⟩ := joinLine_free (pos := pos) (need := lineNeed r.stype r.lclass) (m := m) (by omega)
      obtain ⟨count, members⟩ := ih (pos + 1) (joinLine pos (lineNeed r.stype r.lclass) m).2 (by omega)
      refine ⟨by dsimp only; omega, fun j hj => ?_⟩
      rcases List.mem_cons.1 hj with rfl | hj
      · exact ⟨Nat.le_refl _, r, by simp, length, fun a ha => mem_joinLine (pos := pos) ha⟩
      · obtain ⟨le, x, hx, len, free⟩ := members j hj
        exact ⟨by omega, x, (shift _ le).trans hx, len, fun a ha => back a (free a ha)⟩

/-! ## The end of a fill -/

theorem fillArea_line {a : Nat} {h : Holder} {b second : Bool} (ha : m.areas[a]? = some (.line h b second)) :
    fillArea a m = { m with
      dram := dramClear m.dram (a * 262144) ((a + 1) * 262144), areas := m.areas.set a (.line h true second) } := by
  unfold fillArea modAt
  rw [ha]
  simp only [areaAddr, Config.areaWords, Nat.add_zero]

theorem isFilling_line {a : Nat} {h : Holder} {second : Bool} (ha : m.areas[a]? = some (.line h false second)) :
    isFilling m a = true := by
  unfold isFilling
  rw [ha]
  rfl

/-- An area's fill ends: the join of the switch is looked at again (R44). -/
def filledArea (a : Nat) (h : Holder) (second : Bool) (y : State) : State :=
  let m : AreaMan := { y.area with
    dram := dramClear y.area.dram (a * 262144) ((a + 1) * 262144)
    areas := y.area.areas.set a (.line h true second) }
  { y with
    area := m
    sw := { y.sw with inflight := y.sw.inflight.map fun f =>
      if f.join = .filling ∧ joinReady m f.joined = true then { f with join := .complete } else f } }

theorem fillEnd_line {a : Nat} {h : Holder} {second : Bool} (ha : y.area.areas[a]? = some (.line h false second)) :
    fillEnd a y = if y.startup.phase = .firstLoad ∧ joinReady (filledArea a h second y).area y.startup.joined = true
      then finishFirstLoad (filledArea a h second y) else filledArea a h second y := by
  unfold fillEnd
  rw [if_pos (isFilling_line ha)]
  dsimp only [onArea]
  rw [fillArea_line ha]
  rfl

/-- Settles O23: the join's counts by `joinLines_free`, the fill's end by `fillEnd_line` and `finishFirstLoad_firstLoaded`. -/
theorem linesJoinAndFill : Obligations.LinesJoinAndFill := by
  unfold Obligations.LinesJoinAndFill
  refine ⟨fun c m h => ?_, fun _ _ _ => rfl, fun f chain s hl hf hc => ?_, fun a h second s hl => ?_⟩
  · obtain ⟨count, members⟩ := joinLines_free 0 c m h
    refine ⟨count, fun j hj => ?_⟩
    obtain ⟨-, x, hx, rest⟩ := members j hj
    exact ⟨x, hx, rest⟩
  · have row : exec .lineJoin s = .next (lineJoinStep s) := inside_live hl lineJoinStep
    have incoming : incomingChain s f = chain := by
      rw [hc]
      unfold incomingChain
      cases f.loaded <;> rfl
    have due : joinDue s = ((f.phase == .fadingOut) && (f.join == .waiting) && decide (chainNeed chain ≤ freeAreas s.area)) := by
      unfold joinDue
      rw [hf]
      dsimp only
      rw [incoming]
    rw [row]
    unfold lineJoinStep
    rw [due]
    refine ⟨fun fading waiting fits => ?_, fun no => congrArg _ (if_neg fun h => ?_)⟩
    · rw [if_pos (by rw [fading, waiting, decide_eq_true fits]; rfl), hf]
      dsimp only
      rw [incoming]
      rfl
    · simp only [Bool.and_eq_true, beq_iff_eq, decide_eq_true_eq] at h
      obtain ⟨⟨fading, waiting⟩, fits⟩ := h
      rcases no with no | no | no
      · exact no fading
      · exact no waiting
      · omega
  · have row : exec (.fillCompletion a) s = .next (fillEnd a.val (prelude s)) := outside_live hl (fillEnd a.val)
    rw [row]
    generalize prelude s = y
    intro y m z
    have hz : z = filledArea a.val h second y := rfl
    refine ⟨fun no => ?_, fun line other => ?_, fun l line first ready load => ?_⟩
    · refine congrArg _ ?_
      unfold fillEnd
      rw [no]
      rfl
    · rw [fillEnd_line line]
      refine congrArg _ ((if_neg ?_).trans hz.symm)
      rintro ⟨first, ready⟩
      rcases other with no | no
      · exact no first
      · exact absurd ready (by rw [show (filledArea a.val h second y).area = m from rfl, no]; decide)
    · rw [fillEnd_line line, if_pos ⟨first, ready⟩]
      refine ⟨_, rfl, finishFirstLoad_firstLoaded ?_⟩
      rw [← load]
      rfl

end Sys2Proof.Frame
end

section
/-! The swap (R106): capture and load, what it hands, the Tuner's exit, and the completion in a clock loss. -/

namespace Sys2Proof.Frame

open Sys2Proof Sys2Proof.Machine

variable {x y z s : State}

/-! ## The Tuner's exit (R109, R118) -/

/-- The Tuner that a switch takes to OFF. -/
def tunerOff (t : Tuner) : Tuner :=
  { t with
    mode := .off, det := {}, ring := [], outliers := 0, prevStamp := none, reading := none, noSignal := false
    state := .silent, publish := false }

theorem setTunerMode_off (h : x.tuner.mode ≠ .off) : setTunerMode .off x = raise .tuner
    (if x.tuner.mode = .mute then releaseTunerHolder { x with tuner := tunerOff x.tuner } else { x with tuner := tunerOff x.tuner }) := by
  rw [setTunerMode_change (Ne.symm h)]
  unfold modeHolder modeTuner
  rw [if_neg (by decide), if_neg h, if_pos rfl]
  rfl

theorem lastHolder_tuner (h : Holders) : (h.tuner = true ∧ anyHolder { h with tuner := false } = false) ↔
    h = ⟨true, false, false, false⟩ := by
  obtain ⟨a, b, c, d⟩ := h
  simp [anyHolder]
  tauto

theorem releaseTunerHolder_present (hp : present x = true) : releaseTunerHolder x = { x with tone := { x.tone with
    holders := { x.tone.holders with tuner := false }
    changes := x.tone.changes ++ if x.tone.holders = ⟨true, false, false, false⟩ then [.muteRise 16] else [] } } := by
  have last := lastHolder_tuner x.tone.holders
  unfold releaseTunerHolder
  by_cases free : x.tone.holders.tuner = false
  · rw [releaseHolder_free _ _ _ free, if_neg fun h => by simp [(last.2 h).1] at free, List.append_nil, ← free]
  · have held : x.tone.holders.tuner = true := by simpa using free
    cases more : anyHolder { x.tone.holders with tuner := false }
    · rw [releaseHolder_last_present _ held more hp, if_pos (last.1 ⟨held, more⟩)]
      rfl
    · rw [releaseHolder_more _ held more, if_neg fun h => by simp [(last.2 h).2] at more, List.append_nil]
      rfl

theorem releaseTunerHolder_lost (hp : present x = false) : releaseTunerHolder x = { x with tone := { x.tone with
    holders := { x.tone.holders with tuner := false }
    mute := if x.tone.holders = (⟨true, false, false, false⟩ : Holders) then .rest 32768 else x.tone.mute } } := by
  have last := lastHolder_tuner x.tone.holders
  unfold releaseTunerHolder
  by_cases free : x.tone.holders.tuner = false
  · rw [releaseHolder_free _ _ _ free, if_neg fun h => by simp [(last.2 h).1] at free, ← free]
  · have held : x.tone.holders.tuner = true := by simpa using free
    cases more : anyHolder { x.tone.holders with tuner := false }
    · rw [releaseHolder_last_lost _ held more hp, if_pos (last.1 ⟨held, more⟩)]
      rfl
    · rw [releaseHolder_more _ held more, if_neg fun h => by simp [(last.2 h).2] at more]
      rfl

/-- A switch's exit from the Tuner while the clock is present. -/
theorem exitTuner_present (e : Bool) (hp : present x = true) :
    let exits := e = true ∧ x.tuner.mode ≠ .off
    let unmutes := exits ∧ x.tuner.mode = .mute
    (if e then setTunerMode .off x else x) = withFlags (if exits then noticeBit .tuner else 0) { x with
      tuner := if exits then tunerOff x.tuner else x.tuner
      tone := { x.tone with
        holders := if unmutes then { x.tone.holders with tuner := false } else x.tone.holders
        changes := x.tone.changes ++ if unmutes ∧ x.tone.holders = ⟨true, false, false, false⟩ then [.muteRise 16] else [] } } := by
  intro exits unmutes
  by_cases h : exits
  · rw [if_pos h.1, setTunerMode_off h.2, if_pos h, if_pos h]
    by_cases m : x.tuner.mode = .mute
    · have u : unmutes := ⟨h, m⟩
      rw [if_pos m, if_pos u, releaseTunerHolder_present (by exact hp), if_congr (and_iff_right u) rfl rfl]
      rfl
    · have u : ¬ unmutes := fun u => m u.2
      rw [if_neg m, if_neg u, if_neg fun both => u both.1, List.append_nil]
      rfl
  · have u : ¬ unmutes := fun u => h u.1
    have stays : (if e then setTunerMode .off x else x) = x := by
      by_cases he : e = true
      · rw [if_pos he, setTunerMode_same]
        exact (not_not.1 fun off => h ⟨he, fun o => off o.symm⟩)
      · exact if_neg he
    rw [stays, if_neg h, if_neg h, if_neg u, if_neg fun both => u both.1, List.append_nil, withFlags_zero]

/-- A switch's exit from the Tuner in a clock loss. -/
theorem exitTuner_lost (e : Bool) (hp : present x = false) :
    let exits := e = true ∧ x.tuner.mode ≠ .off
    let unmutes := exits ∧ x.tuner.mode = .mute
    (if e then setTunerMode .off x else x) = withFlags (if exits then noticeBit .tuner else 0) { x with
      tuner := if exits then tunerOff x.tuner else x.tuner
      tone := { x.tone with
        holders := if unmutes then { x.tone.holders with tuner := false } else x.tone.holders
        mute := if unmutes ∧ x.tone.holders = (⟨true, false, false, false⟩ : Holders) then .rest 32768 else x.tone.mute } } := by
  intro exits unmutes
  by_cases h : exits
  · rw [if_pos h.1, setTunerMode_off h.2, if_pos h, if_pos h]
    by_cases m : x.tuner.mode = .mute
    · have u : unmutes := ⟨h, m⟩
      rw [if_pos m, if_pos u, releaseTunerHolder_lost (by exact hp), if_congr (and_iff_right u) rfl rfl]
      rfl
    · have u : ¬ unmutes := fun u => m u.2
      rw [if_neg m, if_neg u, if_neg fun both => u both.1]
      rfl
  · have u : ¬ unmutes := fun u => h u.1
    have stays : (if e then setTunerMode .off x else x) = x := by
      by_cases he : e = true
      · rw [if_pos he, setTunerMode_same]
        exact (not_not.1 fun off => h ⟨he, fun o => off o.symm⟩)
      · exact if_neg he
    rw [stays, if_neg h, if_neg h, if_neg u, if_neg fun both => u both.1, withFlags_zero]

/-! ## Capture and load (R79, R89, R90) -/

/-- Does the load leave the stash with its entry (R90)? -/
def stashLeaves (l : Loaded) (c : SceneCtl) : Bool :=
  match l.stashSeq with
  | some q => c.stash.any fun e => e.seq == q
  | none => false

/-- The stash without the entry that is loaded. -/
def stashWithout (l : Loaded) (c : SceneCtl) : List StashEntry :=
  match l.stashSeq with
  | some q => c.stash.filter fun e => !(e.seq == q)
  | none => c.stash

/-- Is the outgoing buffer captured (R89)? -/
def captures (f : Inflight) (b : Buffer) : Bool := b.dirty && !f.req.discard && b.record.isSome

/-- The buffer joins the stash as the newest; a full stash drops its oldest. -/
def captureIn (b : Buffer) (r : Record) (c : SceneCtl) : SceneCtl :=
  let kept := c.stash.filter fun e => e.preset != b.preset
  let entry : StashEntry := ⟨b.preset, b.scene, r, b.seq⟩
  if kept.length < 4 then { c with stash := kept ++ [entry] }
  else { c with stash := kept.tail ++ [entry], drops := c.drops + 1, lastDropped := (kept.head?).bind (·.preset) }

/-- The stash after the swap's capture. -/
def stashAfter (f : Inflight) (l : Loaded) (c : SceneCtl) : SceneCtl :=
  let d := { c with stash := stashWithout l c }
  match c.buffer.record with
  | some r => if captures f c.buffer then captureIn c.buffer r d else d
  | none => d

/-- The scene controller after a preset switch's swap. -/
def swapScene (f : Inflight) (l : Loaded) (c : SceneCtl) : SceneCtl := { loadedScene l (stashAfter f l c) with posMap := none }

theorem stashAfter_frame (f : Inflight) (l : Loaded) (c : SceneCtl) : stashAfter f l c = { c with
    stash := (stashAfter f l c).stash, drops := (stashAfter f l c).drops, lastDropped := (stashAfter f l c).lastDropped } := by
  unfold stashAfter
  cases c.buffer.record with
  | none => rfl
  | some r =>
    dsimp only
    split
    · unfold captureIn
      dsimp only
      split <;> rfl
    · rfl

/-- The buffer of the preset switch, and what else the load sets. -/
theorem swapScene_buffer (f : Inflight) (l : Loaded) (c : SceneCtl) :
    (swapScene f l c).buffer = ⟨l.preset, min l.scene (l.record.scenes.length - 1), some l.record, c.counter + 1, l.stashSeq.isSome⟩ ∧
    (swapScene f l c).counter = c.counter + 1 ∧ (swapScene f l c).posMap = none ∧ (swapScene f l c).controls = c.controls ∧
    (swapScene f l c).driven = l.record.map.map (evalEntry c.controls l.record.chain) := by
  unfold swapScene
  rw [stashAfter_frame]
  exact ⟨rfl, rfl, rfl, rfl, rfl⟩

theorem stashLeave_eq (p : StashEntry → Bool) (s : State) : stashLeave p s =
    withFlags (if s.scene.stash.any p then noticeBit .stash else 0)
      { s with scene := { s.scene with stash := s.scene.stash.filter fun e => !p e } } := by
  unfold stashLeave
  by_cases h : s.scene.stash.any p = true
  · rw [if_pos h, if_pos h]
    rfl
  · have all : s.scene.stash.filter (fun e => !p e) = s.scene.stash := List.filter_eq_self.2 fun e he => by
      cases hp : p e
      · rfl
      · exact absurd (List.any_eq_true.2 ⟨e, he, hp⟩) h
    rw [if_neg h, if_neg h, withFlags_zero, all]

theorem stashCapture_eq {r : Record} (h : s.scene.buffer.record = some r) :
    stashCapture s = withFlags (noticeBit .stash) { s with scene := captureIn s.scene.buffer r s.scene } := by
  unfold stashCapture
  dsimp only
  rw [h]
  dsimp only
  unfold stashOverflow captureIn
  by_cases room : (s.scene.stash.filter fun e => e.preset != s.scene.buffer.preset).length < 4
  · rw [if_pos (by exact room), if_pos room]
    rfl
  · rw [if_neg (by exact room), if_neg room]
    rfl

/-- Does the swap change the stash? -/
def stashFlag (f : Inflight) (l : Loaded) (c : SceneCtl) : BitVec 16 :=
  if stashLeaves l c || captures f c.buffer then noticeBit .stash else 0

/-- The load's own entry leaves the stash (R90). -/
def stashGone (l : Loaded) (s : State) : State :=
  match l.stashSeq with
  | some q => stashLeave (fun e => e.seq == q) s
  | none => s

theorem stashGone_eq (l : Loaded) (s : State) : stashGone l s = withFlags (if stashLeaves l s.scene then noticeBit .stash else 0)
    { s with scene := { s.scene with stash := stashWithout l s.scene } } := by
  unfold stashGone stashLeaves stashWithout
  cases l.stashSeq with
  | none => exact (withFlags_zero s).symm
  | some q => exact stashLeave_eq _ _

theorem stashCapture_none (h : s.scene.buffer.record = none) : stashCapture s = s := by
  unfold stashCapture
  dsimp only
  rw [h]

/-- The stash after leave and capture. -/
theorem stashCaptured_eq (f : Inflight) (l : Loaded) (s : State) :
    (if s.scene.buffer.dirty && !f.req.discard then stashCapture (stashGone l s) else stashGone l s) =
      withFlags (stashFlag f l s.scene) { s with scene := stashAfter f l s.scene } := by
  have gone := stashGone_eq l s
  have buffer : (stashGone l s).scene.buffer = s.scene.buffer := by rw [gone]; rfl
  unfold stashFlag stashAfter captures
  cases hr : s.scene.buffer.record with
  | none => rw [stashCapture_none (by rw [buffer, hr]), ite_self, gone]; simp
  | some r =>
    rw [stashCapture_eq (by rw [buffer, hr]), buffer]
    by_cases h : (s.scene.buffer.dirty && !f.req.discard) = true
    · rw [if_pos h, h, gone]
      refine (withFlags_withFlags (noticeBit .stash) _
        { s with scene := captureIn s.scene.buffer r { s.scene with stash := stashWithout l s.scene } }).trans ?_
      cases stashLeaves l s.scene <;> rfl
    · have no : (s.scene.buffer.dirty && !f.req.discard) = false := by simpa using h
      rw [if_neg h, no, gone]
      simp

theorem swapLoad_eq {f : Inflight} {l : Loaded} (h : f.loaded = some l) :
    evalMap (onScene (fun c => { c with posMap := none }) (swapLoad f s)) =
      withFlags (stashFlag f l s.scene) { s with scene := swapScene f l s.scene } := by
  have load : swapLoad f s = loadBuffer l
      (if s.scene.buffer.dirty && !f.req.discard then stashCapture (stashGone l s) else stashGone l s) := by
    unfold swapLoad
    rw [h] <;> rfl
  rw [load, stashCaptured_eq]
  rfl

/-! ## What the swap hands (R106) -/

/-- The Switch Engine in FADING_IN, the level `v` recorded. -/
def swapSw (f : Inflight) (v : Int) (w : SwitchEng) : SwitchEng :=
  { w with level := v, reservation := false, inflight := some { f with phase := .fadingIn } }

/-- The new buffer's scene controller `sc` and the switch in FADING_IN. -/
def swapBase (f : Inflight) (sc : SceneCtl) (flag : BitVec 16) (s : State) : State :=
  withFlags flag { s with scene := sc, sw := swapSw f (effectiveLevel { s with scene := sc }) s.sw }

/-- The parts beside the audio after the swap, but for the completion. -/
def swapRest (f : Inflight) (sc : SceneCtl) (flag : BitVec 16) (only : Bool) (s : State) : State :=
  let exits := f.req.exitTuner = true ∧ s.tuner.mode ≠ .off
  let c := swapBase f sc flag s
  withFlags (noticeBit .scene) (withFlags (if exits then noticeBit .tuner else 0)
    { satsWritten (registerWrites only c) c with tuner := if exits then tunerOff s.tuner else s.tuner })

/-- What the swap does after the load, a REBUILD without a tempo. -/
def swapHands (f : Inflight) (tempo : Option Nat) (only : Bool) (fadeIn : Nat) (c : State) : State :=
  let v := effectiveLevel c
  let c2 := onSw (swapSw f v) c
  let c4 := hand (if present c then .gainTarget .chain v fadeIn else .gainSet .chain v) (hand (.rebuild (effectiveInsts f.joined c2)) c2)
  let c5 := pushImages only (presetTempo tempo c4)
  raise .scene (if f.req.exitTuner then setTunerMode .off c5 else c5)

theorem swapHands_present (f : Inflight) (sc : SceneCtl) (flag : BitVec 16) (tempo : Option Nat) (only : Bool) (n : Nat)
    (hp : present s = true) :
    let exits := f.req.exitTuner = true ∧ s.tuner.mode ≠ .off
    let unmutes := exits ∧ s.tuner.mode = .mute
    ∃ d, swapHands f tempo only n (withFlags flag { s with scene := sc }) = { swapRest f sc flag only s with
        clk := d
        tone := { s.tone with
          holders := if unmutes then { s.tone.holders with tuner := false } else s.tone.holders
          changes := s.tone.changes ++ [.rebuild (effectiveInsts f.joined { s with scene := sc }),
              .gainTarget .chain (effectiveLevel { s with scene := sc }) n] ++
            if unmutes ∧ s.tone.holders = ⟨true, false, false, false⟩ then [.muteRise 16] else [] } } ∧
      (tempo = none ∨ (s.clk.lock = true ∨ s.clk.source = .external) → d = s.clk) ∧
      (∀ t, tempo = some t → ¬ (s.clk.lock = true ∨ s.clk.source = .external) → d = { s.clk with
        tempo := clampNat 300 3000 t, tapLast := if s.clk.source = .tap then none else s.clk.tapLast
        taps := if s.clk.source = .tap then [] else s.clk.taps }) := by
  intro exits unmutes
  unfold swapHands
  dsimp only
  have here : present (withFlags flag { s with scene := sc }) = true := hp
  rw [if_pos here, hand_hand_present _ _ (by exact hp)]
  generalize hq : ({ onSw _ _ with tone := _ } : State) = q
  obtain ⟨d, hd, plain, taken⟩ := presetTempo_present (v := tempo) (x := q) (by rw [← hq]; exact hp)
  rw [hd, pushImages_eq, exitTuner_present _ (by rw [← hq]; exact hp)]
  refine ⟨d, ?_, ?_, ?_⟩
  · rw [← hq]
    rfl
  · rw [← hq] at plain
    exact plain
  · rw [← hq] at taken
    exact taken

theorem swapHands_lost (f : Inflight) (sc : SceneCtl) (flag : BitVec 16) (tempo : Option Nat) (only : Bool) (n : Nat)
    (hp : present s = false) :
    let exits := f.req.exitTuner = true ∧ s.tuner.mode ≠ .off
    let unmutes := exits ∧ s.tuner.mode = .mute
    let w := presetTempo tempo (takeRebuild (effectiveInsts f.joined { s with scene := sc }) s)
    swapHands f tempo only n (withFlags flag { s with scene := sc }) = { swapRest f sc flag only s with
      area := w.area
      clk := w.clk
      tone := { w.tone with
        chainGain := .rest (effectiveLevel { s with scene := sc })
        chainRested := true
        holders := if unmutes then { s.tone.holders with tuner := false } else s.tone.holders
        mute := if unmutes ∧ s.tone.holders = (⟨true, false, false, false⟩ : Holders) then .rest 32768 else w.tone.mute } } := by
  intro exits unmutes w
  have audio : AudioOnly s w := ((AudioOnly.refl s).takeRebuild _).presetTempo _
  have hw : presetTempo tempo (takeRebuild (effectiveInsts f.joined { s with scene := sc }) s) = w := rfl
  have holders : w.tone.holders = s.tone.holders := by
    have lost : present (takeRebuild (effectiveInsts f.joined { s with scene := sc }) s) = false := by
      rw [present, ((AudioOnly.refl s).takeRebuild _).mon]
      exact hp
    rw [← hw, presetTempo_tone _ lost, takeRebuild_tone]
  clear_value w
  have no : ¬ present (withFlags flag { s with scene := sc }) = true := by
    show ¬ present s = true
    rw [hp]
    decide
  unfold swapHands
  dsimp only
  rw [if_neg no, hand_rebuild_lost (s := s) _ _ (by exact hp) rfl, presetTempo_withAudio]
  generalize hr : takeRebuild (effectiveInsts f.joined (onSw _ _)) s = r
  have same : takeRebuild (effectiveInsts f.joined { s with scene := sc }) s = r := hr
  rw [same] at hw
  have mon := audio.mon
  rw [hw, pushImages_eq, exitTuner_lost _ (by
    show present { s with mon := w.mon } = false
    rw [mon]
    exact hp)]
  simp only [withAudio, raise, holders, mon]
  rfl

/-! ## In the terms of the claim -/

theorem withFlags_link (all : BitVec 16) (h : x.link = y.link) : (withFlags all x).link = (withFlags all y).link := by
  rw [withFlags, withFlags, h]

/-- The flags of the swap beside those of the registers it pushes. -/
theorem swapRest_link (f : Inflight) (sc : SceneCtl) (flag more : BitVec 16) (only : Bool) (s : State) :
    (withFlags more (swapRest f sc flag only s)).link =
      (withFlags (noticeBit .scene ||| (flag ||| more) |||
          (if f.req.exitTuner = true ∧ s.tuner.mode ≠ .off then noticeBit .tuner else 0))
        (satsWritten (registerWrites only { s with scene := sc }) { s with scene := sc })).link := by
  have left : (withFlags more (swapRest f sc flag only s)).link = (withFlags more (withFlags (noticeBit .scene)
      (withFlags (if f.req.exitTuner = true ∧ s.tuner.mode ≠ .off then noticeBit .tuner else 0)
        (withFlags (if fallsBehind (registerWrites only { s with scene := sc }) { s with scene := sc }
          then noticeBit .satellite else 0) (withFlags flag s))))).link := rfl
  have right : ∀ all, (withFlags all (satsWritten (registerWrites only { s with scene := sc }) { s with scene := sc })).link =
      (withFlags all (withFlags (if fallsBehind (registerWrites only { s with scene := sc }) { s with scene := sc }
          then noticeBit .satellite else 0) s)).link := fun _ => rfl
  rw [left, right]
  simp only [withFlags_withFlags]
  generalize (if fallsBehind _ _ = true then noticeBit NoticeKind.satellite else 0) = a
  generalize (if f.req.exitTuner = true ∧ s.tuner.mode ≠ .off then noticeBit .tuner else 0) = b
  exact congrArg (fun all => (withFlags all s).link) (by ac_rfl)

/-- What the claim says of Tuner, satellites and notices after a swap. -/
theorem swap_after {P : Prop} {f : Inflight} {sc : SceneCtl} {flag : BitVec 16} (more all : BitVec 16) {only : Bool}
    (hP : P ↔ only = true) (tuner : z.tuner = (swapRest f sc flag only s).tuner) (sat : z.sat = (swapRest f sc flag only s).sat)
    (scene : z.scene = sc) (link : z.link = (withFlags more (swapRest f sc flag only s)).link)
    (flags : noticeBit .scene ||| (flag ||| more) = noticeBit .scene ||| all) :
    z.tuner = (if f.req.exitTuner = true ∧ s.tuner.mode ≠ .off then tunerOff s.tuner else s.tuner) ∧
    ImagesPushed P s z ∧
    FlagsRaised P (noticeBit .scene ||| all ||| (if f.req.exitTuner = true ∧ s.tuner.mode ≠ .off then noticeBit .tuner else 0)) s z := by
  refine ⟨tuner, imagesPushed_of (y := { s with scene := sc }) hP rfl scene sat, ?_⟩
  rw [← flags]
  exact flagsRaised_of (y := { s with scene := sc }) hP rfl scene (link.trans (swapRest_link f sc flag more only s)) rfl

theorem flags_none (a b : BitVec 16) : a ||| (b ||| 0) = a ||| b := by simp

theorem flags_absorb (a b : BitVec 16) : a ||| (b ||| a) = a ||| b := by ac_rfl

/-! ## The swap -/

/-- Is the swap due (R104)? -/
theorem swapDue_iff {f : Inflight} (h : s.sw.inflight = some f) : swapDue s = true ↔
    f.phase = .fadingOut ∧ f.dropped = true ∧ f.evicting = [] ∧ f.join = .complete := by
  unfold swapDue
  rw [h]
  simp only [Bool.and_eq_true, beq_iff_eq]
  tauto

/-- The swap completes the switch in a clock loss (R112). -/
def swapEnds (q : SwRequest) (s x : State) : State := if present s then x else completeSwitch q x

theorem swapStep_preset {f : Inflight} {l : Loaded} (due : swapDue s = true) (h : s.sw.inflight = some f) (hl : f.loaded = some l)
    (kind : f.kind = .preset) : swapStep s = swapEnds f.req s (swapHands f l.record.tempo false l.record.fadeIn
      (withFlags (stashFlag f l s.scene) { s with scene := swapScene f l s.scene })) := by
  obtain ⟨req, k, phase, loaded, evicting, assigned, deferred, join, joined, dropped⟩ := f
  obtain rfl : k = .preset := kind
  unfold swapStep
  rw [if_pos due, h]
  dsimp only
  rw [swapLoad_eq hl]
  generalize hx : hand _ (hand _ _) = x
  have scene : x.scene.buffer.record = some l.record := by
    rw [← hx, (((AudioOnly.refl _).hand _).hand _).scene]
    rfl
  rw [scene]
  subst hx
  rfl

theorem swapStep_rebuild {f : Inflight} {r : Record} (due : swapDue s = true) (h : s.sw.inflight = some f) (hl : f.loaded = none)
    (kind : f.kind = .rebuild) (hr : s.scene.buffer.record = some r) : swapStep s = swapEnds f.req s (swapHands f none true r.fadeIn
      (withFlags 0 { s with
        scene := { s.scene with posMap := none, driven := r.map.map (evalEntry s.scene.controls r.chain) } })) := by
  obtain ⟨req, k, phase, loaded, evicting, assigned, deferred, join, joined, dropped⟩ := f
  obtain rfl : k = .rebuild := kind
  have load : evalMap (onScene (fun c => { c with posMap := none })
      (swapLoad ⟨req, .rebuild, phase, loaded, evicting, assigned, deferred, join, joined, dropped⟩ s)) = withFlags 0 { s with
      scene := { s.scene with posMap := none, driven := r.map.map (evalEntry s.scene.controls r.chain) } } := by
    rw [withFlags_zero]
    unfold swapLoad evalMap
    rw [hl]
    dsimp only [onScene]
    rw [hr]
  have fade : (s.scene.buffer.record.map (·.fadeIn)).getD 1 = r.fadeIn := by rw [hr]; rfl
  unfold swapStep
  rw [if_pos due, h]
  dsimp only
  rw [load, ← fade]
  rfl

/-- The stash after the swap (R89, R90). -/
theorem swapScene_stash (f : Inflight) (l : Loaded) (c : SceneCtl) :
    (captures f c.buffer = false → (swapScene f l c).stash = stashWithout l c ∧ (swapScene f l c).drops = c.drops ∧
      (swapScene f l c).lastDropped = c.lastDropped) ∧
    (∀ r, c.buffer.dirty = true → f.req.discard = false → c.buffer.record = some r →
      let kept := (stashWithout l c).filter fun e => e.preset != c.buffer.preset
      let entry : StashEntry := ⟨c.buffer.preset, c.buffer.scene, r, c.buffer.seq⟩
      (kept.length < 4 → (swapScene f l c).stash = kept ++ [entry] ∧ (swapScene f l c).drops = c.drops ∧
        (swapScene f l c).lastDropped = c.lastDropped) ∧
      (∀ e t, 4 ≤ kept.length → kept = e :: t → (swapScene f l c).stash = t ++ [entry] ∧
        (swapScene f l c).drops = c.drops + 1 ∧ (swapScene f l c).lastDropped = e.preset)) := by
  have plain : captures f c.buffer = false → stashAfter f l c = { c with stash := stashWithout l c } := fun h => by
    unfold stashAfter
    rw [h]
    cases c.buffer.record <;> rfl
  refine ⟨fun h => ?_, fun r dirty keep hr => ?_⟩
  · unfold swapScene
    rw [plain h]
    exact ⟨rfl, rfl, rfl⟩
  intro kept entry
  have taken : stashAfter f l c = captureIn c.buffer r { c with stash := stashWithout l c } := by
    unfold stashAfter captures
    rw [dirty, keep, hr] <;> rfl
  unfold swapScene
  rw [taken]
  unfold captureIn
  refine ⟨fun room => ?_, fun e t full head => ?_⟩
  · rw [if_pos (by exact room)]
    exact ⟨rfl, rfl, rfl⟩
  · rw [if_neg (by exact Nat.not_lt.2 full)]
    have hk : (stashWithout l c).filter (fun e => e.preset != c.buffer.preset) = e :: t := head
    dsimp only [loadedScene]
    rw [hk]
    exact ⟨rfl, rfl, rfl⟩

/-- A preset's tempo after a rebuild, lock and source being those before it. -/
theorem presetTempo_rebuilt (t : Nat) (insts : List Inst) : presetTempo (some t) (takeRebuild insts s) =
    if s.clk.lock = true ∨ s.clk.source = .external then takeRebuild insts s else commandTempo t (takeRebuild insts s) := by
  have clock := takeRebuild_clk insts s
  split
  · next h =>
    rw [presetTempo_ignored]
    rw [clock]
    exact .inr h
  · next h =>
    rw [presetTempo_taken]
    rw [clock]
    exact h

/-- What a switch's origin is told changes outcomes, cues and flags alone. -/
theorem told_frame (q : SwRequest) (o : SwOutcome) (n : Bool) (x : State) : told q o n x = { x with
    sw := { x.sw with outcomes := (told q o n x).sw.outcomes }, clk := (told q o n x).clk, link := (told q o n x).link } := by
  unfold told
  cases q.origin with
  | link l => dsimp only; split <;> rfl
  | cue t => dsimp only; split <;> rfl

theorem told_cue {q : SwRequest} {t : Nat} (h : q.origin = .cue t) (o : SwOutcome) (n : Bool) (x : State) : told q o n x =
    withFlags (if ∃ c ∈ x.clk.cues, c.tag = t then noticeBit .cue else 0)
      { x with clk := { x.clk with cues := x.clk.cues.map fun c => if c.tag = t then { c with outcome := o } else c } } := by
  unfold told
  rw [h]
  dsimp only
  by_cases some : ∃ c ∈ x.clk.cues, c.tag = t
  · rw [if_pos some, if_pos some]
    rfl
  · have same : (x.clk.cues.map fun c => if c.tag = t then { c with outcome := o } else c) = x.clk.cues :=
      (List.map_congr_left fun c hc => if_neg fun h => some ⟨c, hc, h⟩).trans (List.map_id' _)
    rw [if_neg some, if_neg some, withFlags_zero, same]

theorem presetTempo_cues (tempo : Option Nat) (x : State) : (presetTempo tempo x).clk.cues = x.clk.cues := by
  have set : ∀ t, (setTempo t x).clk.cues = x.clk.cues := fun t => by
    cases hp : present x
    · unfold setTempo
      dsimp only
      split
      · rfl
      · obtain ⟨chain, hx, -⟩ := ShowClock.handLens_lost (x := onClk (fun d => { d with tempo := clampNat 300 3000 t }) x) (by exact hp)
        rw [hp, if_neg (by decide), hx]
        rfl
    · rw [ShowClock.setTempo_plain (.inl hp)]
  cases tempo with
  | none => rfl
  | some t =>
    unfold presetTempo commandTempo
    dsimp only
    split
    · rfl
    · cases x.clk.source with
      | external => rfl
      | internal => exact set t
      | tap => exact set t

/-- The swap's end in a clock loss: the parts, and what the switch's origin is told (R112). -/
theorem swapCompleted (f : Inflight) (sc : SceneCtl) (flag : BitVec 16) (tempo : Option Nat) (only : Bool) (n : Nat)
    (hp : present s = false) {w : State} (hw : w = presetTempo tempo (takeRebuild (effectiveInsts f.joined { s with scene := sc }) s))
    (hz : z = completeSwitch f.req (swapHands f tempo only n (withFlags flag { s with scene := sc }))) :
    let exits := f.req.exitTuner = true ∧ s.tuner.mode ≠ .off
    let unmutes := exits ∧ s.tuner.mode = .mute
    let ended : SwitchEng := { s.sw with
      level := effectiveLevel { s with scene := sc }, reservation := false, inflight := none, laneReports := [] }
    z = { s with
      scene := sc, sw := z.sw, clk := z.clk, link := z.link, area := w.area
      tuner := (swapRest f sc flag only s).tuner, sat := (swapRest f sc flag only s).sat
      tone := { w.tone with
        chainGain := .rest (effectiveLevel { s with scene := sc })
        chainRested := false
        holders := if unmutes then { s.tone.holders with tuner := false } else s.tone.holders
        mute := if unmutes ∧ s.tone.holders = (⟨true, false, false, false⟩ : Holders) then .rest 32768 else w.tone.mute } } ∧
    (∀ k, f.req.origin = .link k → z.clk = w.clk ∧ z.link = (withFlags (noticeBit .scene) (swapRest f sc flag only s)).link ∧
      z.sw = { ended with outcomes := (told f.req .done false { s with scene := sc }).sw.outcomes }) ∧
    (∀ t, f.req.origin = .cue t →
      z.clk = { w.clk with cues := s.clk.cues.map fun q => if q.tag = t then { q with outcome := .done } else q } ∧
      z.link = (withFlags ((if ∃ q ∈ s.clk.cues, q.tag = t then noticeBit .cue else 0) ||| noticeBit .scene)
        (swapRest f sc flag only s)).link ∧
      z.sw = { ended with guard := if f.req.guard = 0 then s.sw.guard else some (f.req.precedence, f.req.guard) }) := by
  intro exits unmutes ended
  have handed := swapHands_lost f sc flag tempo only n hp
  dsimp only at handed
  rw [← hw] at handed
  have cues : w.clk.cues = s.clk.cues := by
    rw [hw]
    exact (presetTempo_cues tempo _).trans (by rw [takeRebuild_clk]; rfl)
  rw [handed, completeSwitch_eq] at hz
  refine ⟨?_, fun k origin => ?_, fun t origin => ?_⟩
  · rw [hz, told_frame]
    rfl
  · rw [hz]
    unfold told guardAfter
    rw [origin] <;> exact ⟨rfl, rfl, rfl⟩
  · rw [hz, told_cue origin, ← cues]
    unfold guardAfter
    rw [origin] <;> refine ⟨rfl, ?_, rfl⟩
    rw [← withFlags_withFlags]
    rfl

/-- Settles O30: `swapStep_preset` and `swapStep_rebuild` name the load, `swapHands_present` and `swapHands_lost` what it hands. -/
theorem swapLoadsTheBuffer : Obligations.SwapLoadsTheBuffer := by
  unfold Obligations.SwapLoadsTheBuffer
  intro f s hl hf due b h fadesIn exits unmutes left rises after loaded fades lands ended
  have row : exec .swap s = .next (swapStep s) := inside_live hl swapStep
  rw [row]
  refine ⟨fun no => congrArg _ ?_, fun hd => ⟨fun l hload kind => ?_, fun r hload kind hr => ?_⟩⟩
  · unfold swapStep
    exact if_neg fun yes => no ((swapDue_iff hf).1 yes)
  · intro leaves captured stash ignored endTap
    rw [swapStep_preset ((swapDue_iff hf).2 hd) hf hload kind]
    have never : False ↔ false = true := by simp
    refine ⟨_, rfl, ?_⟩
    unfold swapEnds
    cases hp : present s
    · rw [if_neg (by decide)]
      generalize hz : completeSwitch _ _ = z
      generalize hw : presetTempo l.record.tempo
        (takeRebuild (effectiveInsts f.joined { s with scene := swapScene f l s.scene }) s) = w
      obtain ⟨frame, ofLink, ofCue⟩ := swapCompleted f _ _ _ false _ hp hw.symm hz.symm
      have scene : z.scene = swapScene f l s.scene := by rw [frame]
      have level : effectiveLevel z = effectiveLevel { s with scene := swapScene f l s.scene } :=
        congrArg (·.getD 0) (effective_of_scene scene)
      have insts : effectiveInsts f.joined z = effectiveInsts f.joined { s with scene := swapScene f l s.scene } :=
        effectiveInsts_of_scene _ scene
      obtain ⟨buffer, counter, posMap, controls, driven⟩ := swapScene_buffer f l s.scene
      have tuner : z.tuner = (swapRest f (swapScene f l s.scene) (stashFlag f l s.scene) false s).tuner := by rw [frame]
      have sat : z.sat = (swapRest f (swapScene f l s.scene) (stashFlag f l s.scene) false s).sat := by rw [frame]
      rw [scene]
      refine ⟨by rw [frame], buffer, counter, posMap, controls, driven, fun h => absurd h (by decide),
        fun _ => ?_, swapScene_stash f l s.scene⟩
      intro w1 w'
      have built : w' = w := by
        have same : w1 = takeRebuild (effectiveInsts f.joined { s with scene := swapScene f l s.scene }) s := by
          rw [← insts]
          rfl
        rw [← hw, ← same]
        subst w'
        cases l.record.tempo with
        | none => rfl
        | some t =>
          rw [same]
          exact (presetTempo_rebuilt t _).symm
      rw [built]
      refine ⟨⟨by rw [frame], by rw [level, frame]⟩, fun k n c origin target => ?_, fun t origin => ?_⟩
      · obtain ⟨clk, link, sw⟩ := ofLink k origin
        refine ⟨clk, swap_after (noticeBit .scene) _ never tuner sat scene link (flags_absorb _ _), ?_⟩
        rw [sw, ← level]
        have outcome : (told f.req .done false { s with scene := swapScene f l s.scene }).sw.outcomes =
            s.sw.outcomes.set k.val ⟨n, some c, .done⟩ := by
          unfold told
          rcases target with ⟨m, target, rfl⟩ | ⟨e, target, rfl, rfl⟩
          · rw [origin, target] <;> rfl
          · rw [origin, target] <;> rfl
        rw [outcome]
      · obtain ⟨clk, link, sw⟩ := ofCue t origin
        refine ⟨clk, swap_after _ _ never tuner sat scene link ?_, ?_⟩
        · generalize (if ∃ q ∈ s.clk.cues, q.tag = t then noticeBit .cue else 0) = e
          show noticeBit .scene ||| (stash ||| (e ||| noticeBit .scene)) = noticeBit .scene ||| (stash ||| e)
          ac_rfl
        · rw [sw, ← level]
    · rw [if_pos rfl]
      obtain ⟨d, hz, plain, taken⟩ := swapHands_present f (swapScene f l s.scene) (stashFlag f l s.scene) l.record.tempo false
        l.record.fadeIn hp
      generalize swapHands f l.record.tempo false l.record.fadeIn _ = z at hz
      have scene : z.scene = swapScene f l s.scene := by rw [hz]; rfl
      have level : effectiveLevel z = effectiveLevel { s with scene := swapScene f l s.scene } :=
        congrArg (·.getD 0) (effective_of_scene scene)
      have insts : effectiveInsts f.joined z = effectiveInsts f.joined { s with scene := swapScene f l s.scene } :=
        effectiveInsts_of_scene _ scene
      have link : z.link = (withFlags 0 (swapRest f (swapScene f l s.scene) (stashFlag f l s.scene) false s)).link := by
        rw [withFlags_zero, hz]
      obtain ⟨buffer, counter, posMap, controls, driven⟩ := swapScene_buffer f l s.scene
      rw [scene]
      refine ⟨by rw [hz]; rfl, buffer, counter, posMap, controls, driven,
        fun _ => ⟨⟨by rw [level, hz]; rfl, by rw [hz]; rfl, ?_⟩,
          swap_after 0 _ never (by rw [hz]) (by rw [hz]) scene link (flags_none _ _), by rw [hz]; exact plain,
          by rw [hz]; exact taken⟩, fun h => absurd h (by decide), swapScene_stash f l s.scene⟩
      rw [insts, level, hz, List.append_assoc]
  · rw [swapStep_rebuild ((swapDue_iff hf).2 hd) hf hload kind hr]
    have always : True ↔ true = true := by simp
    refine ⟨_, rfl, ?_⟩
    generalize hsc : ({ s.scene with posMap := none, driven := r.map.map (evalEntry s.scene.controls r.chain) } : SceneCtl) = sc
    have buffer : sc.buffer = s.scene.buffer := by rw [← hsc]
    unfold swapEnds
    cases hp : present s
    · rw [if_neg (by decide)]
      generalize hz : completeSwitch _ _ = z
      obtain ⟨frame, ofLink, -⟩ := swapCompleted f _ _ _ true _ hp rfl hz.symm
      have scene : z.scene = sc := by rw [frame]
      have level : effectiveLevel z = effectiveLevel { s with scene := sc } := congrArg (·.getD 0) (effective_of_scene scene)
      have insts : effectiveInsts f.joined z = effectiveInsts f.joined { s with scene := sc } := effectiveInsts_of_scene _ scene
      have tuner : z.tuner = (swapRest f sc 0 true s).tuner := by rw [frame]
      have sat : z.sat = (swapRest f sc 0 true s).sat := by rw [frame]
      refine ⟨by rw [frame], scene, fun h => absurd h (by decide), fun k _ origin target => ?_⟩
      intro w
      have built : w = presetTempo none (takeRebuild (effectiveInsts f.joined { s with scene := sc }) s) := by
        rw [← insts]
        rfl
      obtain ⟨clk, link, sw⟩ := ofLink k origin
      rw [built]
      refine ⟨⟨by rw [frame], by rw [level, frame]⟩, swap_after (noticeBit .scene) _ always tuner sat scene link (flags_absorb _ _),
        clk, ?_⟩
      rw [sw, ← level]
      have outcome : (told f.req .done false { s with scene := sc }).sw.outcomes =
          s.sw.outcomes.set k.val ⟨b.preset, some b.scene, .done⟩ := by
        unfold told
        rw [origin, target]
        dsimp only
        rw [buffer]
        rfl
      rw [outcome]
    · rw [if_pos rfl]
      obtain ⟨d, hz, plain, -⟩ := swapHands_present f sc 0 none true r.fadeIn hp
      generalize swapHands f none true r.fadeIn _ = z at hz
      have scene : z.scene = sc := by rw [hz]; rfl
      have level : effectiveLevel z = effectiveLevel { s with scene := sc } := congrArg (·.getD 0) (effective_of_scene scene)
      have insts : effectiveInsts f.joined z = effectiveInsts f.joined { s with scene := sc } := effectiveInsts_of_scene _ scene
      have link : z.link = (withFlags 0 (swapRest f sc 0 true s)).link := by
        rw [withFlags_zero, hz]
      refine ⟨by rw [hz]; rfl, scene, fun _ => ⟨⟨by rw [level, hz]; rfl, by rw [hz]; rfl, ?_⟩,
        swap_after 0 _ always (by rw [hz]) (by rw [hz]) scene link (flags_none _ _), by rw [hz]; exact plain (.inl rfl)⟩,
        fun _ h => absurd h (by decide)⟩
      rw [insts, level, hz, List.append_assoc]

end Sys2Proof.Frame
end

section
/-! The reading (R127): the exact logarithm behind the cents. -/

namespace Sys2Proof.Frame

open Sys2Proof Sys2Proof.Machine

/-! ## Binary logarithms of powers -/

/-- By halving the exponent: `floor(log2(n))` of a number below `2 ^ (2 ^ k)`. -/
theorem bigLog2_spec (k n : Nat) (pos : 0 < n) (lt : n < 2 ^ 2 ^ k) : 2 ^ bigLog2 k n ≤ n ∧ n < 2 ^ (bigLog2 k n + 1) := by
  induction k generalizing n with
  | zero =>
    have one : n = 1 := by simp at lt; omega
    subst one
    exact ⟨by decide, by decide⟩
  | succ k ih =>
    rw [bigLog2]
    simp only [Nat.pow_eq]
    split
    · next le =>
      rw [Nat.shiftRight_eq_div_pow]
      have quotient : 0 < n / 2 ^ 2 ^ k := Nat.div_pos le (by positivity)
      have small : n / 2 ^ 2 ^ k < 2 ^ 2 ^ k := by
        rw [Nat.div_lt_iff_lt_mul (by positivity), ← pow_add, ← two_mul, ← pow_succ']
        exact lt
      obtain ⟨low, high⟩ := ih _ quotient small
      refine ⟨?_, ?_⟩
      · rw [pow_add, mul_comm]
        exact (Nat.le_div_iff_mul_le (by positivity)).1 low
      · rw [add_assoc, pow_add, mul_comm]
        exact (Nat.div_lt_iff_lt_mul (by positivity)).1 high
    · next lt' => exact ih n pos (Nat.lt_of_not_le lt')

/-- `log2Pow a e` is the floor of the binary logarithm of `a ^ e`. -/
theorem log2Pow_spec (a e : Nat) (pos : 0 < a) : 2 ^ log2Pow a e ≤ a ^ e ∧ a ^ e < 2 ^ (log2Pow a e + 1) := by
  refine bigLog2_spec _ _ (Nat.pow_pos pos) ?_
  rcases Nat.eq_zero_or_pos e with rfl | he
  · simp
  calc a ^ e < (2 ^ (Nat.log2 a + 1)) ^ e := Nat.pow_lt_pow_left (Nat.lt_log2_self) (by omega)
    _ = 2 ^ (e * (Nat.log2 a + 1)) := by rw [← pow_mul, mul_comm]
    _ ≤ 2 ^ 2 ^ (Nat.log2 (e * (Nat.log2 a + 1)) + 1) := Nat.pow_le_pow_right (by decide) (Nat.le_of_lt Nat.lt_log2_self)

/-- An integer lies at or below a binary logarithm of a quotient. -/
theorem le_logb_div_iff {x y : ℝ} (hx : 0 < x) (hy : 0 < y) (z : ℤ) : (z : ℝ) ≤ Real.logb 2 (x / y) ↔ y * 2 ^ z ≤ x := by
  rw [Real.le_logb_iff_rpow_le (by norm_num) (div_pos hx hy), Real.rpow_intCast, le_div_iff₀ hy, mul_comm]

/-- The floor of the logarithm of a quotient from those of its parts. -/
theorem floor_logb_div {x y : ℝ} {A B : ℤ} (hx : 2 ^ A ≤ x ∧ x < 2 ^ (A + 1)) (hy : 2 ^ B ≤ y ∧ y < 2 ^ (B + 1)) :
    ⌊Real.logb 2 (x / y)⌋ = if y * 2 ^ (A - B) ≤ x then A - B else A - B - 1 := by
  obtain ⟨xlow, xhigh⟩ := hx
  obtain ⟨ylow, yhigh⟩ := hy
  have power : ∀ z : ℤ, (0 : ℝ) < 2 ^ z := fun z => zpow_pos (by norm_num) z
  have xpos : 0 < x := (power A).trans_le xlow
  have ypos : 0 < y := (power B).trans_le ylow
  have split_ : ∀ u v : ℤ, (2 : ℝ) ^ u * 2 ^ v = 2 ^ (u + v) := fun u v => (zpow_add₀ (by norm_num) u v).symm
  have floor : ∀ z : ℤ, y * 2 ^ z ≤ x → ¬ y * 2 ^ (z + 1) ≤ x → ⌊Real.logb 2 (x / y)⌋ = z := fun z low high => by
    refine Int.floor_eq_iff.2 ⟨(le_logb_div_iff xpos ypos z).2 low, lt_of_not_ge fun h => high ?_⟩
    exact (le_logb_div_iff xpos ypos (z + 1)).1 (by push_cast; exact h)
  split
  · next low =>
    refine floor _ low (not_le.2 (xhigh.trans_le ?_))
    calc (2 : ℝ) ^ (A + 1) = 2 ^ B * 2 ^ (A - B + 1) := by rw [split_]; congr 1; ring
      _ ≤ y * 2 ^ (A - B + 1) := mul_le_mul_of_nonneg_right ylow (power _).le
  · next high =>
    refine floor _ ?_ (by rwa [sub_add_cancel])
    calc y * 2 ^ (A - B - 1) ≤ 2 ^ (B + 1) * 2 ^ (A - B - 1) := mul_le_mul_of_nonneg_right yhigh.le (power _).le
      _ = 2 ^ A := by rw [split_]; congr 1; ring
      _ ≤ x := xlow

/-- The model's comparison of naturals is the comparison of the quotient. -/
theorem ratio_cases (x y : Nat) (d : ℤ) :
    (if 0 ≤ d then (if y * 2 ^ d.toNat ≤ x then d else d - 1) else (if y ≤ x * 2 ^ (-d).toNat then d else d - 1)) =
      if (y : ℝ) * 2 ^ d ≤ (x : ℝ) then d else d - 1 := by
  by_cases sign : 0 ≤ d
  · obtain ⟨n, rfl⟩ := Int.eq_ofNat_of_zero_le sign
    rw [if_pos sign, Int.toNat_natCast]
    refine if_congr ?_ rfl rfl
    rw [zpow_natCast]
    exact_mod_cast Iff.rfl
  · obtain ⟨n, rfl⟩ : ∃ n : Nat, d = -n := ⟨(-d).toNat, by omega⟩
    rw [if_neg sign, neg_neg, Int.toNat_natCast]
    refine if_congr ?_ rfl rfl
    rw [zpow_neg, zpow_natCast, ← div_eq_mul_inv, div_le_iff₀ (by positivity)]
    exact_mod_cast Iff.rfl

/-- `log2Ratio a b e` is the floor of the binary logarithm of `(a / b) ^ e`. -/
theorem log2Ratio_eq_floor (a b e : Nat) (ha : 0 < a) (hb : 0 < b) :
    log2Ratio a b e = ⌊(e : ℝ) * Real.logb 2 ((a : ℝ) / b)⌋ := by
  obtain ⟨xlow, xhigh⟩ := log2Pow_spec a e ha
  obtain ⟨ylow, yhigh⟩ := log2Pow_spec b e hb
  have real : ∀ n k : Nat, ((2 ^ k : Nat) : ℝ) = (2 : ℝ) ^ (k : ℤ) := fun _ k => by push_cast; exact (zpow_natCast 2 k).symm
  have bounds : ∀ n k : Nat, 2 ^ k ≤ n → n < 2 ^ (k + 1) → (2 : ℝ) ^ (k : ℤ) ≤ (n : ℝ) ∧ (n : ℝ) < 2 ^ ((k : ℤ) + 1) := by
    intro n k low high
    have low' : ((2 ^ k : Nat) : ℝ) ≤ n := by exact_mod_cast low
    have high' : (n : ℝ) < ((2 ^ (k + 1) : Nat) : ℝ) := by exact_mod_cast high
    rw [real n] at low' high'
    exact ⟨low', by exact_mod_cast high'⟩
  have power : (e : ℝ) * Real.logb 2 ((a : ℝ) / b) = Real.logb 2 (((a ^ e : Nat) : ℝ) / ((b ^ e : Nat) : ℝ)) := by
    push_cast
    rw [← div_pow, Real.logb_pow]
  rw [power, floor_logb_div (bounds _ _ xlow xhigh) (bounds _ _ ylow yhigh)]
  unfold log2Ratio
  simp only [Nat.pow_eq]
  exact ratio_cases _ _ _

/-- C is the logarithm rounded half up. -/
theorem tunerCents_eq_floor (m r : Nat) (hm : 0 < m) (hr : 0 < r) :
    tunerCents m r = ⌊(12000 : ℝ) * Real.logb 2 (122880000 / ((m : ℝ) * (r : ℝ))) + 1 / 2⌋ := by
  have ratio := log2Ratio_eq_floor 122880000 (m * r) 24000 (by decide) (Nat.mul_pos hm hr)
  push_cast at ratio
  unfold tunerCents
  rw [ratio]
  generalize Real.logb 2 (122880000 / ((m : ℝ) * (r : ℝ))) = q
  have halved : (12000 : ℝ) * q + 1 / 2 = (24000 * q + 1) / (2 : ℕ) := by push_cast; ring
  rw [halved, Int.floor_div_natCast, Int.floor_add_one]

end Sys2Proof.Frame
end

section
/-! The Tuner's work of a frame and its timers (7.3 to 7.6). -/

namespace Sys2Proof.Frame

open Sys2Proof Sys2Proof.Machine

variable {t : Tuner}

/-! ## The ring (R124, R125) -/

theorem sortNat_eq (l : List Nat) : sortNat l = l.insertionSort (· ≤ ·) := by
  have insert : ∀ (a : Nat) (m : List Nat), insertSorted a m = m.orderedInsert (· ≤ ·) a := fun a m => by
    induction m with
    | nil => rfl
    | cons b t ih => rw [insertSorted, List.orderedInsert_cons, ih]
  induction l with
  | nil => rfl
  | cons a t ih =>
    rw [List.insertionSort_cons, ← ih, ← insert]
    rfl

theorem sortNat_perm (l : List Nat) : (sortNat l).Perm l := by
  rw [sortNat_eq]
  exact List.perm_insertionSort _ l

theorem sortNat_pairwise (l : List Nat) : (sortNat l).Pairwise (· ≤ ·) := by
  rw [sortNat_eq]
  exact List.pairwise_insertionSort _ l

theorem dist_eq (a b : Nat) : (Machine.dist a b : Int) = |(a : Int) - b| := by
  unfold Machine.dist
  rw [abs_eq_max_neg]
  omega

theorem dist_mul_le (a b k j : Nat) : Machine.dist a b * k ≤ j * b ↔ |(a : Int) - (b : Int)| * k ≤ j * (b : Int) := by
  rw [← dist_eq]
  exact_mod_cast Iff.rfl

theorem ringState_silent {r : List Nat} : ringState r = .silent ↔ r = [] := by
  unfold ringState
  by_cases h : r = []
  · simp [h]
  · simp only [h, if_false, iff_false]
    split <;> decide

theorem ringState_locked {r : List Nat} : ringState r = .locked ↔ 5 ≤ r.length ∧
    ∀ p ∈ r.drop (r.length - 5), |(p : Int) - (ringMedian r : Int)| * 1000 ≤ 15 * (ringMedian r : Int) := by
  have near : ∀ p : Nat, decide (Machine.dist p (ringMedian r) * 1000 ≤ 15 * ringMedian r) = true ↔
      |(p : Int) - (ringMedian r : Int)| * 1000 ≤ 15 * (ringMedian r : Int) := fun p => by
    rw [decide_eq_true_iff, dist_mul_le]
    rfl
  unfold ringState
  by_cases h : r = []
  · simp [h]
  · dsimp only
    rw [if_neg h]
    simp only [List.all_eq_true, near]
    split
    · next both => exact iff_of_true rfl both
    · next no => exact iff_of_false (by decide) no

/-- A ring that is entered (R125). -/
theorem setRing_eq (r : List Nat) (t : Tuner) : setRing r t = { t with
    ring := r, state := ringState r
    reading := if 3 ≤ r.length then some (readingOf t (ringMedian r)) else none } := rfl

theorem acceptPeriod_cases (p : Nat) (t : Tuner) (h : t.ring.length ≤ 8) :
    let m := ringMedian t.ring
    let near := |(p : Int) - (m : Int)| * 100 ≤ 12 * (m : Int)
    let entered := fun (r : List Nat) => acceptPeriod p t = { t with
      ring := r, outliers := 0, state := ringState r, reading := if 3 ≤ r.length then some (readingOf t (ringMedian r)) else none }
    (t.ring = [] → entered [p]) ∧
    (t.ring ≠ [] → near → entered (if t.ring.length = 8 then (t.ring ++ [p]).tail else t.ring ++ [p])) ∧
    (t.ring ≠ [] → ¬ near → t.outliers = 2 → entered [p]) ∧
    (t.ring ≠ [] → ¬ near → t.outliers ≠ 2 → acceptPeriod p t = { t with outliers := t.outliers + 1 }) := by
  intro m near entered
  have near_iff : Machine.dist p (ringMedian t.ring) * 100 ≤ 12 * ringMedian t.ring ↔ near := dist_mul_le ..
  have set : ∀ r, setRing r { t with outliers := 0 } = { t with
      ring := r, outliers := 0, state := ringState r
      reading := if 3 ≤ r.length then some (readingOf t (ringMedian r)) else none } := fun _ => rfl
  have newest : (t.ring ++ [p]).drop (t.ring.length - 7) = if t.ring.length = 8 then (t.ring ++ [p]).tail else t.ring ++ [p] := by
    split
    · next full => rw [full, List.drop_one]
    · next room => rw [show t.ring.length - 7 = 0 by omega, List.drop_zero]
  refine ⟨fun empty => ?_, fun some close => ?_, fun some far third => ?_, fun some far first => ?_⟩
  · exact (if_pos empty).trans (set _)
  · rw [← newest]
    exact (if_neg some).trans ((if_pos (near_iff.2 close)).trans (set _))
  · exact (if_neg some).trans ((if_neg (mt near_iff.1 far)).trans ((if_pos third).trans (set _)))
  · exact (if_neg some).trans ((if_neg (mt near_iff.1 far)).trans (if_neg first))

/-! ## The detector (R121 to R123) -/

theorem tunerSample_cases (pos : Word32) (x : Int) (t : Tuner) :
    let d := t.det
    let b := x - d.xPrev + 32604 * d.dPrev / 32768
    let l1 := d.l1 + 4751 * (b - d.l1) / 32768
    let l2 := d.l2 + 4751 * (l1 - d.l2) / 32768
    let h : Int := 134217728 / 2 ^ t.exponent
    let fires := d.armed = true ∧ d.sPrev < 0 ∧ 0 ≤ l2
    (fires → tunerSample pos x t = takeStamp
      (256 * (pos - 1) + BitVec.ofInt 32 (min 255 (256 * (-d.sPrev) / (l2 - d.sPrev)))) { t with det := ⟨x, b, l1, l2, false, l2⟩ }) ∧
    (¬ fires → tunerSample pos x t = { t with det := ⟨x, b, l1, l2, d.armed || decide (l2 < -h), l2⟩ }) := by
  intro d b l1 l2 h fires
  have filtered : detectorFilter d x = ⟨x, b, l1, l2, d.armed, d.sPrev⟩ := rfl
  have crossing : (d.armed && decide (d.sPrev < 0) && decide (0 ≤ l2)) = true ↔ fires := by
    simp only [Bool.and_eq_true, decide_eq_true_eq, and_assoc, fires]
  have sample : tunerSample pos x t = if (d.armed && decide (d.sPrev < 0) && decide (0 ≤ l2)) = true
      then takeStamp (256 * (pos - 1) + BitVec.ofInt 32 (min 255 (floorDiv (256 * (-d.sPrev)) (l2 - d.sPrev).toNat)))
        { t with det := ⟨x, b, l1, l2, if (d.armed && decide (d.sPrev < 0) && decide (0 ≤ l2)) = true then false
          else d.armed || decide (l2 < -h), l2⟩ }
      else { t with det := ⟨x, b, l1, l2, if (d.armed && decide (d.sPrev < 0) && decide (0 ≤ l2)) = true then false
          else d.armed || decide (l2 < -h), l2⟩ } := rfl
  rw [sample]
  refine ⟨fun yes => ?_, fun no => ?_⟩
  · have crosses := yes
    obtain ⟨-, below, above⟩ := crosses
    have exact_ : ((l2 - d.sPrev).toNat : Int) = l2 - d.sPrev := Int.toNat_of_nonneg (by omega)
    rw [if_pos (crossing.2 yes), if_pos (crossing.2 yes), floorDiv, exact_]
  · rw [if_neg (mt crossing.1 no), if_neg (mt crossing.1 no)]

theorem takeStamp_cases (stamp : Word32) (t : Tuner) :
    let t1 : Tuner := { t with prevStamp := some stamp }
    (t.prevStamp = none → takeStamp stamp t = t1) ∧
    (∀ prev, t.prevStamp = some prev → let p := (stamp - prev).toNat
      (8777 ≤ p → p ≤ 614400 → takeStamp stamp t = acceptPeriod p { t1 with noSignal := true }) ∧
      (p < 8777 ∨ 614400 < p → takeStamp stamp t = t1)) := by
  intro t1
  refine ⟨fun first => ?_, fun prev later => ?_⟩
  · unfold takeStamp
    rw [first]
  · intro p
    have row : takeStamp stamp t = if 8777 ≤ p ∧ p ≤ 614400 then acceptPeriod p { t1 with noSignal := true } else t1 := by
      unfold takeStamp
      rw [later]
    rw [row]
    exact ⟨fun low high => if_pos ⟨low, high⟩, fun out => if_neg fun both => by omega⟩

/-! ## The reading (R127, R128) -/

/-- The distance of a reading from a string. -/
def stringDistance (c : Int) (x : TString) : Int := c - (1000 * ((x.note : Int) - 69) + x.offset)

theorem nearestString_cons (c : Int) (k : Nat) (x : TString) (l : List TString) : nearestString c k (x :: l) =
    match nearestString c (k + 1) l with
    | some (j, e) => if (stringDistance c x).natAbs ≤ e.natAbs then some (k, stringDistance c x) else some (j, e)
    | none => some (k, stringDistance c x) := rfl

theorem nearestString_mem {c : Int} {k j : Nat} {e : Int} {l : List TString} (h : nearestString c k l = some (j, e)) :
    ∃ y ∈ l, e = stringDistance c y := by
  induction l generalizing k with
  | nil => cases h
  | cons x l ih =>
    rw [nearestString_cons] at h
    split at h
    · next r =>
      split at h
      · cases h
        exact ⟨x, List.mem_cons_self .., rfl⟩
      · cases h
        obtain ⟨y, hy, he⟩ := ih r
        exact ⟨y, List.mem_cons_of_mem _ hy, he⟩
    · cases h
      exact ⟨x, List.mem_cons_self .., rfl⟩

/-- The nearest string is the lowest of the nearest ones. -/
theorem nearestString_eq {c : Int} (k : Nat) {l : List TString} {i : Nat} {x : TString} (hx : l[i]? = some x)
    (least : ∀ y ∈ l, |stringDistance c x| ≤ |stringDistance c y|)
    (first : ∀ (j : Nat) y, j < i → l[j]? = some y → |stringDistance c x| < |stringDistance c y|) :
    nearestString c k l = some (k + i, stringDistance c x) := by
  induction l generalizing k i with
  | nil => cases hx
  | cons a l ih =>
    rw [nearestString_cons]
    cases i with
    | zero =>
      cases hx
      cases r : nearestString c (k + 1) l with
      | none => rfl
      | some je =>
        obtain ⟨j, e⟩ := je
        obtain ⟨y, hy, rfl⟩ := nearestString_mem r
        have le := least y (List.mem_cons_of_mem _ hy)
        rw [Int.abs_eq_natAbs, Int.abs_eq_natAbs] at le
        exact if_pos (by omega)
    | succ i =>
      have lt := first 0 a (Nat.succ_pos i) rfl
      rw [Int.abs_eq_natAbs, Int.abs_eq_natAbs] at lt
      rw [ih (k + 1) hx (fun y hy => least y (List.mem_cons_of_mem _ hy)) fun j y hj hy => first (j + 1) y (by omega) hy]
      dsimp only
      rw [if_neg (by omega), Nat.add_right_comm]
      rfl

theorem clampInt_cases (x : Int) : clampInt (-32768) 32767 x = if x < -32768 then -32768 else if 32767 < x then 32767 else x := by
  unfold clampInt
  split
  · omega
  · split <;> omega

theorem readingOf_cases (t : Tuner) (m : Nat) :
    let c := tunerCents m t.reference
    let note := 69 + (2 * c + 1000) / 2000
    let dev := c - 1000 * (note - 69)
    let strings := (t.stringSet.map fun k => t.strings.getD k []).getD []
    let off := fun (x : TString) => c - (1000 * ((x.note : Int) - 69) + x.offset)
    (-500 ≤ dev ∧ dev ≤ 499) ∧
    (strings = [] → readingOf t m = ⟨c, note, dev, none⟩) ∧
    (∀ i x, strings[i]? = some x → (∀ y ∈ strings, |off x| ≤ |off y|) →
      (∀ j y, j < i → strings[j]? = some y → |off x| < |off y|) →
      readingOf t m = ⟨c, note,
        if off x < -32768 then -32768 else if 32767 < off x then 32767 else off x, some i⟩) := by
  intro c note dev strings off
  have half : 69 + roundHalfUp c 1000 = note := rfl
  refine ⟨by omega, fun empty => ?_, fun i x hx least first => ?_⟩
  · unfold readingOf
    cases set : t.stringSet with
    | none => rfl
    | some k =>
      have none_ : t.strings.getD k [] = [] := by simpa [strings, set] using empty
      dsimp only
      rw [none_] <;> rfl
  · unfold readingOf
    cases set : t.stringSet with
    | none => simp [strings, set] at hx
    | some k =>
      have list : t.strings.getD k [] = strings := by simp [strings, set]
      dsimp only
      rw [list, nearestString_eq 0 hx least first, Nat.zero_add]
      dsimp only
      rw [clampInt_cases]
      rfl

theorem tunerFrame_eq (c : Captured) (t : Tuner) : tunerFrame c t = if t.mode = .off then t
    else tunerSamples (t.pos - 32) ((if t.sourceB then c.inB else c.inA).map fun x => 16 * x) t := by
  have scaled : portIn = fun x => 16 * x := funext fun x => mul_comm x 16
  rw [tunerFrame, scaled]

/-- The row of the publication timer (R129). -/
def publishes (s : State) : State := if s.tuner.publish ∧ s.tuner.state ≠ .silent then raise .tuner s else s

/-- Settles O33, clause by clause by the lemmas above. -/
theorem tunerTimersExpire : Obligations.TunerTimersExpire := by
  unfold Obligations.TunerTimersExpire
  refine ⟨fun s hl => ?_, tunerFrame_eq, fun _ _ _ _ => ⟨rfl, rfl⟩, tunerSample_cases, takeStamp_cases,
    fun p t h => ?_, fun r => ?_, tunerCents_eq_floor, readingOf_cases⟩
  · have signal : exec .noSignalTimerExpiry s = .next (noSignal (prelude s)) := outside_live hl noSignal
    have publication : exec .publicationTimerExpiry s = .next (publishes (prelude s)) := outside_live hl publishes
    rw [signal, publication]
    generalize prelude s = y
    intro y z
    refine ⟨fun on => ?_, fun off => congrArg _ (if_neg (by rw [off]; decide)),
      fun on some => congrArg _ (if_pos ⟨on, some⟩), fun no => congrArg _ (if_neg fun both => ?_)⟩
    · unfold noSignal
      rw [if_pos on]
      rfl
    · rcases no with off | silent
      · exact absurd both.1 (by rw [off]; decide)
      · exact both.2 silent
  · obtain ⟨first, near, third, far⟩ := acceptPeriod_cases p t h
    exact ⟨first, near, third, far, rfl⟩
  · exact ⟨sortNat_perm r, sortNat_pairwise r, ringMedian_some, ringState_silent, ringState_locked⟩

end Sys2Proof.Frame
end

section
/-! How a switch begins (R93, R97, R109): a stash copy, a load, a SCENE switch, a request that changes nothing; and what the
arbiter does with a request (R95, R96), in the terms of the claims. -/

namespace Sys2Proof.Frame

open Sys2Proof Sys2Proof.Machine

variable {x y z s : State} {q : SwRequest} {r : Record} {l : Fin 4}

/-! ## The Tuner's exit -/

theorem releaseTunerHolder_left : releaseTunerHolder x =
    if x.tone.holders.tuner = false then x
    else if x.tone.holders.panic || x.tone.holders.startup || x.tone.holders.clock
      then { x with tone := { x.tone with holders := { x.tone.holders with tuner := false } } }
      else handedOver (.muteRise 16) { x with tone := { x.tone with holders := { x.tone.holders with tuner := false } } } := by
  unfold releaseTunerHolder
  by_cases free : x.tone.holders.tuner = false
  · rw [releaseHolder_free _ _ _ free, if_pos free]
  · have held : x.tone.holders.tuner = true := by simpa using free
    have others : anyHolder { x.tone.holders with tuner := false } =
        (x.tone.holders.panic || x.tone.holders.startup || x.tone.holders.clock) := by simp [anyHolder]
    rw [if_neg free, ← others]
    cases more : anyHolder { x.tone.holders with tuner := false }
    · rw [releaseHolder_last _ held more, handedOver_eq]
      rfl
    · rw [releaseHolder_more _ held more]
      rfl

theorem exitTuner_eq (e : Bool) (x : State) : (if e then setTunerMode .off x else x) = tunerLeft e x := by
  unfold tunerLeft
  dsimp only
  cases e with
  | false => rw [if_neg (by decide), if_pos (.inl rfl)]
  | true =>
    rw [if_pos rfl]
    by_cases off : x.tuner.mode = .off
    · rw [setTunerMode_same off.symm, if_pos (.inr off)]
    · rw [setTunerMode_off off, if_neg (show ¬ (true = false ∨ x.tuner.mode = .off) by simp [off])]
      by_cases mute : x.tuner.mode = .mute
      · rw [if_pos mute, releaseTunerHolder_left]
        by_cases free : x.tone.holders.tuner = false
        · rw [if_pos (by exact free), if_pos (.inr free)]
          rfl
        · rw [if_neg (by exact free), if_neg (show ¬ (x.tuner.mode ≠ .mute ∨ x.tone.holders.tuner = false) by simp [mute, free])]
          rfl
      · rw [if_neg mute, if_pos (.inl mute)]
        rfl

/-! ## The SCENE switch (R109) -/

theorem sceneHand_eq (hr : x.scene.buffer.record = some r) (h0 : s.scene.buffer.record = some r) (t : Target) :
    sceneHand s t x = sceneHanded r s.scene.buffer.scene x.scene.buffer.scene x t := by
  unfold sceneHand sceneHanded
  rw [isDriven_some hr]
  cases hd : r.map.any (·.target == t)
  · rw [if_neg (by decide), if_neg (by decide)]
    have here : effective x t = undriven r x.scene.buffer.scene t := by rw [effective_some hr, effectiveIn_undriven hd]
    have before : effective s t = undriven r s.scene.buffer.scene t := by rw [effective_some h0, effectiveIn_undriven hd]
    have changed : handChanged s t x =
        handedNew t (undriven r s.scene.buffer.scene t) (undriven r x.scene.buffer.scene t) x := by
      rw [handChanged_eq, here, before]
    cases t with
    | sat i g =>
      dsimp only
      rw [here]
      cases undriven r x.scene.buffer.scene (.sat i g) with
      | none => rfl
      | some v => simp only [pushed_eq]
    | _ => exact changed
  · rw [if_pos rfl, if_pos rfl]

theorem sceneHanded_scene (r : Record) (old new : Nat) (x : State) (t : Target) : (sceneHanded r old new x t).scene = x.scene := by
  unfold sceneHanded
  split
  · rfl
  · split
    · split
      · split
        · rfl
        · unfold pushed
          dsimp only
          split <;> rfl
      · rfl
    · exact handedNew_scene ..

theorem foldl_sceneHanded_scene (r : Record) (old new : Nat) (l : List Target) (x : State) :
    (l.foldl (sceneHanded r old new) x).scene = x.scene := by
  induction l generalizing x with
  | nil => rfl
  | cons t l ih => rw [List.foldl_cons, ih, sceneHanded_scene]

theorem foldl_sceneHand (h0 : s.scene.buffer.record = some r) (l : List Target) (x : State) (hr : x.scene.buffer.record = some r) :
    l.foldl (fun x t => sceneHand s t x) x = l.foldl (sceneHanded r s.scene.buffer.scene x.scene.buffer.scene) x := by
  induction l generalizing x with
  | nil => rfl
  | cons t l ih =>
    have scene := sceneHanded_scene r s.scene.buffer.scene x.scene.buffer.scene x t
    rw [List.foldl_cons, List.foldl_cons, sceneHand_eq hr h0, ih _ (by rw [scene, hr]), scene]

theorem firstIdx_eq_findIdx? {α : Type} (p : α → Bool) (l : List α) : firstIdx p l = l.findIdx? p := by
  induction l with
  | nil => rfl
  | cons a t ih => rw [firstIdx, List.findIdx?_cons, ih]

theorem effectiveLevel_some (h : x.scene.buffer.record = some r) : effectiveLevel x =
    match r.map.findIdx? (·.target == .level) with
    | some n => x.scene.driven.getD n 0
    | none => (undriven r x.scene.buffer.scene .level).getD 0 := by
  rw [effectiveLevel, effective_some h, effectiveIn, firstIdx_eq_findIdx?]
  cases r.map.findIdx? (·.target == .level) <;> rfl

theorem startScene_eq (h : x.scene.buffer.record = some r) (q : SwRequest) (k : Nat) : startScene q k x = sceneStarts q k r x := by
  have targets : sceneTargets (sceneOf r x.scene.buffer.scene) (sceneOf r k) =
      (sceneOf r k).overrides.map (·.target) ++ ((sceneOf r x.scene.buffer.scene).overrides.map (·.target)).filter
        fun t => decide (t ∉ (sceneOf r k).overrides.map (·.target)) := by
    unfold sceneTargets
    refine congrArg _ (List.filter_congr fun t _ => ?_)
    rw [Bool.eq_iff_iff]
    simp [List.mem_map]
  unfold startScene
  rw [h]
  dsimp only
  rw [targets]
  generalize hb : onTone _ (onBuffer _ (onSw _ x)) = began
  have record : began.scene.buffer.record = some r := by rw [← hb]; exact h
  have scene : began.scene.buffer.scene = k := by rw [← hb]; rfl
  rw [foldl_sceneHand h _ _ record, scene]
  have kept := foldl_sceneHanded_scene r x.scene.buffer.scene k
    ((sceneOf r k).overrides.map (·.target) ++ ((sceneOf r x.scene.buffer.scene).overrides.map (·.target)).filter
        fun t => decide (t ∉ (sceneOf r k).overrides.map (·.target))) began
  generalize hw : List.foldl (sceneHanded r x.scene.buffer.scene k) began _ = w at kept
  rw [exitTuner_eq, effectiveLevel_some (by rw [kept, record]), kept, scene, ← handedOver_eq]
  have driven : began.scene.driven = x.scene.driven := by rw [← hb]; rfl
  rw [driven]
  unfold sceneStarts
  rw [← hw, ← hb] <;> rfl

/-! ## A request becomes in-flight (R93, R99, R100) -/

theorem endLoading_preset {f : Inflight} {l : Loaded} (hl : f.loaded = some l) (kind : f.kind = .preset) (x : State) :
    endLoading f x = if chainNeed l.record.chain ≤ admissionSum x then fadesOut f l.record.chain l.record.fadeOut x
      else switchFailed f.req .noArea x := by
  have chain : incomingChain x f = l.record.chain := by
    unfold incomingChain
    rw [hl]
  unfold endLoading
  rw [hl]
  dsimp only
  rw [startFadeOut_eq, chain, failSwitch_eq]
  exact if_congr (by simp [kind]) rfl rfl

theorem beginSwitch_eq (h : q.target ≠ .rebuild) (x : State) : beginSwitch q x = begins q x := by
  unfold beginSwitch begins
  cases ht : q.target with
  | rebuild => exact absurd ht h
  | stash e =>
    exact endLoading_preset (f := ⟨q, .preset, .loading, some ⟨e.record, e.preset, e.scene, some e.seq⟩, [], [], [], .waiting, [],
      false⟩) rfl rfl x
  | preset n k =>
    dsimp only
    refine if_congr Iff.rfl ?_ ?_
    · unfold askRead
      rw [show ∀ w, storeBusy (onSw w x) = storeBusy x from fun _ => rfl]
      split <;> rfl
    · rw [if_congr eq_comm rfl rfl]
      refine if_congr Iff.rfl ?_ ?_
      · unfold noChange
        rw [exitTuner_eq, tellOrigin_eq_told, openGuard_eq]
      · cases hr : x.scene.buffer.record with
        | none =>
          unfold startScene
          rw [hr]
        | some r => exact startScene_eq hr q _

/-! ## The arbiter (R95, R96) -/

/-- The arbiter in the terms of the claim. -/
theorem arbiter_eq (hq : q.target ≠ .rebuild) (free : x.sw.inflight ≠ none ∨ x.sw.pending = none) :
    arbiter q x = if guardBlocks x q.precedence then (.guarded, x)
    else match x.sw.inflight with
      | none => (.taken, begins q (told q .taken false x))
      | some f =>
        if f.phase = .loading ∧ f.req.precedence ≤ q.precedence then
          (.taken, begins q (told q .taken false
            (loadAbandoned (told f.req .superseded true { x with sw := { x.sw with inflight := none } }))))
        else match x.sw.pending with
          | none => (.taken, { told q .taken false x with sw := { (told q .taken false x).sw with pending := some q } })
          | some p =>
            if p.precedence ≤ q.precedence then
              (.taken, { told q .taken false (told p .superseded true x) with
                sw := { (told q .taken false (told p .superseded true x)).sw with pending := some q } })
            else (.outranked, x) := by
  unfold arbiter
  rw [promotionStep_of_busy free]
  simp only [tellOrigin_eq_told, beginSwitch_eq hq, abandonLoad_eq] <;> rfl

theorem arbiter_arbitrated {gives : Status → State → Prop} (hq : q.target ≠ .rebuild)
    (free : x.sw.inflight ≠ none ∨ x.sw.pending = none)
    (hgives : gives (arbiterStatus (arbiter q x).1) (arbiter q x).2) : Arbitrated q x gives := by
  rw [arbiter_eq hq free] at hgives
  refine ⟨fun g ms hg lt => ?_, fun hg idle => ?_, fun f hg hf loading le => ?_, fun f hg hf keep => ?_⟩
  · rwa [guardBlocks_eq_true hg lt] at hgives
  · rw [guardBlocks_eq_false hg, idle] at hgives
    exact hgives
  · rw [guardBlocks_eq_false hg, if_neg (by decide : ¬ false = true), hf] at hgives
    dsimp only at hgives
    rw [if_pos ⟨loading, le⟩] at hgives
    exact hgives
  · rw [guardBlocks_eq_false hg, if_neg (by decide : ¬ false = true), hf] at hgives
    dsimp only at hgives
    rw [if_neg (show ¬ (f.phase = .loading ∧ f.req.precedence ≤ q.precedence) by
      rintro ⟨loading, le⟩
      rcases keep with no | lt
      · exact no loading
      · omega)] at hgives
    refine ⟨fun none_ => ?_, fun w hw le => ?_, fun w hw lt => ?_⟩
    · rw [none_] at hgives
      exact hgives
    · rw [hw] at hgives
      dsimp only at hgives
      rw [if_pos le] at hgives
      exact hgives
    · rw [hw] at hgives
      dsimp only at hgives
      rw [if_neg (Nat.not_le.2 lt)] at hgives
      exact hgives

/-! ## No link's request is touched -/

theorem outstanding_raiseOn (k : NoticeKind) (j l : Fin 4) (x : State) :
    (linkOf (raiseOn k j x) l).outstanding = (linkOf x l).outstanding :=
  linkOf_onLinkAt_keep (·.outstanding) j l (fun r => { r with flags := r.flags ||| noticeBit k }) x fun _ => rfl

theorem outstanding_told (q : SwRequest) (o : SwOutcome) (n : Bool) (x : State) (l : Fin 4) :
    (linkOf (told q o n x) l).outstanding = (linkOf x l).outstanding := by
  unfold told
  cases q.origin with
  | link k =>
    dsimp only
    split
    · exact (outstanding_raiseOn ..).trans (outstanding_of_link rfl l)
    · exact outstanding_of_link rfl l
  | cue t =>
    dsimp only
    split
    · exact (outstanding_raise ..).trans (outstanding_of_link rfl l)
    · rfl

theorem outstanding_tunerLeft (e : Bool) (x : State) (l : Fin 4) :
    (linkOf (tunerLeft e x) l).outstanding = (linkOf x l).outstanding := by
  unfold tunerLeft
  dsimp only
  split
  · rfl
  · refine (outstanding_raise ..).trans ?_
    split
    · exact outstanding_of_link rfl l
    · split
      · exact outstanding_of_link rfl l
      · rw [handedOver_eq]
        exact (((AudioOnly.refl _).hand _).outstanding l).trans (outstanding_of_link rfl l)

theorem outstanding_sceneHanded (r : Record) (old new : Nat) (x : State) (t : Target) (l : Fin 4) :
    (linkOf (sceneHanded r old new x t) l).outstanding = (linkOf x l).outstanding := by
  unfold sceneHanded
  split
  · rfl
  · split
    · split
      · split
        · rfl
        · rw [pushed_eq]
          exact outstanding_satPush ..
      · rfl
    · exact outstanding_handedNew ..

theorem outstanding_foldl_sceneHanded (r : Record) (old new : Nat) (ts : List Target) (x : State) (l : Fin 4) :
    (linkOf (ts.foldl (sceneHanded r old new) x) l).outstanding = (linkOf x l).outstanding := by
  induction ts generalizing x with
  | nil => rfl
  | cons t ts ih => rw [List.foldl_cons, ih, outstanding_sceneHanded]

theorem outstanding_sceneStarts (q : SwRequest) (k : Nat) (r : Record) (x : State) (l : Fin 4) :
    (linkOf (sceneStarts q k r x) l).outstanding = (linkOf x l).outstanding := by
  unfold sceneStarts
  dsimp only
  rw [outstanding_raise, outstanding_tunerLeft, handedOver_eq]
  refine (((AudioOnly.refl _).hand _).outstanding l).trans ?_
  exact (outstanding_of_link rfl l).trans ((outstanding_foldl_sceneHanded ..).trans (outstanding_of_link rfl l))

theorem outstanding_begins (q : SwRequest) (x : State) (l : Fin 4) :
    (linkOf (begins q x) l).outstanding = (linkOf x l).outstanding := by
  unfold begins
  split
  · split
    · exact outstanding_of_link rfl l
    · unfold switchFailed
      rw [outstanding_raise, outstanding_told]
      exact outstanding_of_link rfl l
  · split
    · exact outstanding_of_link rfl l
    · split
      · rw [outstanding_told]
        exact (outstanding_of_link rfl l).trans (outstanding_tunerLeft ..)
      · split
        · exact outstanding_sceneStarts ..
        · rfl
  · rfl

theorem outstanding_arbiter (hq : q.target ≠ .rebuild) (free : x.sw.inflight ≠ none ∨ x.sw.pending = none) (l : Fin 4) :
    (linkOf (arbiter q x).2 l).outstanding = (linkOf x l).outstanding := by
  rw [arbiter_eq hq free]
  split
  · rfl
  · split
    · dsimp only
      rw [outstanding_begins, outstanding_told]
    · split
      · dsimp only
        rw [outstanding_begins, outstanding_told]
        exact (outstanding_of_link rfl l).trans ((outstanding_told ..).trans (outstanding_of_link rfl l))
      · split
        · exact (outstanding_of_link rfl l).trans (outstanding_told ..)
        · split
          · exact (outstanding_of_link rfl l).trans ((outstanding_told ..).trans (outstanding_told ..))
          · rfl

end Sys2Proof.Frame
end

section
/-! SWITCH, RECALL, DROP_STASH, the guard timer and the promotion (6.1, 6.2). -/

namespace Sys2Proof.Frame

open Sys2Proof Sys2Proof.Machine

variable {x y z s : State} {q : SwRequest} {r : Record} {l : Fin 4} {n k : Nat}

/-! ## A link's request of a preset -/

/-- The outcome record of a link's request of a preset. -/
def linkRecorded (l : Fin 4) (n : Option Nat) (k : Nat) (o : SwOutcome) (x : State) : State :=
  { x with sw := { x.sw with outcomes := x.sw.outcomes.set l.val ⟨n, some k, o⟩ } }

theorem told_preset (ho : q.origin = .link l) (ht : q.target = .preset n k) (o : SwOutcome) (x : State) :
    told q o false x = linkRecorded l (some n) k o x := by
  unfold told
  rw [ho, ht] <;> rfl

theorem told_preset_noticed (ho : q.origin = .link l) (ht : q.target = .preset n k) (o : SwOutcome) (x : State) :
    told q o true x = raiseOn .switchOutcome l (linkRecorded l (some n) k o x) := by
  unfold told
  rw [ho, ht] <;> rfl

theorem told_stash {e : StashEntry} (ho : q.origin = .link l) (ht : q.target = .stash e) (o : SwOutcome) (x : State) :
    told q o false x = linkRecorded l e.preset e.scene o x := by
  unfold told
  rw [ho, ht] <;> rfl

theorem told_stash_noticed {e : StashEntry} (ho : q.origin = .link l) (ht : q.target = .stash e) (o : SwOutcome) (x : State) :
    told q o true x = raiseOn .switchOutcome l (linkRecorded l e.preset e.scene o x) := by
  unfold told
  rw [ho, ht] <;> rfl

/-- A load begins: its read starts at an idle store and waits at a busy one. -/
theorem begins_load (ht : q.target = .preset n k) (h : q.reload = true ∨ x.scene.buffer.preset ≠ some n) : begins q x = { x with
    sw := { x.sw with inflight := some ⟨q, .preset, .loading, none, [], [], [], .waiting, [], false⟩ }
    store := if storeBusy x then { x.store with waitSwitch := some n }
      else { x.store with op := some (.presetRead (.switch false) n) } } := by
  unfold begins
  rw [ht]
  dsimp only
  rw [if_pos h]

theorem begins_load_free (ht : q.target = .preset n k) (h : q.reload = true ∨ x.scene.buffer.preset ≠ some n)
    (free : storeBusy x = false) : begins q x = { x with
      sw := { x.sw with inflight := some ⟨q, .preset, .loading, none, [], [], [], .waiting, [], false⟩ }
      store := { x.store with op := some (.presetRead (.switch false) n) } } := by
  rw [begins_load ht h, if_neg (by rw [free]; decide)]

theorem begins_load_busy (ht : q.target = .preset n k) (h : q.reload = true ∨ x.scene.buffer.preset ≠ some n)
    (busy : storeBusy x = true) : begins q x = { x with
      sw := { x.sw with inflight := some ⟨q, .preset, .loading, none, [], [], [], .waiting, [], false⟩ }
      store := { x.store with waitSwitch := some n } } := by
  rw [begins_load ht h, if_pos busy]

theorem begins_same (ht : q.target = .preset n k) (keep : q.reload = false) (hp : x.scene.buffer.preset = some n)
    (hk : x.scene.buffer.scene = k) : begins q x =
      told q .done false { tunerLeft q.exitTuner x with
        sw := { (tunerLeft q.exitTuner x).sw with guard := guardAfter q (tunerLeft q.exitTuner x).sw.guard } } := by
  unfold begins
  rw [ht]
  dsimp only
  rw [if_neg (by rw [keep, hp]; simp), if_pos hk]

theorem begins_scene (ht : q.target = .preset n k) (keep : q.reload = false) (hp : x.scene.buffer.preset = some n)
    (hk : x.scene.buffer.scene ≠ k) (hr : x.scene.buffer.record = some r) (lt : k < r.scenes.length) :
    begins q x = sceneStarts q k r x := by
  unfold begins
  rw [ht]
  dsimp only
  rw [if_neg (by rw [keep, hp]; simp), if_neg hk, hr]
  dsimp only
  rw [Nat.min_eq_left (by omega)]

/-- The Tuner's exit leaves the Switch Engine alone and does not read it. -/
theorem tunerLeft_sw (e : Bool) (x : State) (w : SwitchEng) :
    tunerLeft e { x with sw := w } = { tunerLeft e x with sw := w } ∧ (tunerLeft e x).sw = x.sw := by
  unfold tunerLeft handedOver
  dsimp only
  split
  · exact ⟨rfl, rfl⟩
  · split
    · exact ⟨rfl, rfl⟩
    · split
      · exact ⟨rfl, rfl⟩
      · split <;> exact ⟨rfl, rfl⟩

/-! ## The rows -/

theorem switchRequest_link (l : Fin 4) (t : SwTarget) (flags : Nat) (y : State) (q : SwRequest)
    (hq : q = ⟨t, flags.testBit 0, flags.testBit 1, (match t with | .preset .. => flags.testBit 2 | _ => false), .link l,
      (linkOf y l).seat.precedence, 0⟩) :
    linkSwitch l t flags y = answer l (arbiterStatus (arbiter q y).1) [] (arbiter q y).2 := by
  rw [hq]
  rfl

theorem switchArgsOk_iff (y : State) (n k : Nat) (b : Bool) : switchArgsOk y n k b = true ↔
    n < 128 ∧ k < 4 ∧ (b = true ∨ y.scene.buffer.preset ≠ some n ∨
      k < (y.scene.buffer.record.map (·.scenes.length)).getD 0) := by
  simp only [switchArgsOk, Bool.and_eq_true, Bool.or_eq_true, decide_eq_true_eq, bne_iff_ne, and_assoc, or_assoc]

/-- What a link's SWITCH that reaches the arbiter leaves, case by case (R93, R96 to R99, R109). -/
theorem switch_cases {f : Nat} {seat : Seat} (q : SwRequest)
    (hq : q = ⟨.preset n k, f.testBit 0, f.testBit 1, f.testBit 2, .link l, seat.precedence, 0⟩)
    (scenes : f.testBit 2 = true ∨ y.scene.buffer.preset ≠ some n ∨ k < (y.scene.buffer.record.map (·.scenes.length)).getD 0)
    {gives : Status → State → Prop} (arb : Arbitrated q y gives) (hg : ∀ g ms, y.sw.guard = some (g, ms) → g ≤ seat.precedence) :
    let recorded := fun (o : SwOutcome) (w : SwitchEng) => { w with outcomes := w.outcomes.set l.val ⟨some n, some k, o⟩ }
    (y.sw.inflight = none → (f.testBit 2 = true ∨ y.scene.buffer.preset ≠ some n) → storeBusy y = false →
      gives .ok { y with
        sw := { recorded .taken y.sw with
          inflight := some ⟨q, .preset, .loading, none, [], [], [], .waiting, [], false⟩ }
        store := { y.store with op := some (.presetRead (.switch false) n) } }) ∧
    (y.sw.inflight = none → (f.testBit 2 = true ∨ y.scene.buffer.preset ≠ some n) → storeBusy y = true →
      gives .ok { y with
        sw := { recorded .taken y.sw with
          inflight := some ⟨q, .preset, .loading, none, [], [], [], .waiting, [], false⟩ }
        store := { y.store with waitSwitch := some n } }) ∧
    (y.sw.inflight = none → f.testBit 2 = false → y.scene.buffer.preset = some n → y.scene.buffer.scene = k →
      gives .ok (tunerLeft (f.testBit 1) { y with sw := recorded .done y.sw })) ∧
    (∀ r, y.sw.inflight = none → f.testBit 2 = false → y.scene.buffer.preset = some n → y.scene.buffer.scene ≠ k →
      y.scene.buffer.record = some r → gives .ok (sceneStarts q k r { y with sw := recorded .taken y.sw })) := by
  intro recorded
  have target : q.target = .preset n k := by rw [hq]
  have origin : q.origin = .link l := by rw [hq]
  have reload : q.reload = f.testBit 2 := by rw [hq]
  have exits : q.exitTuner = f.testBit 1 := by rw [hq]
  have below : ∀ g ms, y.sw.guard = some (g, ms) → g ≤ q.precedence := by rw [hq]; exact hg
  refine ⟨fun idle other free => ?_, fun idle other busy => ?_, fun idle keep hp hk => ?_, fun r idle keep hp hk hr => ?_⟩
  · have taken := arb.idle below idle
    rwa [told_preset origin target, begins_load_free target (by rw [reload]; exact other) (by exact free)] at taken
  · have taken := arb.idle below idle
    rwa [told_preset origin target, begins_load_busy target (by rw [reload]; exact other) (by exact busy)] at taken
  · have taken := arb.idle below idle
    rw [told_preset origin target, begins_same target (by rw [reload, keep]) (by exact hp) (by exact hk), told_preset origin target, exits] at taken
    obtain ⟨commutes, keeps⟩ := tunerLeft_sw (f.testBit 1) y (recorded .done y.sw)
    obtain ⟨commutes', keeps'⟩ := tunerLeft_sw (f.testBit 1) y (recorded .taken y.sw)
    have opens : guardAfter q y.sw.guard = y.sw.guard := by
      unfold guardAfter
      rw [origin]
    have first : linkRecorded l (some n) k .taken y = { y with sw := recorded .taken y.sw } := rfl
    rw [first, commutes'] at taken
    rw [commutes]
    have twice : ({ tunerLeft (f.testBit 1) y with sw := recorded .done y.sw } : State) =
        linkRecorded l (some n) k .done { tunerLeft (f.testBit 1) y with
          sw := { recorded .taken y.sw with guard := guardAfter q y.sw.guard } } := by
      simp only [linkRecorded, recorded, List.set_set, opens]
    rw [twice]
    exact taken
  · have taken := arb.idle below idle
    have lt : k < r.scenes.length := by
      rcases scenes with h | h | h
      · rw [keep] at h
        cases h
      · exact absurd hp h
      · rwa [hr] at h
    rw [told_preset origin target, begins_scene target (by rw [reload, keep]) (by exact hp) (by exact hk) (by exact hr) lt] at taken
    exact taken

theorem loadAbandoned_read {d : Bool} (h : x.store.op = some (.presetRead (.switch d) n)) : loadAbandoned x =
    { x with store := { x.store with waitSwitch := none, op := some (.presetRead (.switch true) n) } } := by
  unfold loadAbandoned
  rw [h]

theorem loadAbandoned_other (h : ∀ d i, x.store.op ≠ some (.presetRead (.switch d) i)) : loadAbandoned x =
    { x with store := { x.store with waitSwitch := none } } := by
  unfold loadAbandoned
  split
  · next op => exact absurd op (h _ _)
  · rfl

theorem storeBusy_op {o : StoreOp} (h : x.store.op = some o) : storeBusy x = true := by simp [storeBusy, h]

/-- What a link's SWITCH leaves that is queued behind the switch in flight, or replaces one in LOADING. -/
theorem switch_queued {f : Nat} {seat : Seat} (q : SwRequest)
    (hq : q = ⟨.preset n k, f.testBit 0, f.testBit 1, f.testBit 2, .link l, seat.precedence, 0⟩)
    {gives : Status → State → Prop} (arb : Arbitrated q y gives) (hg : ∀ g ms, y.sw.guard = some (g, ms) → g ≤ seat.precedence) :
    let recorded := fun (o : SwOutcome) (w : SwitchEng) => { w with outcomes := w.outcomes.set l.val ⟨some n, some k, o⟩ }
    (∀ f, y.sw.inflight = some f → (f.phase ≠ .loading ∨ seat.precedence < f.req.precedence) →
      y.sw.pending = none → gives .ok { y with sw := { recorded .taken y.sw with pending := some q } }) ∧
    (∀ f w, y.sw.inflight = some f → (f.phase ≠ .loading ∨ seat.precedence < f.req.precedence) →
      y.sw.pending = some w → seat.precedence < w.precedence → gives .outranked y) ∧
    (∀ f w l m j, y.sw.inflight = some f → (f.phase ≠ .loading ∨ seat.precedence < f.req.precedence) →
      y.sw.pending = some w → w.precedence ≤ seat.precedence → w.origin = .link l → w.target = .preset m j →
      gives .ok (raiseOn .switchOutcome l { y with sw := { recorded .taken { y.sw with
        outcomes := y.sw.outcomes.set l.val ⟨some m, some j, .superseded⟩ } with pending := some q } })) := by
  intro recorded
  have target : q.target = .preset n k := by rw [hq]
  have origin : q.origin = .link l := by rw [hq]
  have rank : q.precedence = seat.precedence := by rw [hq]
  have below : ∀ g ms, y.sw.guard = some (g, ms) → g ≤ q.precedence := by rw [rank]; exact hg
  refine ⟨fun f hf keep free => ?_, fun f w hf keep hw lt => ?_, fun f w j m i hf keep hw le ho ht => ?_⟩
  · have taken := (arb.waits f below hf (by rw [rank]; exact keep)).1 free
    rwa [told_preset origin target] at taken
  · exact (arb.waits f below hf (by rw [rank]; exact keep)).2.2 w hw (by rw [rank]; exact lt)
  · have taken := (arb.waits f below hf (by rw [rank]; exact keep)).2.1 w hw (by rw [rank]; exact le)
    rwa [told_preset origin target, told_preset_noticed ho ht] at taken

/-- A SWITCH that replaces the switch in LOADING: the load that ran is discarded, the new read waits its turn (R99). -/
theorem switch_replaces {f : Nat} {seat : Seat} (q : SwRequest)
    (hq : q = ⟨.preset n k, f.testBit 0, f.testBit 1, f.testBit 2, .link l, seat.precedence, 0⟩)
    {gives : Status → State → Prop} (arb : Arbitrated q y gives) (hg : ∀ g ms, y.sw.guard = some (g, ms) → g ≤ seat.precedence)
    (other : f.testBit 2 = true ∨ y.scene.buffer.preset ≠ some n) {g : Inflight} (hf : y.sw.inflight = some g)
    (loading : g.phase = .loading) (le : g.req.precedence ≤ seat.precedence) {z : State}
    (hz : told g.req .superseded true { y with sw := { y.sw with inflight := none } } = z)
    (scene : z.scene = y.scene) :
    (∀ m, z.store.op = some (.presetRead (.switch false) m) →
      gives .ok { z with
        sw := { z.sw with
          outcomes := z.sw.outcomes.set l.val ⟨some n, some k, .taken⟩
          inflight := some ⟨q, .preset, .loading, none, [], [], [], .waiting, [], false⟩ }
        store := { z.store with op := some (.presetRead (.switch true) m), waitSwitch := some n } }) ∧
    (∀ o, z.store.op = some o → (∀ d i, o ≠ .presetRead (.switch d) i) →
      gives .ok { z with
        sw := { z.sw with
          outcomes := z.sw.outcomes.set l.val ⟨some n, some k, .taken⟩
          inflight := some ⟨q, .preset, .loading, none, [], [], [], .waiting, [], false⟩ }
        store := { z.store with waitSwitch := some n } }) := by
  have target : q.target = .preset n k := by rw [hq]
  have origin : q.origin = .link l := by rw [hq]
  have reload : q.reload = f.testBit 2 := by rw [hq]
  have rank : q.precedence = seat.precedence := by rw [hq]
  have below : ∀ g ms, y.sw.guard = some (g, ms) → g ≤ q.precedence := by rw [rank]; exact hg
  have different : q.reload = true ∨ z.scene.buffer.preset ≠ some n := by rw [reload, scene]; exact other
  have taken := arb.replaces g below hf loading (by rw [rank]; exact le)
  rw [hz, told_preset origin target] at taken
  refine ⟨fun m op => ?_, fun o op no => ?_⟩
  · rw [loadAbandoned_read op, begins_load_busy target (by exact different) (storeBusy_op (by exact rfl))] at taken
    exact taken
  · rw [loadAbandoned_other (fun d i h => no d i (Option.some.inj (op.symm.trans h))),
      begins_load_busy target (by exact different) (storeBusy_op (by exact op))] at taken
    exact taken

/-! ## The promotion (R98) -/

theorem promotionStep_some (idle : x.sw.inflight = none) (hq : x.sw.pending = some q) :
    promotionStep x = if guardBlocks x q.precedence then told q .guarded true { x with sw := { x.sw with pending := none } }
      else beginSwitch q { x with sw := { x.sw with pending := none } } := by
  unfold promotionStep
  rw [idle, hq]
  dsimp only
  rw [tellOrigin_eq_told]
  rfl

/-! ## A link's RECALL -/

theorem begins_stash {e : StashEntry} (ht : q.target = .stash e) : begins q x =
    if chainNeed e.record.chain ≤ admissionSum x then
      fadesOut ⟨q, .preset, .loading, some ⟨e.record, e.preset, e.scene, some e.seq⟩, [], [], [], .waiting, [], false⟩
        e.record.chain e.record.fadeOut x
    else switchFailed q .noArea x := by
  unfold begins
  rw [ht]

/-- What a link's RECALL that reaches the arbiter leaves (R100, R103). -/
theorem recall_cases {e : StashEntry} {d e' : Bool} {prec : Nat} (q : SwRequest)
    (hq : q = ⟨.stash e, d, e', false, .link l, prec, 0⟩) {gives : Status → State → Prop} (arb : Arbitrated q y gives)
    (hg : ∀ g ms, y.sw.guard = some (g, ms) → g ≤ prec) :
    let recorded := fun (o : SwOutcome) => { y.sw with outcomes := y.sw.outcomes.set l.val ⟨e.preset, some e.scene, o⟩ }
    (∀ f, y.sw.inflight = some f → f.phase ≠ .loading → y.sw.pending = none →
      gives .ok { y with sw := { recorded .taken with pending := some q } }) ∧
    (y.sw.inflight = none → chainNeed e.record.chain ≤ admissionSum y →
      gives .ok (fadesOut ⟨q, .preset, .loading, some ⟨e.record, e.preset, e.scene, some e.seq⟩, [], [], [], .waiting, [], false⟩
        e.record.chain e.record.fadeOut { y with sw := recorded .taken })) ∧
    (y.sw.inflight = none → admissionSum y < chainNeed e.record.chain →
      gives .ok (raise .scene (raiseOn .switchOutcome l { y with
        tone := { y.tone with chainRested := false }
        sw := { recorded .noArea with inflight := none, laneReports := [] } }))) := by
  intro recorded
  have target : q.target = .stash e := by rw [hq]
  have origin : q.origin = .link l := by rw [hq]
  have rank : q.precedence = prec := by rw [hq]
  have below : ∀ g ms, y.sw.guard = some (g, ms) → g ≤ q.precedence := by rw [rank]; exact hg
  have sum : admissionSum (linkRecorded l e.preset e.scene .taken y) = admissionSum y := rfl
  refine ⟨fun f hf keep free => ?_, fun idle fits => ?_, fun idle short => ?_⟩
  · have taken := (arb.waits f below hf (.inl keep)).1 free
    rwa [told_stash origin target] at taken
  · have taken := arb.idle below idle
    rwa [told_stash origin target, begins_stash target, sum, if_pos fits] at taken
  · have taken := arb.idle below idle
    rw [told_stash origin target, begins_stash target, sum, if_neg (Nat.not_le.2 short), switchFailed,
      told_stash_noticed origin target] at taken
    have twice : linkRecorded l e.preset e.scene .noArea { linkRecorded l e.preset e.scene .taken y with
        tone := { (linkRecorded l e.preset e.scene .taken y).tone with chainRested := false }
        sw := { (linkRecorded l e.preset e.scene .taken y).sw with inflight := none, laneReports := [] } } = { y with
        tone := { y.tone with chainRested := false }
        sw := { recorded .noArea with inflight := none, laneReports := [] } } := by
      simp only [linkRecorded, recorded, List.set_set]
    rwa [twice] at taken

/-- Settles O28: `arbiter_arbitrated` for the arbiter, `switch_cases`, `switch_queued`, `switch_replaces` and `recall_cases` for
the cases the claim names. -/
theorem switchRequestsReachTheArbiter : Obligations.SwitchRequestsReachTheArbiter := by
  unfold Obligations.SwitchRequestsReachTheArbiter
  refine ⟨fun p n k f s h => ?_, fun p i f s h => ?_, fun p i s h => ?_, fun s hl => ?_⟩
  · intro y
    have hy : heard p 0x0F s = y := rfl
    clear_value y
    intro seat no scenes ok q recorded taken
    have valid : switchArgsOk y n k (f.testBit 2) = true ↔ ok := switchArgsOk_iff ..
    refine ⟨fun bad => ?_, fun good disc tier => ?_, fun good tier free => ?_⟩
    · refine request_refuses h hy (if_pos ?_)
      rw [Bool.not_eq_true', Bool.eq_false_iff]
      exact fun v => bad (valid.1 v)
    · have row : switchRequest p.link n k f y = refuse p.link .denied y :=
        (if_neg (by rw [valid.2 good]; decide)).trans (if_pos ⟨disc, tier⟩)
      exact request_refuses h hy row
    · have row : switchRequest p.link n k f y = answer p.link (arbiterStatus (arbiter q y).1) [] (arbiter q y).2 :=
        (if_neg (by rw [valid.2 good]; decide)).trans ((if_neg (by
          rintro ⟨disc, low⟩
          rcases tier with keep | enough
          · rw [keep] at disc
            cases disc
          · exact absurd low (Nat.not_lt.2 enough))).trans (switchRequest_link p.link (.preset n k) f y q rfl))
      have arb : Arbitrated q y (fun st z => exec (.switch p n k f) s = .next (filled p 0x0F st [] z)) :=
        arbiter_arbitrated (by simp [q]) free
          (request_answers h hy row (outstanding_arbiter (by simp [q]) free p.link))
      refine ⟨arb, fun g ms hg lt => arb.guarded g ms hg lt, fun below => ?_⟩
      obtain ⟨load, waits, same, scene⟩ := switch_cases q rfl good.2.2 arb below
      obtain ⟨queued, outranked, superseded⟩ := switch_queued q rfl arb below
      refine ⟨load, waits, same, scene, queued, outranked, superseded, fun g l m j hf loading le ho ht op other => ?_,
        fun g l m j o hf loading le ho ht op no other => ?_, fun g t m j hf loading le ho ht listed op other => ?_⟩
      · exact (switch_replaces q rfl arb below other hf loading le (told_preset_noticed ho ht _ _) rfl).1 m (by exact op)
      · exact (switch_replaces q rfl arb below other hf loading le (told_preset_noticed ho ht _ _) rfl).2 o (by exact op) no
      · have cue := told_cue ho .superseded true { y with sw := { y.sw with inflight := none } }
        rw [if_pos (by exact listed)] at cue
        exact (switch_replaces q rfl arb below other hf loading le cue rfl).1 m (by exact op)
  · intro y
    have hy : heard p 0x15 s = y := rfl
    clear_value y
    intro seat no
    refine ⟨fun beyond => ?_, fun e he disc tier => ?_, fun e he tier free => ?_⟩
    · have row : recallRequest p.link i f y = refuse p.link .badArg y := by
        unfold recallRequest
        rw [List.getElem?_eq_none beyond]
      exact request_refuses h hy row
    · have row : recallRequest p.link i f y = refuse p.link .denied y := by
        unfold recallRequest
        rw [he]
        exact if_pos ⟨disc, tier⟩
      exact request_refuses h hy row
    · intro q recorded taken
      have row : recallRequest p.link i f y = answer p.link (arbiterStatus (arbiter q y).1) [] (arbiter q y).2 := by
        unfold recallRequest
        rw [he]
        refine (if_neg ?_).trans (switchRequest_link p.link (.stash e) f y q rfl)
        rintro ⟨disc, low⟩
        rcases tier with keep | enough
        · rw [keep] at disc
          cases disc
        · exact absurd low (Nat.not_lt.2 enough)
      have arb : Arbitrated q y (fun st z => exec (.recall p i f) s = .next (filled p 0x15 st [] z)) :=
        arbiter_arbitrated (by simp [q]) free
          (request_answers h hy row (outstanding_arbiter (by simp [q]) free p.link))
      exact ⟨arb, fun g ms hg lt => arb.guarded g ms hg lt, fun below => recall_cases q rfl arb below⟩
  · intro y
    have hy : heard p 0x16 s = y := rfl
    clear_value y
    refine ⟨fun beyond => ?_, fun inside_ => ?_⟩
    · have row : dropStash p.link i y = refuse p.link .badArg y := if_neg (Nat.not_lt.2 beyond)
      exact request_refuses h hy row
    · have row : dropStash p.link i y = answer p.link .ok [] (raise .stash
          { y with scene := { y.scene with stash := y.scene.stash.eraseIdx i } }) := if_pos inside_
      exact request_fills_raise h hy row rfl
  · have row : exec .switchPromotion s = .next (promotionStep s) := inside_live hl promotionStep
    rw [row]
    refine ⟨outside_live hl (onSw fun w => { w with guard := none }), fun busy => congrArg _ (promotionStep_of_busy busy),
      fun q idle hq => ⟨fun g ms hg lt => ?_, fun below target => ?_⟩, fun q n k idle hq target => ⟨fun g ms l hg lt ho => ?_,
        fun below other free => ?_, fun r below keep hp hk hr lt => ?_⟩⟩
    · rw [promotionStep_some idle hq, guardBlocks_eq_true hg lt]
      rfl
    · rw [promotionStep_some idle hq, guardBlocks_eq_false below, beginSwitch_eq target]
      rfl
    · rw [promotionStep_some idle hq, guardBlocks_eq_true hg lt, told_preset_noticed ho target]
      rfl
    · rw [promotionStep_some idle hq, guardBlocks_eq_false below, beginSwitch_eq (by rw [target]; simp),
        begins_load_free target (by exact other) (by exact free)]
      rfl
    · rw [promotionStep_some idle hq, guardBlocks_eq_false below, beginSwitch_eq (by rw [target]; simp),
        begins_scene target keep (by exact hp) (by exact hk) (by exact hr) lt]
      rfl

end Sys2Proof.Frame
end

section
/-! How a switch goes on (R99 to R104, R107): its load ends, its tails are selected, its fades end. -/

namespace Sys2Proof.Frame

open Sys2Proof Sys2Proof.Machine

variable {x y z s : State} {f : Inflight} {r : Record}

/-! ## The end of a switch's read (R99, R100) -/

theorem loadRead_some (hf : x.sw.inflight = some f) {n : Nat} :
    (readPlace (placeOf x n) = none → loadRead n x = switchFailed f.req .empty x) ∧
    (readPlace (placeOf x n) = some none → loadRead n x = switchFailed f.req .badRecord x) ∧
    (∀ r, readPlace (placeOf x n) = some (some r) → ∃ k, loadRead n x = endLoading { f with loaded := some ⟨r, some n, k, none⟩ } x ∧
      ∀ m j, f.req.target = .preset m j → k = min j (r.scenes.length - 1)) := by
  unfold loadRead
  rw [hf]
  dsimp only
  refine ⟨fun h => ?_, fun h => ?_, fun r h => ?_⟩
  · rw [h]
    exact failSwitch_eq ..
  · rw [h]
    exact failSwitch_eq ..
  · rw [h]
    refine ⟨_, rfl, fun m j target => ?_⟩
    rw [target]

theorem endLoading_fits {l : Loaded} (hl : f.loaded = some l) (fits : chainNeed l.record.chain ≤ admissionSum x) :
    endLoading f x = fadesOut f l.record.chain l.record.fadeOut x := by
  have chain : incomingChain x f = l.record.chain := by
    unfold incomingChain
    rw [hl]
  unfold endLoading
  rw [hl]
  dsimp only
  rw [startFadeOut_eq, chain, if_pos (.inr fits)]

/-! ## Tail selection (R100 to R102) -/

theorem sum_zero_outside (g : Nat → Nat) (ps : List Nat) (l : List Nat) :
    (l.map fun k => if ps.contains k then 0 else g k).sum = ((l.filter fun k => !ps.contains k).map g).sum := by
  induction l with
  | nil => rfl
  | cons k l ih =>
    cases h : ps.contains k
    · rw [List.map_cons, List.sum_cons, ih, List.filter_cons_of_pos (by rw [h]; rfl), List.map_cons, List.sum_cons, h]
      rfl
    · rw [List.map_cons, List.sum_cons, ih, List.filter_cons_of_neg (by rw [h]; decide), h]
      exact Nat.zero_add _

theorem tailRoom_iff (x : State) (cost need : Nat) (e ps : List Nat) : tailRoom x cost need e ps = true ↔
    let at_ := fun (k : Nat) => (x.tone.chain[k]?).bind (·.inst)
    let costOf := fun (i : Option Inst) => (i.map fun i => slotCost i.stype i.lclass).getD 0
    let linesOf := fun (i : Option Inst) => (i.map fun i => i.areas.length).getD 0
    let laneAt := fun (l : Nat) => (x.tone.lanes.getD l Lane.clear).inst
    let kept := x.tone.order.filter fun l => !e.contains l
    let others := (List.range x.tone.chain.length).filter fun k => !ps.contains k
    cost + (kept.map fun l => costOf (laneAt l)).sum + (ps.map fun k => costOf (at_ k)).sum ≤ 1000 ∧
      kept.length + ps.length ≤ 4 ∧
      need ≤ freeAreas x.area + (others.map fun k => linesOf (at_ k)).sum + (e.map fun l => linesOf (laneAt l)).sum := by
  unfold tailRoom
  simp only [Bool.and_eq_true, decide_eq_true_eq, and_assoc]
  rw [linesExcept, costAt, sumNat_eq_sum, sumNat_eq_sum, sumNat_eq_sum, sumNat_eq_sum, sum_zero_outside]
  exact Iff.rfl

/-- Lanes are evicted oldest first until there is room. -/
theorem foldl_evict (room : List Nat → Bool) (e order : List Nat) :
    ∃ j, j ≤ order.length ∧ order.foldl (fun e l => if room e then e else e ++ [l]) e = e ++ order.take j ∧
      (room (e ++ order.take j) = true ∨ j = order.length) ∧ ∀ i, i < j → room (e ++ order.take i) = false := by
  induction order generalizing e with
  | nil => exact ⟨0, Nat.le_refl _, by simp, .inr rfl, fun i h => absurd h (Nat.not_lt_zero i)⟩
  | cons l t ih =>
    cases h : room e
    · obtain ⟨j, hj, fold, stop, before⟩ := ih (e ++ [l])
      refine ⟨j + 1, Nat.succ_le_succ hj, ?_, ?_, fun i hi => ?_⟩
      · rw [List.foldl_cons, h, if_neg (by decide), fold, List.take_succ_cons, List.append_assoc]
        rfl
      · rw [List.take_succ_cons, List.length_cons, Nat.add_right_cancel_iff]
        rwa [List.append_assoc] at stop
      · cases i with
        | zero => rwa [List.take_zero, List.append_nil]
        | succ i =>
          have := before i (by omega)
          rwa [List.append_assoc] at this
    · refine ⟨0, Nat.zero_le _, ?_, .inl (by rwa [List.take_zero, List.append_nil]), fun i hi => absurd hi (Nat.not_lt_zero i)⟩
      have stays : ∀ t : List Nat, t.foldl (fun e l => if room e then e else e ++ [l]) e = e := fun t => by
        induction t with
        | nil => rfl
        | cons l t ih => rw [List.foldl_cons, h, if_pos rfl, ih]
      rw [stays, List.take_zero, List.append_nil]

theorem indicesFrom_zero {α : Type} {p : α → Bool} {l : List α} {k : Nat} :
    k ∈ indicesFrom p 0 l ↔ ∃ a, l[k]? = some a ∧ p a = true := by
  rw [mem_indicesFrom]
  constructor
  · rintro ⟨r, a, ha, hp, rfl⟩
    exact ⟨a, by rwa [Nat.zero_add], hp⟩
  · rintro ⟨a, ha, hp⟩
    exact ⟨k, a, ha, hp, (Nat.zero_add k).symm⟩

theorem mem_tailCandidates {k : Nat} : k ∈ tailCandidates x ↔
    ∃ i, (x.tone.chain[k]?).bind (·.inst) = some i ∧ (i.stype = .delay ∨ i.stype = .reverb) ∧ i.policy = .keep := by
  have holds : ∀ t : SlotType, holdsLine t = true ↔ t = .delay ∨ t = .reverb := fun t => by cases t <;> simp [holdsLine]
  unfold tailCandidates instAt
  rw [List.mem_filter, List.mem_range, Option.any_eq_true]
  simp only [Bool.and_eq_true, beq_iff_eq, holds]
  refine ⟨fun h => h.2, fun h => ⟨?_, h⟩⟩
  obtain ⟨i, hi, -⟩ := h
  cases hp : x.tone.chain[k]? with
  | none => simp [hp] at hi
  | some p => exact (List.getElem?_eq_some_iff.1 hp).1

theorem mem_emptyLanes {k : Nat} : k ∈ emptyLanes x ↔ ∃ y, x.tone.lanes[k]? = some y ∧ y.st = .empty := by
  unfold emptyLanes
  rw [indicesFrom_zero]
  simp only [occupied, Bool.not_eq_true', bne_eq_false_iff_eq]

/-- Settles O29: the read's end by `loadRead_some`, the tails by `tailRoom_iff` and `foldl_evict`, the ends by `completeSwitch_eq`. -/
theorem switchesLoadFadeAndComplete : Obligations.SwitchesLoadFadeAndComplete := by
  unfold Obligations.SwitchesLoadFadeAndComplete
  refine ⟨fun n f s hl => ?_, fun x cost need e ps k => ?_, fun s hl => ?_, fun s hl => ?_⟩
  · rw [exec_presetReadCompletion hl]
    generalize prelude s = y
    intro y idle fails op hf
    have row : readCompletion y = loadRead n idle := readCompletion_switch op
    obtain ⟨empty, bad, good⟩ := loadRead_some (x := idle) (n := n) hf
    refine ⟨fun h => ?_, fun h => ?_, fun r h kind short => ?_, fun r m j h target fits => ?_⟩
    · exact congrArg _ (row.trans (empty h))
    · exact congrArg _ (row.trans (bad h))
    · obtain ⟨k, load, -⟩ := good r h
      refine congrArg _ (row.trans (load.trans ?_))
      exact (endLoading_preset (f := { f with loaded := some ⟨r, some n, k, none⟩ }) rfl kind idle).trans (if_neg (Nat.not_le.2 short))
    · obtain ⟨k, load, scene⟩ := good r h
      refine congrArg _ (row.trans (load.trans ?_))
      rw [← scene m j target]
      exact endLoading_fits (f := { f with loaded := some ⟨r, some n, k, none⟩ }) (x := idle) rfl fits
  · intro at_ costOf linesOf laneAt kept others
    refine ⟨tailRoom_iff x cost need e ps, ?_, rfl, ?_, ?_, ?_, ?_, ?_, ?_⟩
    · obtain ⟨j, hj, fold, stop, before⟩ := foldl_evict (fun e => tailRoom x cost need e ps) [] x.tone.order
      exact ⟨j, hj, fold, stop, before⟩
    · intro a
      exact List.foldl_append
    · exact mem_tailCandidates
    · exact (List.pairwise_lt_range (n := _)).filter _
    · exact mem_emptyLanes
    · exact indicesFrom_pairwise ..
    · rw [admissionSum, liveLines, sumNat_eq_sum, sumNat_eq_sum]
      rfl
  · have row : exec .chainGainAtRest s = .next (chainRestStep s) := inside_live hl chainRestStep
    rw [row]
    intro rest
    refine ⟨fun off => congrArg _ (if_neg (by rw [off]; decide)), fun on idle => congrArg _ ?_, fun f on hf => ?_⟩
    · unfold chainRestStep
      rw [if_pos on, idle] <;> rfl
    have step : chainRestStep s = match f.phase with
        | .loading => rest
        | .fadingOut => hand .drop { rest with
            sw := { s.sw with laneReports := [], inflight := some { f with deferred := [], dropped := true } } }
        | .fadingIn => completeSwitch f.req rest
        | .ramping => completeSwitch f.req rest := by
      unfold chainRestStep
      rw [if_pos on, hf] <;> rfl
    have ends : f.phase = .fadingIn ∨ f.phase = .ramping → chainRestStep s = raise .scene (told f.req .done false { rest with
        sw := { s.sw with inflight := none, laneReports := [], guard := guardAfter f.req s.sw.guard } }) := by
      rintro (h | h)
      · rw [step, h, completeSwitch_eq]
      · rw [step, h, completeSwitch_eq]
    refine ⟨fun h => ?_, fun h => ?_, fun h => congrArg _ (ends h), fun l n k h ho target => ?_, fun c h ho listed => ?_⟩
    · rw [step, h]
    · rw [step, h, handedOver_eq]
    · rw [ends h]
      unfold told guardAfter
      rw [ho]
      rcases target with ⟨m, j, ht, rfl, rfl⟩ | ⟨e, ht, rfl, rfl⟩ | ⟨ht, rfl, rfl⟩
      · rw [ht] <;> rfl
      · rw [ht] <;> rfl
      · rw [ht] <;> rfl
    · rw [ends h, told_cue ho, if_pos (by exact listed)]
      unfold guardAfter
      rw [ho] <;> rfl
  · have row : exec .deferredLaneMove s = .next (deferredMoveStep s) := inside_live hl deferredMoveStep
    rw [row]
    refine ⟨fun no => congrArg _ ?_, fun f hf fading reports => ⟨fun cut => congrArg _ ?_, fun some_ moving hp => ?_⟩⟩
    · unfold deferredMoveStep
      cases hf : s.sw.inflight with
      | none => rfl
      | some f =>
        refine if_neg ?_
        rintro ⟨fading, reports⟩
        exact (no f hf).elim (· fading) reports
    · unfold deferredMoveStep
      rw [hf]
      dsimp only
      rw [if_pos ⟨fading, reports⟩, if_pos cut]
      rfl
    · intro moves
      refine congrArg _ ?_
      unfold deferredMoveStep
      rw [hf]
      dsimp only
      rw [if_pos ⟨fading, reports⟩, if_neg (by
        rintro (h | ⟨hn, hc⟩)
        · exact some_ h
        · exact moving.elim (· hn) (· hc)), hand_foldl_present _ _ _ (by exact hp)]
      rfl

end Sys2Proof.Frame
end

section
/-! CHAIN_EDIT (R86 to R88): the admission test, the seven plans, and the REBUILD that a taken edit starts. -/

namespace Sys2Proof.Frame

open Sys2Proof Sys2Proof.Machine

variable {p : Pkt} {expected : Nat} {s x y z : State} {r : Record} {st : Status} {plan : Record → List Int → Option ChainPlan}
  {c : ChainPlan} {w : SwitchEng}

/-! ## A parameter that is handed leaves the Switch Engine alone and does not read it -/

/-- `x` with the Switch Engine `w`. -/
def withSw (w : SwitchEng) (x : State) : State := { x with sw := w }

theorem cabResolve_withSw (pos keep : Nat) (gain : Ramp) (phase : ResolvePhase) (x : State) :
    cabResolve pos keep gain phase (withSw w x) = withSw w (cabResolve pos keep gain phase x) := by
  unfold cabResolve
  rw [show instAt (withSw w x) pos = instAt x pos from rfl]
  cases instAt x pos with
  | none => rfl
  | some i => cases hi : i.proc <;> simp only [hi] <;> rfl

theorem cabChange_withSw (landing : Bool) (pos : Nat) (x : State) :
    cabChange landing pos (withSw w x) = withSw w (cabChange landing pos x) := by
  unfold cabChange
  rw [show instAt (withSw w x) pos = instAt x pos from rfl]
  cases instAt x pos with
  | none => rfl
  | some i =>
    cases hi : i.proc with
    | cab image miss hist gain phase =>
      simp only [hi]
      split
      · exact cabResolve_withSw ..
      · split <;> rfl
    | _ => simp only [hi]

theorem takeParam_withSw (landing : Bool) (pos idx : Nat) (v : Int) (x : State) :
    takeParam landing pos idx v (withSw w x) = withSw w (takeParam landing pos idx v x) := by
  unfold takeParam
  rw [show instAt (withSw w x) pos = instAt x pos from rfl]
  cases instAt x pos with
  | none => rfl
  | some i =>
    dsimp only
    have forgotten : ∀ (i' : Inst) (z : State), forgetHanded pos idx i' (withSw w z) = withSw w (forgetHanded pos idx i' z) := by
      intro i' z
      unfold forgetHanded
      split <;> rfl
    have put : ∀ (i' : Option Inst) (z : State), setInst pos i' (withSw w z) = withSw w (setInst pos i' z) := fun _ _ => rfl
    rw [put, forgotten, cabChange_withSw]
    split <;> rfl

theorem handed_param_withSw (q i : Nat) (v : Int) (x : State) :
    handed (.param q i) v (withSw w x) = withSw w (handed (.param q i) v x) := by
  unfold handed handedOver
  dsimp only
  rw [show liveOf (withSw w x) q = liveOf x q from rfl]
  cases liveOf x q with
  | none => rfl
  | some k =>
    dsimp only
    rw [show (withSw w x).mon = x.mon from rfl]
    split
    · rfl
    · exact takeParam_withSw ..

theorem handedNew_param_withSw (q i : Nat) (before after : Option Int) (x : State) :
    handedNew (.param q i) before after (withSw w x) = withSw w (handedNew (.param q i) before after x) := by
  unfold handedNew
  cases after with
  | none => rfl
  | some v =>
    dsimp only
    split
    · rfl
    · exact handed_param_withSw ..

/-! ## Admission (R19) -/

/-- A chain that R19 lets through but for cost and areas. -/
def Lawful (chain : List SlotRec) : Prop :=
  1 ≤ chain.length ∧ chain.length ≤ 12 ∧
    (∀ x ∈ chain, x.policy = .keep → x.stype = .delay ∨ x.stype = .reverb) ∧
    (chain.filter (·.stype == .loop)).length ≤ 1

theorem holdsLine_iff (t : SlotType) : holdsLine t = true ↔ t = .delay ∨ t = .reverb := by cases t <;> simp [holdsLine]

theorem lawful_iff (chain : List SlotRec) : Lawful chain ↔ ¬ (chain.length < 1 ∨ 12 < chain.length) ∧
    ¬ (chain.any (fun x => x.policy == .keep && !holdsLine x.stype)) = true ∧
    ¬ 1 < (chain.filter (·.stype == .loop)).length := by
  have tails : ¬ (chain.any (fun x => x.policy == .keep && !holdsLine x.stype)) = true ↔
      ∀ x ∈ chain, x.policy = .keep → x.stype = .delay ∨ x.stype = .reverb := by
    simp only [List.any_eq_true, Bool.and_eq_true, beq_iff_eq, Bool.not_eq_true', not_exists, not_and, Bool.not_eq_false,
      holdsLine_iff]
  rw [tails, Lawful]
  simp only [not_or, Nat.not_lt, and_assoc]

theorem admissionRefusal_cases (m : AreaMan) (chain : List SlotRec) :
    (¬ Lawful chain → admissionRefusal m chain = some .badArg) ∧
    (Lawful chain → Config.budget < chainCost chain → admissionRefusal m chain = some .overBudget) ∧
    (Lawful chain → chainCost chain ≤ Config.budget → 32 - heldImages m < chainNeed chain →
      admissionRefusal m chain = some .noArea) ∧
    (Lawful chain → chainCost chain ≤ Config.budget → chainNeed chain ≤ 32 - heldImages m → admissionRefusal m chain = none) := by
  have pass : Lawful chain → admissionRefusal m chain = if Config.budget < chainCost chain then some .overBudget
      else if 32 - heldImages m < chainNeed chain then some .noArea else none := fun h => by
    obtain ⟨count, tails, loops⟩ := (lawful_iff chain).1 h
    rw [admissionRefusal, if_neg count, if_neg tails, if_neg loops]
  refine ⟨fun bad => ?_, fun h dear => ?_, fun h fits short => ?_, fun h fits enough => ?_⟩
  · unfold admissionRefusal
    by_cases count : chain.length < 1 ∨ 12 < chain.length
    · rw [if_pos count]
    by_cases tails : (chain.any (fun x => x.policy == .keep && !holdsLine x.stype)) = true
    · rw [if_neg count, if_pos tails]
    by_cases loops : 1 < (chain.filter (·.stype == .loop)).length
    · rw [if_neg count, if_neg tails, if_pos loops]
    exact absurd ((lawful_iff chain).2 ⟨count, tails, loops⟩) bad
  · rw [pass h, if_pos dear]
  · rw [pass h, if_neg (by omega), if_pos short]
  · rw [pass h, if_neg (by omega), if_neg (by omega)]

/-! ## The row (R86) -/

/-- A CHAIN_EDIT is an edit with the checks of R86 in its body. -/
theorem chainEdit_eq (hf : p.form = .exact) : chainEdit p expected plan s = edit p 0x1D 9 expected (chainBody p plan) s := by
  unfold chainEdit edit
  refine congrArg (fun f => outside (dispatch p 0x1D 9 false true f) s) (funext fun x => ?_)
  have exact_ : ¬ p.form = .badItem := by rw [hf]; decide
  rw [if_neg exact_]

theorem chainEdit_stale (h : Ready p 9 s) (hy : heard p 0x1D s = y) (hs : presetOf expected ≠ (prelude s).scene.buffer.preset) :
    chainEdit p expected plan s = .next (filled p 0x1D .stale [] y) := by
  rw [chainEdit_eq h.form]
  exact edit_stale h hy hs

theorem chainEdit_refuses (h : EditReady p 9 expected r s) (hy : heard p 0x1D s = y)
    (hb : chainBody p plan y = refuse p.link st y) : chainEdit p expected plan s = .next (filled p 0x1D st [] y) := by
  rw [chainEdit_eq h.form]
  exact edit_refuses h hy hb

/-- With no switch in flight and no guard above the link, the plan and the admission test decide. -/
theorem chainBody_open (hf : p.form = .exact) (hr : y.scene.buffer.record = some r) (idle : y.sw.inflight = none)
    (hg : ∀ g ms, y.sw.guard = some (g, ms) → g ≤ (linkOf y p.link).seat.precedence) :
    chainBody p plan y = match plan r y.scene.driven with
      | some c => (match admissionRefusal y.area c.record.chain with
        | some st => refuse p.link st y
        | none => takeChain p.link c y)
      | none => refuse p.link .badArg y := by
  have exact_ : ¬ p.form = .badItem := by rw [hf]; decide
  unfold chainBody
  rw [if_neg (by rw [idle]; decide), guardBlocks_eq_false hg, if_neg (by decide), if_neg exact_, withRecord_some hr] <;> rfl

/-- A plan's record, driven records and position map in the buffer. -/
def planned (c : ChainPlan) (y : State) : State :=
  { edited c.record y with scene := { (edited c.record y).scene with driven := c.driven, posMap := some c.posMap } }

/-- The REBUILD of a link's chain edit (R110). -/
def rebuildRequest (l : Fin 4) (prec : Nat) : SwRequest := ⟨.rebuild, false, false, false, .link l, prec, 0⟩

/-- The plan in the buffer and the outcome TAKEN in the link's record. -/
def rebuildTaken (l : Fin 4) (c : ChainPlan) (y : State) : State :=
  { planned c y with
    sw := { y.sw with outcomes := y.sw.outcomes.set l.val ⟨y.scene.buffer.preset, some y.scene.buffer.scene, .taken⟩ } }

/-- The state of a taken chain edit: what it hands, the outcome TAKEN, the REBUILD in FADING_OUT. -/
def chainTaken (l : Fin 4) (c : ChainPlan) (hands : State → State) (y : State) : State :=
  fadesOut ⟨rebuildRequest l (linkOf y l).seat.precedence, .rebuild, .loading, none, [], [], [], .waiting, [], false⟩
    c.record.chain c.record.fadeOut (hands (rebuildTaken l c y))

/-- What a plan hands of the values it clamped: parameters alone. -/
structure HandsParams (hands : State → State) : Prop where
  sw : ∀ w x, hands (withSw w x) = withSw w (hands x)
  scene : ∀ x, (hands x).scene = x.scene
  outstanding : ∀ x l, (linkOf (hands x) l).outstanding = (linkOf x l).outstanding

theorem HandsParams.keepsSw {hands : State → State} (h : HandsParams hands) (x : State) : (hands x).sw = x.sw := by
  have := h.sw x.sw x
  rw [show withSw x.sw x = x from rfl] at this
  rw [this]
  rfl

theorem takeChain_eq {l : Fin 4} {hands : State → State} (hr : y.scene.buffer.record = some r) (idle : y.sw.inflight = none)
    (free : y.sw.pending = none) (hg : ∀ g ms, y.sw.guard = some (g, ms) → g ≤ (linkOf y l).seat.precedence)
    (hh : HandsParams hands) (handed : c.touched.foldl (fun x t => handChanged y t x) (planned c y) = hands (planned c y)) :
    takeChain l c y = answer l (okOr c.clamped) [] (chainTaken l c hands y) := by
  have start : takenEdit (onScene (fun x => { x with driven := c.driven, posMap := some c.posMap })
      (onRecord (fun _ => c.record) y)) = planned c y := by
    unfold takenEdit onRecord onBuffer planned edited
    simp only [onScene, hr]
    rfl
  have sw : (hands (planned c y)).sw = y.sw := hh.keepsSw _
  have scene : (hands (planned c y)).scene = (planned c y).scene := hh.scene _
  have below : guardBlocks (hands (planned c y)) (linkOf y l).seat.precedence = false :=
    guardBlocks_eq_false (by rw [sw]; exact hg)
  have told_ : tellOrigin (rebuildRequest l (linkOf y l).seat.precedence) .taken false (hands (planned c y)) =
      hands (rebuildTaken l c y) := by
    rw [tellOrigin_eq_told]
    refine Eq.trans ?_ (hh.sw _ (planned c y)).symm
    have preset : (hands (planned c y)).scene.buffer.preset = y.scene.buffer.preset := by rw [scene]; rfl
    have number : (hands (planned c y)).scene.buffer.scene = y.scene.buffer.scene := by rw [scene]; rfl
    unfold told
    dsimp only [rebuildRequest]
    rw [sw, preset, number]
    rfl
  have arbitrated : arbiter (rebuildRequest l (linkOf y l).seat.precedence) (hands (planned c y)) =
      (.taken, chainTaken l c hands y) := by
    have same : promotionStep (hands (planned c y)) = hands (planned c y) := promotionStep_of_busy (.inr (by rw [sw, free]))
    unfold arbiter
    rw [same]
    dsimp only
    rw [show guardBlocks (hands (planned c y)) (rebuildRequest l (linkOf y l).seat.precedence).precedence = false from below,
      if_neg (by decide), sw, idle]
    dsimp only
    rw [told_]
    have record : (hands (rebuildTaken l c y)).scene.buffer.record = some c.record := by
      rw [hh.scene]
      rfl
    refine congrArg _ ?_
    show endLoading ⟨rebuildRequest l (linkOf y l).seat.precedence, .rebuild, .loading, none, [], [], [], .waiting, [], false⟩
      (hands (rebuildTaken l c y)) = _
    unfold endLoading
    dsimp only
    rw [if_pos (.inl rfl), startFadeOut_eq, incomingChain]
    dsimp only
    rw [record]
    rfl
  unfold takeChain
  dsimp only
  rw [start, handed]
  exact congrArg (fun a => answer l (okOr c.clamped) [] a.2) arbitrated

theorem outstanding_chainTaken {l : Fin 4} {hands : State → State} (hh : HandsParams hands) :
    (linkOf (chainTaken l c hands y) l).outstanding = (linkOf y l).outstanding :=
  (outstanding_of_link rfl l).trans ((hh.outstanding _ l).trans (outstanding_of_link rfl l))

/-- What a plan becomes (R19, R86). -/
theorem chainEdit_becomes {hands : State → State} (h : EditReady p 9 expected r s) (hy : heard p 0x1D s = y)
    (idle : y.sw.inflight = none) (free : y.sw.pending = none)
    (hg : ∀ g ms, y.sw.guard = some (g, ms) → g ≤ (linkOf y p.link).seat.precedence)
    (hc : plan r y.scene.driven = some c) (hh : HandsParams hands)
    (handed : c.touched.foldl (fun x t => handChanged y t x) (planned c y) = hands (planned c y)) :
    (¬ Lawful c.record.chain → chainEdit p expected plan s = .next (filled p 0x1D .badArg [] y)) ∧
    (Lawful c.record.chain → Config.budget < chainCost c.record.chain →
      chainEdit p expected plan s = .next (filled p 0x1D .overBudget [] y)) ∧
    (Lawful c.record.chain → chainCost c.record.chain ≤ Config.budget → 32 - heldImages y.area < chainNeed c.record.chain →
      chainEdit p expected plan s = .next (filled p 0x1D .noArea [] y)) ∧
    (Lawful c.record.chain → chainCost c.record.chain ≤ Config.budget → chainNeed c.record.chain ≤ 32 - heldImages y.area →
      chainEdit p expected plan s = .next (filled p 0x1D (okOr c.clamped) [] (chainTaken p.link c hands y))) := by
  obtain ⟨unlawful, dear, short, fits⟩ := admissionRefusal_cases y.area c.record.chain
  have hr := record_heard h hy
  have body : chainBody p plan y = match admissionRefusal y.area c.record.chain with
      | some st => refuse p.link st y
      | none => takeChain p.link c y := by
    rw [chainBody_open h.form hr idle hg, hc]
  have refused : ∀ st, admissionRefusal y.area c.record.chain = some st → chainBody p plan y = refuse p.link st y :=
    fun st hst => by rw [body, hst]
  refine ⟨fun a => chainEdit_refuses h hy (refused _ (unlawful a)), fun a b => chainEdit_refuses h hy (refused _ (dear a b)),
    fun a b d => chainEdit_refuses h hy (refused _ (short a b d)), fun a b d => ?_⟩
  rw [chainEdit_eq h.form]
  refine edit_answers h hy ?_ (outstanding_chainTaken hh)
  rw [body, fits a b d]
  exact takeChain_eq hr idle free hg hh handed

theorem chainEdit_badArg (h : EditReady p 9 expected r s) (hy : heard p 0x1D s = y)
    (idle : y.sw.inflight = none) (hg : ∀ g ms, y.sw.guard = some (g, ms) → g ≤ (linkOf y p.link).seat.precedence)
    (hc : plan r y.scene.driven = none) : chainEdit p expected plan s = .next (filled p 0x1D .badArg [] y) := by
  refine chainEdit_refuses h hy ?_
  rw [chainBody_open h.form (record_heard h hy) idle hg, hc]

theorem chainEdit_busy (h : EditReady p 9 expected r s) (hy : heard p 0x1D s = y) (hf : y.sw.inflight ≠ none) :
    chainEdit p expected plan s = .next (filled p 0x1D .busy [] y) :=
  chainEdit_refuses h hy (if_pos (Option.isSome_iff_ne_none.2 hf))

theorem chainEdit_guarded (h : EditReady p 9 expected r s) (hy : heard p 0x1D s = y) (idle : y.sw.inflight = none) {g ms : Nat}
    (hg : y.sw.guard = some (g, ms)) (lt : (linkOf y p.link).seat.precedence < g) :
    chainEdit p expected plan s = .next (filled p 0x1D .guarded [] y) := by
  have row : chainBody p plan y = refuse p.link .guarded y :=
    (if_neg (by rw [idle]; decide)).trans (if_pos (guardBlocks_eq_true hg lt))
  exact chainEdit_refuses h hy row

/-! ## What the plans make (R86, R87) -/

/-- Overrides and entries carried along, with the driven records of the entries that stay. -/
theorem carry_eq (f : Target → Option Target) (chain : List SlotRec) (m : List (Option Nat)) {r : Record} {d : List Int}
    (h : d.length = r.map.length) : carry f chain m r d =
      ⟨renumbered f chain r, ((r.map.zip d).filter fun x => (f x.1.target).isSome).map (·.2), m, false, []⟩ := by
  have entries : ((r.map.zip d).filterMap fun x => (f x.1.target).map fun t => (({ x.1 with target := t } : MapEntry), x.2)).map (·.1) =
      r.map.filterMap fun e => (f e.target).map fun t => { e with target := t } := by
    have fst : r.map = (r.map.zip d).map Prod.fst := (List.map_fst_zip (by omega)).symm
    conv_rhs => rw [fst, List.filterMap_map]
    rw [List.map_filterMap]
    refine List.filterMap_congr fun x _ => ?_
    cases hx : f x.1.target <;> simp [hx]
  have records : ((r.map.zip d).filterMap fun x => (f x.1.target).map fun t => (({ x.1 with target := t } : MapEntry), x.2)).map (·.2) =
      ((r.map.zip d).filter fun x => (f x.1.target).isSome).map (·.2) := by
    generalize r.map.zip d = l
    induction l with
    | nil => rfl
    | cons x l ih =>
      cases hx : f x.1.target with
      | none => rw [List.filterMap_cons_none (by rw [hx]; rfl), List.filter_cons_of_neg (by rw [hx]; decide), ih]
      | some t =>
        rw [List.filterMap_cons_some (by rw [hx]; rfl), List.filter_cons_of_pos (by rw [hx]; rfl), List.map_cons, List.map_cons, ih]
  unfold carry renumbered
  simp only [entries, records]

theorem getElem?_insertAt {α : Type} {l : List α} {a : Nat} (h : a ≤ l.length) (v : α) (k : Nat) :
    (insertAt l a v)[k]? = if k < a then l[k]? else if k = a then some v else l[k - 1]? := by
  have front : (l.take a).length = a := by rw [List.length_take]; omega
  unfold insertAt
  by_cases before : k < a
  · rw [if_pos before, List.getElem?_append_left (by omega), List.getElem?_take_of_lt before]
  · rw [if_neg before, List.getElem?_append_right (by omega), front]
    by_cases here : k = a
    · rw [if_pos here, here, Nat.sub_self, List.getElem?_cons_zero]
    · rw [if_neg here, show k - a = (k - a - 1) + 1 by omega, List.getElem?_cons_succ, List.getElem?_drop]
      congr 1
      omega

theorem getElem?_range_map {β : Type} (f : Nat → β) (n k : Nat) :
    ((List.range n).map f)[k]? = if k < n then some (f k) else none := by
  rw [List.getElem?_map]
  split
  · next h => rw [List.getElem?_range h]; rfl
  · next h => rw [List.getElem?_eq_none (by simpa using h)]; rfl

theorem insertAt_positions {n a : Nat} (h : a ≤ n) : insertAt (samePositions n) a none =
    (List.range (n + 1)).map fun q => if q < a then some q else if q = a then none else some (q - 1) := by
  refine List.ext_getElem? fun k => ?_
  rw [getElem?_insertAt (by simpa [samePositions] using h), samePositions]
  simp only [getElem?_range_map]
  grind

theorem eraseIdx_positions {n a : Nat} (h : a < n) : (samePositions n).eraseIdx a =
    (List.range (n - 1)).map fun q => some (if q < a then q else q + 1) := by
  refine List.ext_getElem? fun k => ?_
  rw [List.getElem?_eraseIdx, samePositions]
  simp only [getElem?_range_map]
  grind

theorem set_positions (n a : Nat) : (samePositions n).set a none =
    (List.range n).map fun q => if q = a then none else some q := by
  refine List.ext_getElem? fun k => ?_
  rw [List.getElem?_set, samePositions]
  simp only [getElem?_range_map, List.length_map, List.length_range]
  grind

/-- The source of a position under MOVE. -/
def movedFrom (a b q : Nat) : Nat := if q = b then a else if a ≤ q ∧ q < b then q + 1 else if b < q ∧ q ≤ a then q - 1 else q

theorem getElem?_moveElem {α : Type} {l : List α} {a b : Nat} (ha : a < l.length) (hb : b < l.length) (k : Nat) :
    (moveElem a b l)[k]? = if k < l.length then l[movedFrom a b k]? else none := by
  unfold moveElem
  rw [List.getElem?_eq_getElem ha]
  dsimp only
  rw [getElem?_insertAt (by rw [List.length_eraseIdx_of_lt ha]; omega), List.getElem?_eraseIdx, List.getElem?_eraseIdx,
    ← List.getElem?_eq_getElem ha]
  unfold movedFrom
  by_cases inside : k < l.length
  · rw [if_pos inside]
    grind
  · rw [if_neg inside]
    grind

theorem filterMap_getElem? {α : Type} (l : List α) : (List.range l.length).filterMap (fun q => l[q]?) = l := by
  have all : (List.range l.length).map (fun q => l[q]?) = l.map some := by
    refine List.ext_getElem? fun k => ?_
    rw [getElem?_range_map, List.getElem?_map]
    split
    · next h => rw [List.getElem?_eq_getElem h]; rfl
    · next h => rw [List.getElem?_eq_none (by omega)]; rfl
  have ids : (List.range l.length).filterMap (fun q => l[q]?) = ((List.range l.length).map fun q => l[q]?).filterMap id := by
    rw [List.filterMap_map]
    rfl
  rw [ids, all, List.filterMap_map]
  exact List.filterMap_some

theorem length_moveElem {α : Type} {l : List α} {a b : Nat} (ha : a < l.length) (hb : b < l.length) :
    (moveElem a b l).length = l.length := by
  unfold moveElem
  rw [List.getElem?_eq_getElem ha]
  simp only [insertAt, List.length_append, List.length_take, List.length_cons, List.length_drop, List.length_eraseIdx_of_lt ha]
  omega

theorem moveElem_chain {α : Type} {l : List α} {a b : Nat} (ha : a < l.length) (hb : b < l.length) :
    moveElem a b l = (List.range l.length).filterMap fun q => l[movedFrom a b q]? := by
  have whole := (filterMap_getElem? (moveElem a b l)).symm
  rw [length_moveElem ha hb] at whole
  refine whole.trans (List.filterMap_congr fun q hq => ?_)
  rw [getElem?_moveElem ha hb, if_pos (List.mem_range.1 hq)]

theorem moveElem_positions {n a b : Nat} (ha : a < n) (hb : b < n) :
    moveElem a b (samePositions n) = (List.range n).map fun q => some (movedFrom a b q) := by
  have length : (samePositions n).length = n := by simp [samePositions]
  refine List.ext_getElem? fun k => ?_
  rw [getElem?_moveElem (by omega) (by omega), length, samePositions]
  simp only [getElem?_range_map]
  have lt : k < n → movedFrom a b k < n := fun h => by unfold movedFrom; split_ifs <;> omega
  split
  · next h => rw [if_pos (lt h)]
  · rfl

theorem HandsParams.id : HandsParams id := ⟨fun _ _ => rfl, fun _ => rfl, fun _ _ => rfl⟩

theorem moveTarget_eq (f : Nat → Option Nat) : moveTarget f = fun t => match t with
    | .param q i => (f q).map fun q' => Target.param q' i
    | .bypass q => (f q).map Target.bypass
    | .level => some t
    | .sat _ _ => some t := by
  funext t
  cases t <;> rfl

/-- A plan that carries no entry along and changes the chain alone. -/
theorem renumbered_some (chain : List SlotRec) (r : Record) : renumbered some chain r = { r with chain := chain } := by
  simp [renumbered]

theorem driven_kept {d : List Int} (h : d.length = r.map.length) :
    ((r.map.zip d).filter fun x => (some x.1.target).isSome).map (·.2) = d := by
  simp [List.map_snd_zip (by omega : d.length ≤ r.map.length)]

theorem carry_some (chain : List SlotRec) (m : List (Option Nat)) {d : List Int} (h : d.length = r.map.length) :
    carry some chain m r d = ⟨{ r with chain := chain }, d, m, false, []⟩ := by
  rw [carry_eq some chain m h, renumbered_some, driven_kept h]

theorem newSlot_none {stype lclass pol : Nat}
    (h : ¬ ∃ t k c, slotTypeOf stype = some t ∧ tailPolicyOf pol = some k ∧ lengthClassOf t lclass = some c) :
    newSlot stype lclass pol = none := by
  unfold newSlot
  cases ht : slotTypeOf stype with
  | none => rfl
  | some t =>
    cases hk : tailPolicyOf pol with
    | none => rfl
    | some k =>
      cases hc : lengthClassOf t lclass with
      | none => simp [hc]
      | some c => exact absurd ⟨t, k, c, ht, hk, hc⟩ h

theorem newSlot_some {stype lclass pol : Nat} {t : SlotType} {k : TailPolicy} {c : LengthClass} (ht : slotTypeOf stype = some t)
    (hk : tailPolicyOf pol = some k) (hc : lengthClassOf t lclass = some c) :
    newSlot stype lclass pol = some (defaultSlot t c k) := by
  simp [newSlot, ht, hk, hc]

theorem zip_range_map {α β : Type} (l : List α) (f : Nat → α → β) :
    (l.zip (List.range l.length)).map (fun v => f v.2 v.1) = l.mapIdx f := by
  refine List.ext_getElem? fun k => ?_
  rw [List.getElem?_map, List.getElem?_mapIdx]
  by_cases h : k < l.length
  · simp [h]
  · simp [h]

theorem planSetClass_none {a lclass : Nat} {d : List Int}
    (h : ∀ old, r.chain[a]? = some old → old.stype = .delay ∨ old.stype = .cab → lengthClassOf old.stype lclass = none) :
    planSetClass a lclass r d = none := by
  unfold planSetClass
  cases ho : r.chain[a]? with
  | none => rfl
  | some old =>
    dsimp only
    split
    · next ht => rw [h old ho ht]
    · rfl

/-- A reclassed slot's record. -/
def reclassed (a : Nat) (c : LengthClass) (old : SlotRec) (r : Record) : Record :=
  { r with
    chain := r.chain.set a { old with lclass := c, params := old.params.mapIdx fun i v => inClass { old with lclass := c } i v }
    scenes := r.scenes.map fun k => { k with overrides := k.overrides.map (clampOverride a { old with lclass := c }) } }

theorem planSetClass_some {a lclass : Nat} {d : List Int} {old : SlotRec} {k : LengthClass} (ho : r.chain[a]? = some old)
    (ht : old.stype = .delay ∨ old.stype = .cab) (hk : lengthClassOf old.stype lclass = some k) :
    planSetClass a lclass r d = some ⟨reclassed a k old r, d, samePositions r.chain.length,
      decide ((old.params.mapIdx fun i v => inClass { old with lclass := k } i v) ≠ old.params) ||
        decide ((reclassed a k old r).scenes ≠ r.scenes), (List.range old.params.length).map (.param a)⟩ := by
  simp only [planSetClass, ho, if_pos ht, hk, zip_range_map]
  rfl

/-- What SET_CLASS hands: the parameters of position `a` that no entry drives, where their value is new. -/
def classHands (a : Nat) (r r' : Record) (y : State) (is : List Nat) (z : State) : State :=
  is.foldl (fun z i =>
    if isDriven y (.param a i) = true then z
    else handedNew (.param a i) (undriven r y.scene.buffer.scene (.param a i)) (undriven r' y.scene.buffer.scene (.param a i)) z) z

theorem classHands_params (a : Nat) (r r' : Record) (y : State) (is : List Nat) : HandsParams (classHands a r r' y is) := by
  refine ⟨fun w x => ?_, fun x => ?_, fun x l => ?_⟩ <;> induction is generalizing x with
  | nil => rfl
  | cons i is ih =>
    simp only [classHands, List.foldl_cons] at ih ⊢
    by_cases hd : isDriven y (.param a i) = true
    · simp only [if_pos hd, ih]
    · simp only [if_neg hd, ih, handedNew_param_withSw, handedNew_scene, outstanding_handedNew]

theorem handChanged_planned {t : Target} (hr : y.scene.buffer.record = some r) (hm : c.record.map = r.map)
    (hd : c.driven = y.scene.driven) (hz : z.scene = (planned c y).scene) :
    handChanged y t z = if isDriven y t = true then z
      else handedNew t (undriven r y.scene.buffer.scene t) (undriven c.record y.scene.buffer.scene t) z := by
  have after : effective z t = effectiveIn c.record y.scene.buffer.scene y.scene.driven t := by
    rw [← hd]
    unfold effective
    rw [hz]
    rfl
  rw [handChanged_eq, effective_some hr, after, isDriven_some hr]
  cases free : r.map.any (·.target == t)
  · rw [if_neg (by decide), effectiveIn_undriven free, effectiveIn_undriven (by rw [hm, free])]
  · rw [if_pos rfl, effectiveIn_driven free hm]
    unfold handedNew
    split
    · next ha => rw [if_pos ha]
    · rfl

theorem touched_classHands {a : Nat} (hr : y.scene.buffer.record = some r) (hm : c.record.map = r.map)
    (hd : c.driven = y.scene.driven) (is : List Nat) (hz : z.scene = (planned c y).scene) :
    (is.map (Target.param a)).foldl (fun x t => handChanged y t x) z = classHands a r c.record y is z := by
  induction is generalizing z with
  | nil => rfl
  | cons i is ih =>
    simp only [List.map_cons, List.foldl_cons, classHands] at ih ⊢
    rw [handChanged_planned hr hm hd hz]
    refine ih ?_
    split
    · exact hz
    · rw [handedNew_scene, hz]

/-- Settles O60: the checks of R86 in order, then each operation's plan, which becomes the REBUILD in FADING_OUT
(`chainEdit_becomes`). -/
theorem chainEditsRebuildTheChain : Obligations.ChainEditsRebuildTheChain := by
  unfold Obligations.ChainEditsRebuildTheChain
  intro p expected a b stype lclass pol s y ins rem mov ret cls plc reb all no prec
  have hy : heard p 0x1D s = y := rfl
  clear_value y
  have each : ∀ st, (∀ plan, chainEdit p expected plan s = .next (filled p 0x1D st [] y)) → ∀ c ∈ all, no c st := by
    intro st h c hc
    simp only [all, List.mem_cons, List.not_mem_nil, or_false] at hc
    rcases hc with rfl | rfl | rfl | rfl | rfl | rfl | rfl <;> exact h _
  refine ⟨fun h hs => each _ fun plan => chainEdit_stale h hy hs,
    fun r h => ⟨fun busy => each _ fun plan => chainEdit_busy h hy busy, fun idle => ⟨fun g ms hg lt => each _ fun plan => chainEdit_guarded h hy idle hg lt, fun free hg kept => ?_⟩⟩⟩
  intro n d same keep becomes atPos valid
  have hr := record_heard h hy
  have bad : ∀ plan : Record → List Int → Option ChainPlan, plan r d = none →
      chainEdit p expected plan s = .next (filled p 0x1D .badArg [] y) := fun plan hc => chainEdit_badArg h hy idle hg hc
  have taken : ∀ (plan : Record → List Int → Option ChainPlan) (r' : Record) (d' : List Int) (m : List (Option Nat)),
      plan r d = some ⟨r', d', m, false, []⟩ → _ := fun plan r' d' m hc =>
    chainEdit_becomes (plan := plan) (hands := id) h hy idle free hg hc HandsParams.id rfl
  have targets : ∀ f, moveTarget f = atPos f := fun f => moveTarget_eq f
  refine ⟨fun out => bad (planInsert a stype lclass pol) ?_, fun out => bad (planRetype a stype lclass pol) ?_,
    fun out => ⟨bad (planRemove a) (if_neg (Nat.not_lt.2 out)), bad (planSetPolicy a pol) ?_⟩,
    fun out => bad (planMove a b) (if_neg (by omega)), fun none_ => bad (planSetPolicy a pol) ?_,
    fun t k c ht hk hc => ?_, fun ha => ?_, fun ha hb => ?_, fun k old hk ho => ?_, ?_,
    fun out => bad (planSetClass a lclass) (planSetClass_none out), fun old c ho ht hc => ?_⟩
  · unfold planInsert
    rcases out with out | out
    · rw [newSlot_none out]
    · cases newSlot stype lclass pol with
      | none => rfl
      | some x => exact if_neg (Nat.not_le.2 out)
  · unfold planRetype
    rcases out with out | out
    · rw [newSlot_none out]
    · rw [List.getElem?_eq_none out]
      cases newSlot stype lclass pol <;> rfl
  · unfold planSetPolicy
    cases tailPolicyOf pol with
    | none => rfl
    | some k => exact if_neg (Nat.not_lt.2 out)
  · unfold planSetPolicy
    rw [none_]
  · intro new
    refine ⟨?_, ?_⟩
    · intro ha f
      refine taken (planInsert a stype lclass pol) _ _ _ ?_
      unfold planInsert
      rw [newSlot_some ht hk hc]
      dsimp only
      rw [if_pos ha, carry_eq _ _ _ kept, insertAt_positions ha, targets]
      have same_ : (fun q => some (if a ≤ q then q + 1 else q)) = fun q => some (if q < a then q else q + 1) := by
        funext q
        grind
      rw [same_]
      rfl
    · intro old ho f
      refine taken (planRetype a stype lclass pol) _ _ _ ?_
      unfold planRetype
      rw [newSlot_some ht hk hc, ho]
      dsimp only
      have dropped : ∀ g : Target → Option Target, (∀ t, g t = f t) → ∀ chain m, some (carry g chain m r d) =
          some ⟨renumbered f chain r, keep f, m, false, []⟩ := fun g hg chain m => by
        rw [funext hg, carry_eq _ _ _ kept]
      rw [set_positions]
      exact dropped _ (fun t => by cases t <;> rfl) _ _
  · intro f
    refine taken (planRemove a) _ _ _ ?_
    unfold planRemove
    rw [if_pos ha, carry_eq _ _ _ kept, eraseIdx_positions ha, targets, List.eraseIdx_eq_take_drop_succ]
    have same_ : (fun q => if q = a then none else some (if a < q then q - 1 else q)) =
        fun q => if q = a then none else some (if q < a then q else q - 1) := by
      funext q
      grind
    rw [same_]
    rfl
  · intro f src
    refine taken (planMove a b) _ _ _ ?_
    unfold planMove
    rw [if_pos ⟨ha, hb⟩, carry_eq _ _ _ kept, moveElem_positions ha hb, moveElem_chain ha hb, targets]
    rfl
  · refine taken (planSetPolicy a pol) _ _ _ ?_
    unfold planSetPolicy
    rw [hk]
    have inside : a < r.chain.length := (List.getElem?_eq_some_iff.1 ho).1
    dsimp only
    rw [if_pos inside, carry_some _ _ kept, modAt_some ho]
    rfl
  · refine taken planRebuild _ _ _ ?_
    unfold planRebuild
    rw [carry_some _ _ kept]
    rfl
  · intro x params scenes r'
    exact chainEdit_becomes (plan := planSetClass a lclass) (hands := classHands a r r' y (List.range old.params.length))
      h hy idle free hg (planSetClass_some ho ht hc) (classHands_params ..) (touched_classHands hr rfl rfl _ rfl)

end Sys2Proof.Frame
end

section
/-! The loss and the return of the audio clock (R192, R193), and a change handed while it is lost (R3). -/

namespace Sys2Proof.Frame

open Sys2Proof Sys2Proof.Machine

variable {s x y z : State} {f : Inflight}

/-! ## The loss: mute, lanes and the Switch Engine's deferred candidates -/

/-- The clock declared lost: silence, the clock holder, the mute factor at 0. -/
def muted (y : State) : State := { y with
  mon := ⟨.lost, 0, false⟩
  tone := { y.tone with
    changes := [], framePhase := 0, mainOut := silence, sendOut := silence
    holders := { y.tone.holders with clock := true }, mute := muteFallTo true y.tone.mute } }

/-- The lanes cut besides (R24). -/
def silenced (y : State) : State :=
  onSw (fun w => { w with laneReports := [], inflight := w.inflight.map fun f => { f with deferred := [] } })
    (lanesCut (muted y) [0, 1, 2, 3])

/-- What the Tuner and the Show Clock do at the loss, with their notices. -/
def lossReported (x : State) : State := raise .clock (showClockLoss (clearTuner x))

theorem silenced_eq (y : State) : silenced y = takeCutAll (muted y) := (takeCutAll_eq _).symm

theorem clockLoss_eq (hc : y.tone.changes = []) (hh : y.tone.holders.clock = false) : clockLoss y =
    lossReported (if engine y = some .ramping then landLevels (switchClockLoss (silenced y)) else switchClockLoss (silenced y)) := by
  unfold clockLoss
  dsimp only
  rw [hc]
  have cut : ∀ x : State, present x = false → x.tone.holders.clock = false → hand .cutAll (setClockHolder x) =
      takeCutAll (onTone (fun t => { t with
        holders := { t.holders with clock := true }, mute := muteFallTo true t.mute }) x) := fun x lost free => by
    rw [setClockHolder, setHolder_lost (get := (·.clock)) _ free lost]
    exact hand_lost _ _ lost
  exact congrArg (fun x => lossReported (if engine y = some .ramping then landLevels (switchClockLoss x) else switchClockLoss x))
    ((cut (onTone (fun t => { t with changes := [], framePhase := 0, mainOut := silence, sendOut := silence })
      { y with mon := ⟨.lost, 0, false⟩ }) rfl hh).trans (silenced_eq y).symm)

theorem outlives_four (h : x.tone.lanes.length = 4) (k : Nat) :
    outlives x [0, 1, 2, 3] k = ((x.tone.lanes.getD k Lane.clear).st == .empty) := by
  unfold outlives laneOf occupied
  by_cases hk : k < 4
  · have listed : [0, 1, 2, 3].contains k = true := by simp; omega
    rw [listed, Bool.true_and]
    exact Bool.not_not _
  · have out : [0, 1, 2, 3].contains k = false := by simp; omega
    rw [out, List.getD_eq_default _ _ (by omega)]
    rfl

/-- The switch in flight after the cut of the lanes. -/
def stranded (y : State) (f : Inflight) : Inflight :=
  { f with deferred := [], evicting := f.evicting.filter fun l => (y.tone.lanes.getD l Lane.clear).st == .empty }

theorem silenced_sw (h : y.tone.lanes.length = 4) :
    (silenced y).sw = { y.sw with laneReports := [], inflight := y.sw.inflight.map (stranded y) } := by
  have kept : outlives (muted y) [0, 1, 2, 3] = fun l => (y.tone.lanes.getD l Lane.clear).st == .empty :=
    funext fun k => outlives_four (x := muted y) h k
  show ({ y.sw with laneReports := [], inflight := _ } : SwitchEng) = _
  dsimp only [onSw, lanesCut]
  rw [kept, Option.map_map]
  rfl

/-- A state that differs from `y` as the loss lets it, the Tuner and the Show Clock aside. -/
def LossFrame (y x : State) : Prop := ∃ t a w l c, x = { y with
  mon := ⟨.lost, 0, false⟩, tone := t, area := a, sw := w, link := l, clk := { y.clk with cues := c } }

theorem silenced_frame (y : State) : LossFrame y (silenced y) :=
  ⟨_, _, _, _, _, rfl⟩

theorem LossFrame.withFlags (h : LossFrame y x) (b : BitVec 16) : LossFrame y (withFlags b x) := by
  obtain ⟨t, a, w, l, c, rfl⟩ := h
  exact ⟨_, _, _, _, _, rfl⟩

theorem LossFrame.switch (h : LossFrame y x) (t : Tone) (w : SwitchEng) : LossFrame y { x with tone := t, sw := w } := by
  obtain ⟨-, a, -, l, c, rfl⟩ := h
  exact ⟨_, _, _, _, _, rfl⟩

theorem LossFrame.told (h : LossFrame y x) (q : SwRequest) (o : SwOutcome) : LossFrame y (told q o false x) := by
  obtain ⟨t, a, w, l, c, rfl⟩ := h
  unfold Machine.told
  cases q.origin with
  | link l => exact ⟨_, _, _, _, _, rfl⟩
  | cue t =>
    dsimp only
    split
    · exact ⟨_, _, _, _, _, rfl⟩
    · exact ⟨_, _, _, _, _, rfl⟩

/-- What the loss leaves in the Tone Engine whatever the switch in flight. -/
structure LossTone (y : State) (t : Tone) : Prop where
  holders : t.holders = { y.tone.holders with clock := true }
  muteCur : t.mute.cur = 0
  muteTarget : t.mute.target = 0
  mainOut : t.mainOut = List.replicate 32 (0, 0)
  sendOut : t.sendOut = List.replicate 32 (0, 0)
  master : t.master = y.tone.master
  lanes : ∀ l ∈ t.lanes, l.st = .empty

theorem silenced_tone (h : y.tone.lanes.length = 4) : LossTone y (silenced y).tone := by
  obtain ⟨cur, target⟩ := muteFallTo_landed y.tone.mute
  obtain ⟨empty, -, -, mute⟩ := takeCutAll_four (x := muted y) h
  rw [← silenced_eq] at empty
  have rest : (silenced y).tone = { (muted y).tone with lanes := (silenced y).tone.lanes, order := (silenced y).tone.order } := rfl
  refine ⟨?_, ?_, ?_, ?_, ?_, ?_, empty⟩ <;> rw [rest]
  · rfl
  · exact cur
  · exact target
  · rfl
  · rfl
  · rfl

theorem silenced_chain (y : State) : (silenced y).tone.chain = y.tone.chain ∧ (silenced y).tone.chainGain = y.tone.chainGain ∧
    (silenced y).link = y.link ∧ (silenced y).clk = y.clk ∧ (silenced y).tuner = y.tuner ∧ (silenced y).scene = y.scene :=
  ⟨rfl, rfl, rfl, rfl, rfl, rfl⟩

/-! ## The notices of the loss -/

/-- The notices of Tuner and Show Clock at the loss. -/
def lossBits (y : State) : BitVec 16 := if y.tuner.state = .silent then noticeBit .clock else noticeBit .tuner ||| noticeBit .clock

/-- The Tuner after the loss. -/
def tunerCleared (t : Tuner) : Tuner :=
  { t with det := {}, ring := [], outliers := 0, prevStamp := none, reading := none, noSignal := false, state := .silent }

theorem lossReported_eq (x : State) : lossReported x = withFlags (lossBits x)
    { x with tuner := tunerCleared x.tuner, clk := holdShow (clearPulses (endTaps x.clk)) } := by
  unfold lossReported clearTuner lossBits
  by_cases quiet : x.tuner.state = .silent
  · simp only [if_pos quiet]
    rfl
  · simp only [if_neg quiet]
    rw [← withFlags_withFlags]
    rfl

theorem lossFlags (y : State) :
    (if y.tuner.state = .silent then (raise .clock y).link else (raise .clock (raise .tuner y)).link) =
      (withFlags (lossBits y) y).link := by
  unfold lossBits
  by_cases quiet : y.tuner.state = .silent
  · rw [if_pos quiet, if_pos quiet]
    rfl
  · rw [if_neg quiet, if_neg quiet, ← withFlags_withFlags]
    rfl

theorem holdShow_eq (c : Show) : holdShow (clearPulses (endTaps c)) = { c with
    tapLast := none, taps := [], pulseLast := none, pulses := [], pulseCount := 0
    transport := if c.transport = .running then .held else c.transport } := by
  unfold holdShow
  by_cases running : c.transport = .running
  · rw [if_pos running, if_pos (by exact running)]
    rfl
  · rw [if_neg running, if_neg (by exact running)]
    rfl

/-- The frame of the loss. -/
theorem LossFrame.reported (h : LossFrame y x) : lossReported x = { y with
    mon := ⟨.lost, 0, false⟩, tone := x.tone, area := x.area, sw := x.sw, link := (Frame.withFlags (lossBits y) x).link
    tuner := tunerCleared y.tuner
    clk := { y.clk with
      cues := x.clk.cues, tapLast := none, taps := [], pulseLast := none, pulses := [], pulseCount := 0
      transport := if y.clk.transport = .running then .held else y.clk.transport } } := by
  obtain ⟨t, a, w, l, c, rfl⟩ := h
  rw [lossReported_eq, holdShow_eq]
  rfl

/-! ## A switch in flight at the loss (R112) -/

/-- A switch in FADING_IN or RAMPING ended at the recorded chain level. -/
def endedAt (y : State) (f : Inflight) : State := { silenced y with
  tone := { (silenced y).tone with chainGain := .rest y.sw.level, chainRested := false }
  sw := { y.sw with inflight := none, laneReports := [], guard := guardAfter f.req y.sw.guard } }

/-- The ended switch told to its origin. -/
def endTold (y : State) (f : Inflight) : State := raise .scene (told f.req .done false (endedAt y f))

theorem silenced_lost (y : State) : present (silenced y) = false := rfl

theorem switchClockLoss_rests (lost : present x = false) (hi : x.sw.inflight = some f) (hd : f.deferred = [])
    (hp : f.phase = .fadingOut) :
    switchClockLoss x = { x with tone := { x.tone with chainGain := .rest 0, chainRested := true } } := by
  have same : onSw (fun w => { w with inflight := some { f with deferred := [] } }) x = x := by
    rw [← hd, show some { f with deferred := f.deferred } = x.sw.inflight from hi.symm]
    rfl
  have row : switchClockLoss x =
      hand (.gainSet .chain 0) (onSw (fun w => { w with inflight := some { f with deferred := [] } }) x) := by
    unfold switchClockLoss
    rw [hi]
    dsimp only
    rw [hp]
  rw [row, same, hand_lost _ _ lost, applyChange]
  simp only [takeGain, onTone, Bool.or_true]

section
variable (h4 : y.tone.lanes.length = 4)
include h4

theorem silenced_engine (hf : y.sw.inflight = some f) : (silenced y).sw.inflight = some (stranded y f) := by
  rw [silenced_sw h4, hf]
  rfl

theorem switchClockLoss_none (hf : y.sw.inflight = none) : switchClockLoss (silenced y) = silenced y := by
  unfold switchClockLoss
  rw [show (silenced y).sw.inflight = none by rw [silenced_sw h4, hf]; rfl]

theorem switchClockLoss_loading (hf : y.sw.inflight = some f) (hp : f.phase = .loading) :
    switchClockLoss (silenced y) = silenced y := by
  unfold switchClockLoss
  rw [silenced_engine h4 hf]
  dsimp only [stranded]
  rw [hp]

theorem switchClockLoss_fadingOut (hf : y.sw.inflight = some f) (hp : f.phase = .fadingOut) :
    switchClockLoss (silenced y) = { silenced y with
      tone := { (silenced y).tone with chainGain := .rest 0, chainRested := true } } :=
  switchClockLoss_rests (silenced_lost y) (silenced_engine h4 hf) rfl hp

theorem switchClockLoss_ends (hf : y.sw.inflight = some f) (hp : f.phase = .fadingIn ∨ f.phase = .ramping) :
    switchClockLoss (silenced y) = endTold y f := by
  have row : switchClockLoss (silenced y) = completeSwitch f.req (hand (.gainSet .chain (silenced y).sw.level) (silenced y)) := by
    unfold switchClockLoss
    rw [silenced_engine h4 hf]
    dsimp only [stranded]
    rcases hp with hp | hp <;> rw [hp]
  rw [row, completeSwitch_eq, hand_lost _ _ (silenced_lost y), endTold, endedAt]
  simp only [applyChange, takeGain, onTone, silenced_sw h4]

end

theorem endTold_frame (y : State) (f : Inflight) : LossFrame y (endTold y f) :=
  (((silenced_frame y).switch _ _).told f.req .done).withFlags (noticeBit .scene)

theorem told_rebuild {q : SwRequest} {l : Fin 4} (ho : q.origin = .link l) (ht : q.target = .rebuild) (o : SwOutcome) (x : State) :
    told q o false x = linkRecorded l x.scene.buffer.preset x.scene.buffer.scene o x := by
  unfold told
  rw [ho, ht] <;> rfl

theorem endedAt_scene (y : State) (f : Inflight) : (endedAt y f).scene = y.scene := by
  obtain ⟨-, -, -, -, -, scene⟩ := silenced_chain y
  exact scene

/-- What a link's record names of its request (log 22). -/
def Names (y : State) (f : Inflight) (n : Option Nat) (k : Nat) : Prop :=
  (∃ m j, f.req.target = .preset m j ∧ n = some m ∧ k = j) ∨
    (∃ e, f.req.target = .stash e ∧ n = e.preset ∧ k = e.scene) ∨
    (f.req.target = .rebuild ∧ n = y.scene.buffer.preset ∧ k = y.scene.buffer.scene)

theorem endTold_link {l : Fin 4} {n : Option Nat} {k : Nat} (ho : f.req.origin = .link l) (hn : Names y f n k) :
    endTold y f = withFlags (noticeBit .scene) (linkRecorded l n k .done (endedAt y f)) := by
  rw [endTold, raise_eq_withFlags]
  refine congrArg _ ?_
  rcases hn with ⟨m, j, ht, rfl, rfl⟩ | ⟨e, ht, rfl, rfl⟩ | ⟨ht, rfl, rfl⟩
  · exact told_preset ho ht ..
  · exact told_stash ho ht ..
  · rw [told_rebuild ho ht, endedAt_scene]

/-! ## The loss as a whole -/

/-- WATCHDOG_EXPIRY (R192). -/
def watchdogRow (x : State) : State :=
  if x.mon.watchdog then
    match x.mon.state with
    | .present => clockLoss x
    | .returning => { x with mon := ⟨.lost, 0, false⟩ }
    | .lost => { x with mon := ⟨.lost, 0, false⟩ }
  else x

theorem exec_watchdogExpiry (hl : live s = true) : exec .watchdogExpiry s = .next (watchdogRow (prelude s)) :=
  outside_live hl watchdogRow

/-- The state before the notices of the loss. -/
def lossSwitched (y : State) : State :=
  if engine y = some .ramping then landLevels (switchClockLoss (silenced y)) else switchClockLoss (silenced y)

section
variable (h4 : y.tone.lanes.length = 4)
include h4

theorem lossSwitched_idle (hf : y.sw.inflight = none) : lossSwitched y = silenced y := by
  rw [lossSwitched, if_neg (by simp [engine, hf]), switchClockLoss_none h4 hf]

theorem lossSwitched_loading (hf : y.sw.inflight = some f) (hp : f.phase = .loading) : lossSwitched y = silenced y := by
  rw [lossSwitched, if_neg (by simp [engine, hf, hp]), switchClockLoss_loading h4 hf hp]

theorem lossSwitched_fadingOut (hf : y.sw.inflight = some f) (hp : f.phase = .fadingOut) : lossSwitched y =
    { silenced y with tone := { (silenced y).tone with chainGain := .rest 0, chainRested := true } } := by
  rw [lossSwitched, if_neg (by simp [engine, hf, hp]), switchClockLoss_fadingOut h4 hf hp]

theorem lossSwitched_fadingIn (hf : y.sw.inflight = some f) (hp : f.phase = .fadingIn) : lossSwitched y = endTold y f := by
  rw [lossSwitched, if_neg (by simp [engine, hf, hp]), switchClockLoss_ends h4 hf (.inl hp)]

theorem lossSwitched_ramping (hf : y.sw.inflight = some f) (hp : f.phase = .ramping) :
    lossSwitched y = landLevels (endTold y f) := by
  rw [lossSwitched, if_pos (by simp [engine, hf, hp]), switchClockLoss_ends h4 hf (.inr hp)]

end

theorem endTold_tone (y : State) (f : Inflight) : (endTold y f).tone =
    { (silenced y).tone with chainGain := .rest y.sw.level, chainRested := false } := by
  rw [endTold, told_frame]
  rfl

/-- The tone of an ended switch: its level parameters landed in RAMPING. -/
theorem ended_tone (h4 : y.tone.lanes.length = 4) (hf : y.sw.inflight = some f) (hp : f.phase = .fadingIn ∨ f.phase = .ramping) :
    LossFrame y (lossSwitched y) ∧ LossTone y (lossSwitched y).tone ∧
    (lossSwitched y).tone.chainGain = .rest y.sw.level ∧ (lossSwitched y).tone.chainRested = false ∧
    (lossSwitched y).tone.chain = (if f.phase = .fadingIn then y.tone.chain else y.tone.chain.map fun p =>
      { p with inst := p.inst.map fun i => { i with params := i.params.map fun r => .rest r.target } }) ∧
    (lossSwitched y).sw = (endTold y f).sw ∧ (lossSwitched y).clk = (endTold y f).clk ∧
    (lossSwitched y).link = (endTold y f).link := by
  obtain ⟨holders, cur, target, main, send, master, lanes⟩ := silenced_tone h4
  obtain ⟨chain, -, -, -, -, -⟩ := silenced_chain y
  have frame := endTold_frame y f
  have tone := endTold_tone y f
  rcases hp with hp | hp
  · rw [lossSwitched_fadingIn h4 hf hp, if_pos hp, tone]
    exact ⟨frame, ⟨holders, cur, target, main, send, master, lanes⟩, rfl, rfl, chain, rfl, rfl, rfl⟩
  · have landed : (landLevels (endTold y f)).tone = { (silenced y).tone with
        chainGain := .rest y.sw.level, chainRested := false
        chain := y.tone.chain.map fun p =>
          { p with inst := p.inst.map fun i => { i with params := i.params.map fun r => .rest r.target } } } := by
      rw [landLevels, onTone_tone, tone, ← chain]
    rw [lossSwitched_ramping h4 hf hp, if_neg (by rw [hp]; decide), landed]
    exact ⟨frame.switch _ _, ⟨holders, cur, target, main, send, master, lanes⟩, rfl, rfl, rfl, rfl, rfl, rfl⟩

theorem lossSwitched_frame (h4 : y.tone.lanes.length = 4) : LossFrame y (lossSwitched y) ∧ LossTone y (lossSwitched y).tone := by
  have frame := silenced_frame y
  have tone := silenced_tone h4
  cases hf : y.sw.inflight with
  | none =>
    rw [lossSwitched_idle h4 hf]
    exact ⟨frame, tone⟩
  | some f =>
    cases hp : f.phase with
    | loading =>
      rw [lossSwitched_loading h4 hf hp]
      exact ⟨frame, tone⟩
    | fadingOut =>
      rw [lossSwitched_fadingOut h4 hf hp]
      obtain ⟨holders, cur, target, main, send, master, lanes⟩ := tone
      exact ⟨frame.switch _ _, ⟨holders, cur, target, main, send, master, lanes⟩⟩
    | fadingIn =>
      obtain ⟨frame, tone, -⟩ := ended_tone h4 hf (.inl hp)
      exact ⟨frame, tone⟩
    | ramping =>
      obtain ⟨frame, tone, -⟩ := ended_tone h4 hf (.inr hp)
      exact ⟨frame, tone⟩

/-- The notices of an ended switch of a link. -/
theorem ended_link_flags {l : Fin 4} {n : Option Nat} {k : Nat} (ho : f.req.origin = .link l) (hn : Names y f n k)
    (hx : x.link = (endTold y f).link) : (withFlags (lossBits y) x).link =
      (raise .scene { y with link := (withFlags (lossBits y) y).link }).link := by
  have start : x.link = (withFlags (noticeBit .scene) y).link := by rw [hx, endTold_link ho hn]; rfl
  have order : (raise .scene { y with link := (withFlags (lossBits y) y).link }).link =
      (withFlags (noticeBit .scene) (withFlags (lossBits y) y)).link := rfl
  rw [order, withFlags_link _ start, withFlags_withFlags, withFlags_withFlags, BitVec.or_comm]

theorem endTold_cue {t : Nat} (ho : f.req.origin = .cue t) : endTold y f = withFlags (noticeBit .scene)
    (withFlags (if ∃ c ∈ y.clk.cues, c.tag = t then noticeBit .cue else 0)
      { endedAt y f with clk := { y.clk with
        cues := y.clk.cues.map fun c => if c.tag = t then { c with outcome := .done } else c } }) := by
  rw [endTold, raise_eq_withFlags, told_cue ho]
  rfl

/-- The notices of an ended switch of a cue. -/
theorem ended_cue_flags {t : Nat} (ho : f.req.origin = .cue t) (hx : x.link = (endTold y f).link) :
    let ended := (raise .scene { y with link := (withFlags (lossBits y) y).link }).link
    (withFlags (lossBits y) x).link =
      if ∃ q ∈ y.clk.cues, q.tag = t then (raise .cue { y with link := ended }).link else ended := by
  intro ended
  have start : x.link = (withFlags ((if ∃ c ∈ y.clk.cues, c.tag = t then noticeBit .cue else 0) ||| noticeBit .scene) y).link := by
    rw [hx, endTold_cue ho, withFlags_withFlags]
    rfl
  have order : ended = (withFlags (noticeBit .scene) (withFlags (lossBits y) y)).link := rfl
  have cue : (raise .cue { y with link := ended }).link =
      (withFlags (noticeBit .cue) (withFlags (noticeBit .scene) (withFlags (lossBits y) y))).link := rfl
  rw [withFlags_link _ start, withFlags_withFlags]
  by_cases listed : ∃ q ∈ y.clk.cues, q.tag = t
  · rw [if_pos listed, if_pos listed, cue, withFlags_withFlags, withFlags_withFlags]
    refine congrArg (fun b => (withFlags b y).link) ?_
    ac_rfl
  · rw [if_neg listed, if_neg listed, order, withFlags_withFlags, show (0 : BitVec 16) ||| noticeBit .scene = noticeBit .scene by decide,
      BitVec.or_comm]

/-! ## A change handed while the clock is lost (R3) -/

section
variable {pos : Nat} {t : SlotType} {i : Inst} (lost : present x = false) (hi : x.tone.chain[pos]? = some ⟨t, some i⟩)

/-- `x` with another slot unit at a position. -/
def instPut (pos : Nat) (t : SlotType) (j : Inst) (x : State) : State :=
  { x with tone := { x.tone with chain := x.tone.chain.set pos ⟨t, some j⟩ } }

include hi in
theorem instAt_of : instAt x pos = some i := by
  unfold instAt
  rw [hi]
  rfl

include hi in
theorem setInst_of (j : Inst) : setInst pos (some j) x = instPut pos t j x := by
  unfold setInst onTone instPut
  dsimp only
  rw [modAt_some hi]

include lost hi in
theorem hand_bypass_lost (on : Bool) (hc : ∀ a b c d e, i.proc ≠ .cab a b c d e) : hand (.bypass pos on) x =
    instPut pos t { i with bypass := on, weight := .rest (if on then 0 else 32768) } x := by
  have put : instAt (setInst pos (some { i with bypass := on, weight := .rest (if on then 0 else 32768) }) x) pos =
      some { i with bypass := on, weight := .rest (if on then 0 else 32768) } := by
    rw [setInst_of hi]
    refine instAt_of (t := t) ?_
    exact List.getElem?_set_self (List.getElem?_eq_some_iff.1 hi).1
  have steady : weightZeroDue { i with bypass := on, weight := .rest (if on then 0 else 32768) } = false := by
    unfold weightZeroDue
    dsimp only
    split
    · next a b c d e hp => exact absurd hp (hc a b c d e)
    · rfl
  rw [hand_lost _ _ lost, applyChange, takeBypass, instAt_of hi]
  dsimp only
  rw [if_pos rfl, rampGo, if_pos rfl, weightZero, put]
  dsimp only
  rw [steady, if_neg (by decide), setInst_of hi]

/-- A parameter that derives nothing, landed. -/
theorem setParamValue_landed {idx : Nat} {v : Int} {q : ParamSpec} (hq : (paramSpecs i.stype i.lclass)[idx]? = some q)
    (comp : ∀ a b c, i.proc ≠ .comp a b c) (amp : ∀ a b c d e f, i.proc ≠ .amp a b c d e f) : setParamValue true idx v i =
      { i with params := i.params.set idx (.rest (if v < q.lo then q.lo else if q.hi < v then q.hi else v)) } := by
  have derive : ∀ (w : Int) (j : Inst), j.proc = i.proc → deriveParam idx w j = j := by
    intro w j hj
    unfold deriveParam
    split
    · next hp => exact absurd (hj ▸ hp) (comp _ _ _)
    · next hp => exact absurd (hj ▸ hp) (amp _ _ _ _ _ _)
    · rfl
  rw [setParamValue, hq]
  dsimp only
  rw [derive _ _ (by rfl), clampInt_ite (paramSpecs_ordered _ _ _ (List.mem_of_getElem? hq)), rampGo, if_pos rfl, ite_self]

include lost hi in
theorem hand_param_lost {idx : Nat} {v : Int} {j : Inst} (hj : setParamValue true idx v i = j) (hc : i.stype ≠ .cab)
    (hs : ¬ (j.stype = .delay ∧ idx = 1 ∧ parCur j 1 ≠ 1)) : hand (.param pos idx v) x =
      instPut pos t (if setsLength i.stype idx then retime true j else j) x := by
  rw [hand_lost _ _ lost, applyChange, takeParam, instAt_of hi]
  dsimp only
  rw [hj, if_neg fun both => hc both.1, forgetHanded, if_neg hs, setInst_of hi, Bool.true_and]

include lost hi in
/-- A parameter that sets no length and starts no other process. -/
theorem hand_plain_lost {idx : Nat} {v : Int} {q : ParamSpec} (hq : (paramSpecs i.stype i.lclass)[idx]? = some q)
    (ht : (i.stype = .delay ∧ 2 ≤ idx) ∨ (i.stype = .reverb ∧ 1 ≤ idx))
    (comp : ∀ a b c, i.proc ≠ .comp a b c) (amp : ∀ a b c d e f, i.proc ≠ .amp a b c d e f) : hand (.param pos idx v) x =
      instPut pos t { i with params := i.params.set idx (.rest (if v < q.lo then q.lo else if q.hi < v then q.hi else v)) } x := by
  have plain : setsLength i.stype idx = false := by
    rcases ht with ⟨h, far⟩ | ⟨h, far⟩ <;> rw [h] <;> simp [setsLength] <;> omega
  have other : i.stype ≠ .cab := by rcases ht with ⟨h, -⟩ | ⟨h, -⟩ <;> rw [h] <;> decide
  rw [hand_param_lost lost hi (setParamValue_landed hq comp amp) other, plain, if_neg (by decide)]
  rintro ⟨delay, rfl, -⟩
  rcases ht with ⟨-, far⟩ | ⟨h, -⟩
  · omega
  · exact absurd (h.symm.trans delay) (by decide)

include lost hi in
/-- A new time of a DELAY without sync (R14): its length is taken up at once. -/
theorem hand_time_lost {w d v next held syn fade cl r0 rest} (ht : i.stype = .delay) (hl : i.lclass = .short)
    (hp : i.params = r0 :: rest) (hd : i.proc = .delay w d next held syn fade cl)
    (lo : 1 ≤ v) (hi' : v ≤ 2730) : hand (.param pos 0 v) x =
      instPut pos t (retime true { i with params := .rest v :: rest }) x := by
  have set_ : setParamValue true 0 v i = { i with params := .rest v :: rest } := by
    rw [setParamValue_landed (q := ⟨1, 2730, false, 1⟩) (by rw [ht, hl]; rfl) (by rw [hd]; simp) (by rw [hd]; simp), hp]
    rw [if_neg (by dsimp only; omega), if_neg (by dsimp only; omega)]
    rfl
  rw [hand_param_lost lost hi set_ (by rw [ht]; decide) (by simp), ht, if_pos (by decide)]

/-- A DELAY without sync goes to its time in samples (R14). -/
theorem retime_free {landing : Bool} {w d next held syn fade cl} (off : parCur i 1 ≠ 1)
    (hd : i.proc = .delay w d next held syn fade cl) : retime landing i =
      let r := retarget landing d next held fade (some (48 * parCur i 0).toNat)
      { i with proc := .delay w r.1 r.2.1 r.2.2.1 none r.2.2.2 (if r.2.2.1.isSome then cl else false) } := by
  unfold retime
  rw [hd]
  dsimp only
  rw [if_neg off, if_neg off, if_neg off, Int.mul_comm (parCur i 0) 48]

theorem retarget_same {α : Type} [DecidableEq α] {landing : Bool} {d : α} {next held : Option α} {fade : Ramp} {v : α} (h : v = aimOf d next held) :
    retarget landing d next held fade (some v) = (d, next, held, fade) := if_pos h

theorem retarget_landed {α : Type} [DecidableEq α] {d : α} {next held : Option α} {fade : Ramp} {v : α} (h : v ≠ aimOf d next held) :
    retarget true d next held fade (some v) = (v, none, none, .rest 0) := by
  unfold retarget
  dsimp only
  rw [if_neg h, if_pos rfl]

end

/-! ## The return (R193) -/

theorem clockReturned_row (hr : s.mon.state = .returning) (full : 512 ≤ s.mon.clean) {b : Holders}
    (hh : s.tone.holders = { b with clock := true }) (more : List Change)
    (hm : more = if anyHolder { b with clock := false } then [] else [.muteRise 32]) : clockReturnedStep s =
      raise .clock { s with
        mon := { s.mon with state := .present, clean := 0 }
        tone := { s.tone with framePhase := 0, holders := { b with clock := false }, changes := s.tone.changes ++ .muteZero :: more } } := by
  have start : ∀ x : State, x.mon.state = .present → x.tone.holders = { b with clock := true } → releaseClockHolder x =
      { x with tone := { x.tone with holders := { b with clock := false }, changes := x.tone.changes ++ .muteZero :: more } } := by
    intro x hx hold
    cases any : anyHolder { b with clock := false } <;> rw [any] at hm
    · simp [releaseClockHolder, releaseHolder, hold, hand, present, hx, any, hm, onTone]
    · simp [releaseClockHolder, releaseHolder, hold, hand, present, hx, any, hm, onTone]
  unfold clockReturnedStep
  rw [if_pos ⟨hr, full⟩]
  dsimp only
  exact congrArg (raise .clock) (start (onTone (fun t => { t with framePhase := 0 })
    { s with mon := { s.mon with state := .present, clean := 0 } }) rfl hh)

/-! ## The edges (R192) -/

theorem exec_afsEdge (hl : live s = true) (n : Nat) : exec (.afsEdge n) s = .next (afsEdge n (prelude s)) :=
  outside_live hl (afsEdge n)

/-- Settles O22: the loss as `lossSwitched` and its notices, a handed change taken up at once, edges and return. -/
theorem clockLossAndReturn : Obligations.ClockLossAndReturn := by
  unfold Obligations.ClockLossAndReturn
  refine ⟨fun s hl => ?_, fun s hl => ?_⟩
  · intro y
    have watchdog := exec_watchdogExpiry hl
    have edge := exec_afsEdge hl
    have hy : prelude s = y := rfl
    clear_value y
    rw [hy] at watchdog edge
    refine ⟨fun off => ?_, fun on hs => ?_, fun on hs hc hh h4 => ?_, fun x lost => ?_, fun hs n => ?_, fun hs n lo hi => ?_,
      fun hs n out => ?_, fun hs room n => ?_, fun hs full n => ?_⟩
    · rw [watchdog, watchdogRow, if_neg (by rw [off]; decide)]
    · rw [watchdog, watchdogRow, if_pos on]
      cases st : y.mon.state with
      | present => exact absurd st hs
      | lost => rfl
      | returning => rfl
    · have whole : exec .watchdogExpiry s = .next (lossReported (lossSwitched y)) := by
        rw [watchdog, watchdogRow, if_pos on, hs]
        exact congrArg _ (clockLoss_eq hc hh)
      obtain ⟨frame, tone⟩ := lossSwitched_frame h4
      refine ⟨_, whole.trans (congrArg _ frame.reported), rfl, tone.holders, tone.muteCur, tone.muteTarget, tone.mainOut,
        tone.sendOut, tone.master, tone.lanes, ?_⟩
      intro told ended
      have told_ : told = (withFlags (lossBits y) y).link := lossFlags y
      obtain ⟨chain, gain, link, clk, -, -⟩ := silenced_chain y
      have sw := silenced_sw h4
      refine ⟨fun hf => ?_, fun f hf hp => ?_, fun f hf hp => ?_⟩
      · have same := lossSwitched_idle h4 hf
        rw [hf] at sw
        refine ⟨?_, ?_, ?_, ?_, ?_⟩ <;> dsimp only <;> rw [same]
        · rw [sw, hf]
          rfl
        · rw [told_, withFlags_link _ link]
        · exact chain
        · exact gain
        · rw [clk]
      · have left : (silenced y).sw = { y.sw with laneReports := [], inflight := some (stranded y f) } := by rw [sw, hf]; rfl
        rcases hp with hp | hp
        · have same := lossSwitched_loading h4 hf hp
          refine ⟨?_, ?_, ?_, ?_, fun out => absurd (hp.symm.trans out) (by decide), ?_⟩ <;> dsimp only <;> rw [same]
          · rw [told_, withFlags_link _ link]
          · exact chain
          · rw [clk]
          · rw [gain, if_pos hp]
          · exact left
        · have same := lossSwitched_fadingOut h4 hf hp
          refine ⟨?_, ?_, ?_, ?_, fun _ => ?_, ?_⟩ <;> dsimp only <;> rw [same]
          · rw [told_]
            exact withFlags_link _ link
          · exact chain
          · exact congrArg _ clk
          · rw [if_neg (by rw [hp]; decide)]
          · exact left
      · intro idle b
        obtain ⟨-, -, level, rested, landed, sw, clk, link⟩ := ended_tone h4 hf hp
        have ended_ : ended = (raise .scene { y with link := (withFlags (lossBits y) y).link }).link := by
          rw [← told_]
        refine ⟨level, rested, landed, fun l n k ho hn => ⟨?_, ?_, ?_⟩, fun t ho => ⟨?_, ?_, ?_⟩⟩ <;> dsimp only
        · rw [clk, endTold_link ho hn]
          rfl
        · rw [ended_]
          exact ended_link_flags ho hn link
        · rw [sw, endTold_link ho hn]
          show ({ y.sw with
            inflight := none, laneReports := [], guard := guardAfter f.req y.sw.guard
            outcomes := y.sw.outcomes.set l.val ⟨n, some k, .done⟩ } : SwitchEng) = _
          rw [guardAfter, ho]
        · rw [sw, endTold_cue ho]
          show ({ y.sw with inflight := none, laneReports := [], guard := guardAfter f.req y.sw.guard } : SwitchEng) = _
          rw [guardAfter, ho]
        · rw [clk, endTold_cue ho]
          rfl
        · rw [ended_]
          exact ended_cue_flags ho link
    · refine ⟨fun c => hand_lost c x lost, fun v n => ?_, fun v n => ?_, fun n => ?_, fun pos t i hi => ?_⟩
      · rw [hand_lost _ _ lost, applyChange, takeGain]
        simp only [onTone, Bool.or_true]
        rfl
      · rw [hand_lost _ _ lost]
        rfl
      · rw [hand_lost _ _ lost]
        rfl
      · intro at_
        refine ⟨fun on cab => hand_bypass_lost lost hi on cab, fun idx v q hq ht comp amp => hand_plain_lost lost hi hq ht comp amp,
          fun w d next held syn fade cl v r0 rest ht hc hp sync hd lo up => ?_⟩
        intro j
        have off : parCur j 1 ≠ 1 := by
          show (rest.getD 0 (.rest 0)).cur ≠ 1
          rw [sync]
          decide
        have landed : hand (.param pos 0 v) x = at_ (retime true j) := hand_time_lost lost hi ht hc hp hd lo up
        rw [landed, retime_free off hd]
        refine ⟨fun same none_ => ?_, fun new => ?_⟩
        · rw [show (48 * parCur j 0).toNat = (48 * v).toNat from rfl, retarget_same same, none_]
          rfl
        · rw [show (48 * parCur j 0).toNat = (48 * v).toNat from rfl, retarget_landed new]
          rfl
    · rw [edge, afsEdge, hs]
    · rw [edge, afsEdge, hs]
      dsimp only
      rw [if_pos ⟨lo, hi⟩]
    · rw [edge, afsEdge, hs]
      dsimp only
      rw [if_neg (by omega)]
    · rw [edge, afsEdge, hs]
      dsimp only
      rw [if_pos room]
      rfl
    · rw [edge, afsEdge, hs]
      dsimp only
      rw [if_neg (by omega)]
  · intro back
    have row : exec .clockReturned s = .next (clockReturnedStep s) := inside_live hl _
    refine ⟨fun early => ?_, fun hr full hh => ?_, fun a b c hr full hh any => ?_⟩
    · rw [row, clockReturnedStep, if_neg (by rintro ⟨hr, full⟩; exact early.elim (absurd hr) (by omega))]
    · rw [row, clockReturned_row hr full (b := ⟨false, false, false, false⟩) hh _ rfl]
      rfl
    · rw [row, clockReturned_row hr full (b := ⟨a, b, c, false⟩) hh [] (by simp [anyHolder, any])]

end Sys2Proof.Frame
end

section
/-! A lane's life in the Tone Engine (R20 to R25), the drop and the rebuild of a chain (R46, R47), and the figures of R18. -/

namespace Sys2Proof.Frame

open Sys2Proof Sys2Proof.Machine

variable {s x y z : State} {i j : Inst} {m : AreaMan} {a : Nat} {h : Holder} {b : Bool} {pos : Nat}

/-! ## Areas that become FREE or change holder (R46) -/

/-- `m'` differs from `m` in the areas alone. -/
def AreasOnly (m m' : AreaMan) : Prop := m' = { m with areas := m'.areas }

theorem AreasOnly.refl (m : AreaMan) : AreasOnly m m := rfl

theorem AreasOnly.trans {m1 m2 m3 : AreaMan} (h1 : AreasOnly m1 m2) (h2 : AreasOnly m2 m3) : AreasOnly m1 m3 := by
  unfold AreasOnly at *
  rw [h2, h1]

theorem AreasOnly.foldl {α : Type} {f : AreaMan → α → AreaMan} (hf : ∀ m v, AreasOnly m (f m v)) (l : List α) (m : AreaMan) :
    AreasOnly m (l.foldl f m) := by
  induction l generalizing m with
  | nil => exact .refl m
  | cons v t ih => exact (hf m v).trans (ih _)

theorem AreasOnly.table {m m' : AreaMan} (h : AreasOnly m m') : m'.table = m.table := by rw [h]

theorem freeAreaList_only (l : List Nat) (m : AreaMan) : AreasOnly m (freeAreaList l m) :=
  .foldl (f := fun m a => freeArea a m) (fun _ _ => rfl) l m

theorem reholdList_only (h : Holder) (l : List Nat) (m : AreaMan) : AreasOnly m (reholdList h l m) :=
  .foldl (f := fun m a => rehold h a m) (fun _ _ => rfl) l m

theorem getElem?_freeAreaList (l : List Nat) (m : AreaMan) (a : Nat) : (freeAreaList l m).areas[a]? =
    if a ∈ l ∧ a < m.areas.length then some .free else m.areas[a]? := by
  induction l generalizing m with
  | nil => simp [freeAreaList]
  | cons c t ih =>
    have step : (freeAreaList (c :: t) m).areas[a]? = (freeAreaList t (freeArea c m)).areas[a]? := rfl
    rw [step, ih, freeArea]
    dsimp only
    rw [List.length_set, List.getElem?_set]
    grind

/-- A LINE area under another holder; any other stays. -/
def heldBy (h : Holder) : Area → Area
  | .line _ ready second => .line h ready second
  | x => x

theorem getElem?_reholdList (h : Holder) (l : List Nat) (m : AreaMan) (a : Nat) : (reholdList h l m).areas[a]? =
    if a ∈ l then m.areas[a]?.map (heldBy h) else m.areas[a]? := by
  induction l generalizing m with
  | nil => simp [reholdList]
  | cons c t ih =>
    have step : (reholdList h (c :: t) m).areas[a]? = (reholdList h t (rehold h c m)).areas[a]? := rfl
    have once : (rehold h c m).areas[a]? = if a = c then m.areas[a]?.map (heldBy h) else m.areas[a]? := getElem?_modAt ..
    have twice : ∀ g, heldBy h (heldBy h g) = heldBy h g := fun g => by cases g <;> rfl
    rw [step, ih, once]
    by_cases hc : a = c
    · cases m.areas[a]? <;> simp [hc, twice]
    · simp [hc]

theorem heldBy_other {g : Area} (hg : ∀ k r n, g ≠ .line k r n) : heldBy h g = g := by
  cases g with
  | line k r n => exact absurd rfl (hg k r n)
  | _ => rfl

/-! ## Cut fades (R22, R23) -/

/-- A lane whose cut fade starts. -/
def cutStarted (x : Lane) : Lane := { x with st := .cutting, tail := ⟨x.tail.cur, 0, 8⟩ }

theorem startCut_rings {x : Lane} (h : x.st = .feeding ∨ x.st = .ringing) : startCut x = cutStarted x := by
  unfold startCut
  rcases h with h | h <;> rw [h] <;> rfl

theorem startCut_rests {x : Lane} (h : ¬ (x.st = .feeding ∨ x.st = .ringing)) : startCut x = x := by
  unfold startCut
  cases hs : x.st with
  | feeding => exact absurd (.inl hs) h
  | ringing => exact absurd (.inr hs) h
  | _ => rfl

theorem startCut_inst (x : Lane) : (startCut x).inst = x.inst := by
  unfold startCut
  cases x.st <;> rfl

/-- The change of one lane. -/
def onLane (l : Nat) (f : Lane → Lane) (y : State) : State := onTone (fun t => { t with lanes := modAt t.lanes l f }) y

theorem onLane_some {l : Nat} {f : Lane → Lane} {x : Lane} (hx : y.tone.lanes[l]? = some x) : onLane l f y =
    { y with tone := { y.tone with lanes := y.tone.lanes.set l (f x) } } := by
  unfold onLane onTone
  dsimp only
  rw [modAt_some hx]

theorem onLane_same {l : Nat} {f : Lane → Lane} {x : Lane} (hx : y.tone.lanes[l]? = some x) (hf : f x = x) : onLane l f y = y := by
  rw [onLane_some hx, hf]
  have same : y.tone.lanes.set l x = y.tone.lanes := by
    rw [← (List.getElem?_eq_some_iff.1 hx).2]
    exact List.set_getElem_self _
  rw [same]

theorem laneOf_some {l : Nat} {x : Lane} (hx : y.tone.lanes[l]? = some x) : laneOf y l = x := by
  rw [laneOf, List.getD_eq_getElem?_getD, hx, Option.getD_some]

theorem exec_tailTimerExpiry (hl : live s = true) (l : Fin 4) :
    exec (.tailTimerExpiry l) s = .next (onLane l.val tailTimerEnd (prelude s)) := outside_live hl _

theorem exec_laneQuiet (hl : live s = true) (l : Fin 4) :
    exec (.laneQuiet l) s = .next (onLane l.val quietEnd (prelude s)) := outside_live hl _

theorem cutDue_iff (x : Lane) : cutDue x = true ↔ x.st = .cutting ∧ x.tail.n = 0 ∧ x.tail.cur = 0 := by
  simp [cutDue, and_assoc]

theorem cutFadeStep_due {l : Nat} {x : Lane} (hx : s.tone.lanes[l]? = some x) (due : cutDue x = true) : cutFadeStep l s = { s with
    tone := { s.tone with lanes := s.tone.lanes.set l Lane.clear, order := s.tone.order.filter (· != l) }
    area := freeAreaList ((x.inst.map (·.areas)).getD []) s.area
    sw := { s.sw with
      inflight := s.sw.inflight.map fun f => { f with evicting := f.evicting.filter (· != l) }
      laneReports := if engine s = some .fadingOut then s.sw.laneReports ++ [l] else s.sw.laneReports } } := by
  unfold cutFadeStep
  rw [laneOf_some hx, if_pos due]
  unfold emptyLane onSw onTone
  dsimp only
  rw [laneOf_some hx]
  unfold engine
  cases s.sw.inflight with
  | none => rfl
  | some f => cases f with | mk req kind phase => cases phase <;> rfl

/-! ## A move and the drop (R20, R46) -/

theorem takeMove_moves {t : SlotType} {l : Fin 4} {len : Nat} (hi : x.tone.chain[pos]? = some ⟨t, some i⟩)
    (line : i.stype = .delay ∨ i.stype = .reverb) (empty : (laneOf x l.val).st = .empty) : takeMove pos l len x = { x with
      area := reholdList (.lane l.val) i.areas x.area
      tone := { x.tone with
        chain := x.tone.chain.set pos ⟨t, none⟩, order := x.tone.order ++ [l.val]
        lanes := x.tone.lanes.set l.val
          ⟨.feeding, some (retime false i), pos, true, ⟨32768, 0, if len = 0 then 1 else len⟩, .rest x.tone.chainGain.cur,
            parCur i (if i.stype = .delay then 5 else 4) * 4800, 0⟩ } } := by
  have length : max 1 len = if len = 0 then 1 else len := by split <;> omega
  unfold takeMove
  rw [instAt_of hi]
  dsimp only
  rw [if_pos ⟨(holdsLine_iff _).2 line, empty⟩, length, setInst, onTone, onTone]
  dsimp only
  rw [modAt_some hi]

theorem takeMove_stays {t : SlotType} {l : Fin 4} {len : Nat} (hi : x.tone.chain[pos]? = some ⟨t, some i⟩)
    (out : ¬ (i.stype = .delay ∨ i.stype = .reverb) ∨ (laneOf x l.val).st ≠ .empty) : takeMove pos l len x = x := by
  unfold takeMove
  rw [instAt_of hi]
  dsimp only
  rw [if_neg]
  rintro ⟨line, empty⟩
  exact out.elim (fun h => h ((holdsLine_iff _).1 line)) fun h => h empty

theorem foldl_insts {α : Type} (f : α → Inst → α) (chain : List Position) (v : α) :
    chain.foldl (fun v p => (p.inst.map fun i => f v i).getD v) v = (chain.filterMap (·.inst)).foldl f v := by
  induction chain generalizing v with
  | nil => rfl
  | cons p t ih =>
    cases hp : p.inst with
    | none => rw [List.foldl_cons, List.filterMap_cons_none hp, ← ih, hp]; rfl
    | some i => rw [List.foldl_cons, List.filterMap_cons_some hp, List.foldl_cons, ← ih, hp]; rfl

theorem dropInst_line (hc : ∀ a c d e f, i.proc ≠ .cab a c d e f) (m : AreaMan) : dropInst i m = freeAreaList i.areas m := by
  unfold dropInst
  split
  · next hp => exact absurd hp (hc _ _ _ _ _)
  · rfl

theorem foldl_dropInst {l : List Inst} (hc : ∀ i ∈ l, ∀ a c d e f, i.proc ≠ .cab a c d e f) (m : AreaMan) :
    l.foldl (fun m i => dropInst i m) m = freeAreaList (l.flatMap (·.areas)) m := by
  induction l generalizing m with
  | nil => rfl
  | cons i t ih =>
    rw [List.foldl_cons, List.flatMap_cons, freeAreaList_append, dropInst_line (hc i (by simp)), ih fun j hj => hc j (by simp [hj])]

/-- Does the drop take a position's slot unit? -/
def dropped (p : Position) : Bool := (p.inst.map fun i => holdsLine i.stype).getD false

/-- The areas after the drop. -/
def dropAreas (chain : List Position) (m : AreaMan) : AreaMan :=
  chain.foldl (fun m p => if dropped p then (p.inst.map fun i => dropInst i m).getD m else m) m

theorem dropAreas_eq (chain : List Position) (m : AreaMan) (hc : ∀ i ∈ chain.filterMap (·.inst),
    (i.stype = .delay ∨ i.stype = .reverb) → ∀ a c d e f, i.proc ≠ .cab a c d e f) : dropAreas chain m =
      freeAreaList (((chain.filterMap (·.inst)).filter fun i => holdsLine i.stype).flatMap (·.areas)) m := by
  induction chain generalizing m with
  | nil => rfl
  | cons p t ih =>
    unfold dropAreas at ih ⊢
    cases hp : p.inst with
    | none =>
      rw [List.filterMap_cons_none hp] at hc ⊢
      rw [List.foldl_cons, ← ih _ hc, hp]
      split <;> rfl
    | some i =>
      rw [List.filterMap_cons_some hp] at hc ⊢
      have line : dropped p = holdsLine i.stype := by rw [dropped, hp]; rfl
      rw [List.foldl_cons, ih _ fun j hj => hc j (List.mem_cons_of_mem _ hj), line, hp, Option.map_some, Option.getD_some]
      cases hl : holdsLine i.stype with
      | false => rw [List.filter_cons_of_neg (p := fun i : Inst => holdsLine i.stype) (by simp [hl])]; rfl
      | true =>
        rw [List.filter_cons_of_pos (p := fun i : Inst => holdsLine i.stype) hl, List.flatMap_cons, freeAreaList_append,
          dropInst_line (hc i (List.mem_cons_self ..) ((holdsLine_iff _).1 hl))]
        rfl

theorem takeDrop_eq (hc : ∀ i ∈ x.tone.chain.filterMap (·.inst), (i.stype = .delay ∨ i.stype = .reverb) →
      ∀ a c d e f, i.proc ≠ .cab a c d e f) : takeDrop x = { x with
    area := freeAreaList (((x.tone.chain.filterMap (·.inst)).filter fun i => holdsLine i.stype).flatMap (·.areas)) x.area
    tone := { x.tone with chain := x.tone.chain.map fun p =>
      if (p.inst.map fun i => holdsLine i.stype) = some true then { p with inst := none } else p } } := by
  have form : ∀ gone : Position → Bool, (∀ p, gone p = dropped p) → ({ x with
      area := x.tone.chain.foldl (fun m p => if gone p then (p.inst.map fun i => dropInst i m).getD m else m) x.area
      tone := { x.tone with chain := x.tone.chain.map fun p => if gone p then { p with inst := none } else p } } : State) = { x with
      area := dropAreas x.tone.chain x.area
      tone := { x.tone with chain := x.tone.chain.map fun p => if dropped p then { p with inst := none } else p } } :=
    fun gone same => by rw [funext same]; rfl
  have chain : (x.tone.chain.map fun p => if dropped p then { p with inst := none } else p) = x.tone.chain.map fun p =>
      if (p.inst.map fun i => holdsLine i.stype) = some true then { p with inst := none } else p := by
    refine List.map_congr_left fun p _ => ?_
    cases hp : p.inst <;> simp [dropped, hp]
  rw [← dropAreas_eq _ _ hc, ← chain]
  exact form _ fun p => by cases p with | mk t o => cases o <;> rfl

/-! ## The rebuild (R2, R10, R46, R47, R141) -/

/-- What a CAB made live does to the areas: it reads its image, if its slot holds one. -/
def cabAreas (m : AreaMan) (i : Inst) : AreaMan :=
  match i.proc with
  | .cab image _ _ _ _ => (resolveImage (parCur i 0).toNat (releaseImage image m)).2
  | _ => m

/-- A slot unit made live, with the image slots of `table`. -/
def cabResolved (table : List (Option (Nat × Nat))) (i : Inst) : Inst :=
  match i.proc with
  | .cab _ _ _ _ _ =>
    { i with proc := .cab (table.getD (parCur i 0).toNat none) (table.getD (parCur i 0).toNat none).isNone [] (.rest 32768) .steady }
  | _ => i

theorem releaseImage_only (o : Option (Nat × Nat)) (m : AreaMan) : AreasOnly m (releaseImage o m) := by
  cases o <;> rfl

theorem resolveImage_only (k : Nat) (m : AreaMan) : AreasOnly m (resolveImage k m).2 := by
  unfold resolveImage
  split <;> rfl

theorem resolveImage_fst (k : Nat) (m : AreaMan) : (resolveImage k m).1 = m.table.getD k none := by
  unfold resolveImage
  split
  · next h => rw [h]
  · next h => rw [h]

theorem cabAreas_only (m : AreaMan) (i : Inst) : AreasOnly m (cabAreas m i) := by
  unfold cabAreas
  split
  · exact (releaseImage_only _ _).trans (resolveImage_only _ _)
  · rfl

theorem dropInst_only (i : Inst) (m : AreaMan) : AreasOnly m (dropInst i m) := by
  unfold dropInst
  split
  · exact releaseImage_only _ _
  · exact freeAreaList_only _ _

theorem cabResolve_live {t : SlotType} (hi : x.tone.chain[pos]? = some ⟨t, some i⟩) :
    cabResolve pos 0 (.rest 32768) .steady x = { x with
      area := cabAreas x.area i
      tone := { x.tone with chain := x.tone.chain.set pos ⟨t, some (cabResolved x.area.table i)⟩ } } := by
  have same : x.tone.chain.set pos ⟨t, some i⟩ = x.tone.chain := by
    rw [← (List.getElem?_eq_some_iff.1 hi).2]
    exact List.set_getElem_self _
  unfold cabResolve cabAreas cabResolved
  rw [instAt_of hi]
  cases hp : i.proc with
  | cab image miss hist gain phase =>
    simp only [hp]
    have fst : (resolveImage (parCur i 0).toNat (releaseImage image x.area)).1 = x.area.table.getD (parCur i 0).toNat none := by
      rw [resolveImage_fst, (releaseImage_only image x.area).table]
    rw [fst]
    exact setInst_of (x := { x with area := (resolveImage (parCur i 0).toNat (releaseImage image x.area)).2 }) hi _
  | _ => simp only [hp, same]

theorem resolveCabs_live (built : List Inst) (hx : x.tone.chain = built.map fun i => ⟨i.stype, some i⟩) :
    resolveCabs built.length x = { x with
      area := built.foldl cabAreas x.area
      tone := { x.tone with chain := built.map fun i => ⟨i.stype, some (cabResolved x.area.table i)⟩ } } := by
  have partly : ∀ k, k ≤ built.length →
      (List.range k).foldl (fun s pos => cabResolve pos 0 (.rest 32768) .steady s) x = { x with
        area := (built.take k).foldl cabAreas x.area
        tone := { x.tone with chain := built.mapIdx fun j i =>
          ⟨i.stype, some (if j < k then cabResolved x.area.table i else i)⟩ } } := by
    intro k
    induction k with
    | zero =>
      intro _
      have start : (built.mapIdx fun j i =>
          (⟨i.stype, some (if j < 0 then cabResolved x.area.table i else i)⟩ : Position)) = x.tone.chain := by
        rw [hx]
        exact List.ext_getElem? fun n => by grind
      rw [start]
      rfl
    | succ k ih =>
      intro hk
      have at_ : built[k]? = some built[k] := List.getElem?_eq_getElem hk
      rw [List.range_succ, List.foldl_append, List.foldl_cons, List.foldl_nil, ih (by omega),
        cabResolve_live (t := built[k].stype) (i := built[k]) (by simp [at_])]
      have table : ((built.take k).foldl cabAreas x.area).table = x.area.table := (AreasOnly.foldl cabAreas_only _ _).table
      have area : (built.take (k + 1)).foldl cabAreas x.area = cabAreas ((built.take k).foldl cabAreas x.area) built[k] := by
        rw [List.take_add_one, at_, List.foldl_append]
        rfl
      dsimp only
      rw [table, area]
      congr 2
      refine List.ext_getElem? fun n => ?_
      rw [List.getElem?_set]
      grind
  have whole := partly built.length (Nat.le_refl _)
  rw [List.take_length] at whole
  have all : (built.mapIdx fun j i =>
      (⟨i.stype, some (if j < built.length then cabResolved x.area.table i else i)⟩ : Position)) =
        built.map fun i => ⟨i.stype, some (cabResolved x.area.table i)⟩ := by
    refine List.ext_getElem? fun n => ?_
    rw [List.getElem?_mapIdx, List.getElem?_map]
    by_cases hn : n < built.length
    · simp [hn]
    · simp [hn]
  rwa [all] at whole

/-- The instances of a new chain, the DELAYs with their lengths. -/
def builtOf (insts : List Inst) (x : State) : List Inst := insts.map (buildLength x.clk.tempo)

theorem buildLength_delay {w d next held syn f cl} (tempo : Nat) (hp : i.proc = .delay w d next held syn f cl) :
    buildLength tempo i = if parCur i 1 = 1 then
      let n := syncedLen tempo (parCur i 2)
      { i with proc := .delay w (min n (delayCap i.lclass)) none none (some n) (.rest 0) (decide (delayCap i.lclass < n)) }
    else { i with proc := .delay w (parCur i 0 * 48).toNat none none none (.rest 0) false } := by
  unfold buildLength
  rw [hp]

theorem buildLength_other (tempo : Nat) (hp : ∀ w d next held syn f cl, i.proc ≠ .delay w d next held syn f cl) :
    buildLength tempo i = i := by
  unfold buildLength
  split
  · next h => exact absurd h (hp _ _ _ _ _ _ _)
  · rfl

theorem buildLength_areas (tempo : Nat) (i : Inst) : (buildLength tempo i).areas = i.areas := by
  unfold buildLength
  split
  · split <;> rfl
  · rfl

theorem buildLength_stype (tempo : Nat) (i : Inst) : (buildLength tempo i).stype = i.stype := by
  unfold buildLength
  split
  · split <;> rfl
  · rfl

/-- A built CAB is the CAB, and nothing else is one. -/
theorem buildLength_cab {tempo : Nat} {a c d e f} : (buildLength tempo i).proc = .cab a c d e f ↔ i.proc = .cab a c d e f := by
  cases hp : i.proc with
  | delay w d next held syn f cl =>
    rw [buildLength_delay tempo hp]
    split <;> simp
  | _ => rw [buildLength_other tempo (by simp [hp]), hp]

theorem buildLength_ofCab {tempo : Nat} {a c d e f} (hp : i.proc = .cab a c d e f) : buildLength tempo i = i :=
  buildLength_other tempo (by simp [hp])

/-- The areas of a new chain's instances under their positions, from position `n` on. -/
def heldFrom (n : Nat) (l : List Inst) (m : AreaMan) : AreaMan :=
  (l.foldl (fun (mk : AreaMan × Nat) i => (reholdList (.live mk.2) i.areas mk.1, mk.2 + 1)) (m, n)).1

theorem heldFrom_cons (n : Nat) (i : Inst) (l : List Inst) (m : AreaMan) :
    heldFrom n (i :: l) m = heldFrom (n + 1) l (reholdList (.live n) i.areas m) := rfl

theorem heldFrom_only (n : Nat) (l : List Inst) (m : AreaMan) : AreasOnly m (heldFrom n l m) := by
  induction l generalizing n m with
  | nil => exact .refl m
  | cons i t ih =>
    rw [heldFrom_cons]
    exact (reholdList_only _ _ _).trans (ih _ _)

theorem heldFrom_eq (n : Nat) (l : List Inst) (m : AreaMan) :
    heldFrom n l m = ((List.range' n l.length).zip l).foldl (fun m p => reholdList (.live p.1) p.2.areas m) m := by
  induction l generalizing n m with
  | nil => rfl
  | cons i t ih => rw [heldFrom_cons, ih, List.length_cons, List.range'_succ, List.zip_cons_cons, List.foldl_cons]

theorem heldFrom_map (n : Nat) (l : List Inst) (m : AreaMan) (f : Inst → Inst) (hf : ∀ i, (f i).areas = i.areas) :
    heldFrom n (l.map f) m = heldFrom n l m := by
  induction l generalizing n m with
  | nil => rfl
  | cons i t ih => rw [List.map_cons, heldFrom_cons, heldFrom_cons, hf, ih]

/-- The areas after the old chain's instances are dropped. -/
def dropAll (old : List Inst) (m : AreaMan) : AreaMan := old.foldl (fun m i => dropInst i m) m

theorem dropAll_only (old : List Inst) (m : AreaMan) : AreasOnly m (dropAll old m) :=
  .foldl (f := fun m i => dropInst i m) (fun m i => dropInst_only i m) old m

theorem reheld_eq (insts : List Inst) (x : State) :
    reheld insts x = heldFrom 0 insts (dropAll (x.tone.chain.filterMap (·.inst)) x.area) := by
  have dropped : x.tone.chain.foldl (fun m p => (p.inst.map fun i => dropInst i m).getD m) x.area =
      dropAll (x.tone.chain.filterMap (·.inst)) x.area := foldl_insts (fun m i => dropInst i m) _ _
  refine Eq.trans ?_ (heldFrom_map 0 insts _ (buildLength x.clk.tempo) (buildLength_areas _))
  rw [← dropped]
  rfl

/-- The areas after a rebuild. -/
def rebuiltAreas (insts : List Inst) (x : State) : AreaMan :=
  (builtOf insts x).foldl cabAreas (heldFrom 0 insts (dropAll (x.tone.chain.filterMap (·.inst)) x.area))

theorem rebuiltAreas_only (insts : List Inst) (x : State) : AreasOnly x.area (rebuiltAreas insts x) :=
  ((dropAll_only _ _).trans (heldFrom_only _ _ _)).trans (.foldl cabAreas_only _ _)

/-- A rebuild taken up. -/
theorem takeRebuild_live (insts : List Inst) (x : State) : takeRebuild insts x = { x with
    area := rebuiltAreas insts x
    tone := { x.tone with
      chain := (builtOf insts x).map fun i => ⟨i.stype, some (cabResolved x.area.table i)⟩
      lanes := x.tone.lanes.map fun l => { l with
        fed := false, st := if l.st = .feeding then .ringing else l.st, quiet := if l.st = .feeding then 0 else l.quiet } }
    clk := { x.clk with handed := (List.range 12).map fun k => ((builtOf insts x)[k]?).bind builtHanded } } := by
  have areas : (rebuilt insts x).area = heldFrom 0 insts (dropAll (x.tone.chain.filterMap (·.inst)) x.area) := reheld_eq insts x
  have table : (rebuilt insts x).area.table = x.area.table := by
    rw [areas]
    exact ((dropAll_only _ _).trans (heldFrom_only _ _ _)).table
  rw [takeRebuild_eq]
  refine (resolveCabs_live (builtOf insts x) rfl).trans ?_
  rw [table, areas]
  rfl

theorem getElem?_chain_rebuilt (insts : List Inst) (x : State) (k : Nat) (hk : insts[k]? = some i) :
    (takeRebuild insts x).tone.chain[k]? = some ⟨i.stype, some (cabResolved x.area.table (buildLength x.clk.tempo i))⟩ := by
  rw [takeRebuild_live]
  simp [builtOf, hk, buildLength_stype]

theorem getElem?_handed_rebuilt (insts : List Inst) (x : State) {k : Nat} (hk : insts[k]? = some i) (h12 : k < 12) :
    (takeRebuild insts x).clk.handed[k]? = some (builtHanded (buildLength x.clk.tempo i)) := by
  rw [takeRebuild_live]
  simp [builtOf, hk, h12]

/-! ## The count of an image under a rebuild (R10, R47) -/

/-- Does a slot unit read area `a`? -/
def readsArea (a : Nat) (i : Inst) : Bool :=
  match i.proc with
  | .cab (some (c, _)) _ _ _ _ => c == a
  | _ => false

/-- Will a slot unit read area `a` once it is live? -/
def willRead (table : List (Option (Nat × Nat))) (a : Nat) (i : Inst) : Bool :=
  match i.proc, table.getD (parCur i 0).toNat none with
  | .cab _ _ _ _ _, some (c, _) => c == a
  | _, _ => false

theorem releaseImage_count {k taps refs : Nat} (o : Option (Nat × Nat)) (ha : m.areas[a]? = some (.image (some k) taps refs)) :
    (releaseImage o m).areas[a]? = some (.image (some k) taps (refs - if (o.map (·.1)) = some a then 1 else 0)) := by
  cases o with
  | none => simpa [releaseImage] using ha
  | some c =>
    unfold releaseImage
    dsimp only
    rw [getElem?_modAt, ha]
    by_cases hc : a = c.1
    · simp [hc, settleImage]
    · simp [hc, Ne.symm hc]

theorem dropInst_count {k taps refs : Nat} (hi : a ∈ i.areas → ∃ a c d e f, i.proc = .cab a c d e f)
    (ha : m.areas[a]? = some (.image (some k) taps refs)) :
    (dropInst i m).areas[a]? = some (.image (some k) taps (refs - if readsArea a i then 1 else 0)) := by
  unfold dropInst readsArea
  cases hp : i.proc with
  | cab image miss hist gain phase =>
    dsimp only
    rw [releaseImage_count image ha]
    rcases image with _ | ⟨c, t⟩
    · simp
    · simp
  | _ =>
    dsimp only
    rw [getElem?_freeAreaList, if_neg (fun both => by simpa [hp] using hi both.1), ha]
    simp

theorem dropAll_count {k taps refs : Nat} (old : List Inst) (hi : ∀ i ∈ old, a ∈ i.areas → ∃ a c d e f, i.proc = .cab a c d e f)
    (ha : m.areas[a]? = some (.image (some k) taps refs)) :
    (dropAll old m).areas[a]? = some (.image (some k) taps (refs - (old.filter (readsArea a)).length)) := by
  induction old generalizing m refs with
  | nil => simpa [dropAll] using ha
  | cons i t ih =>
    have next := ih (fun j hj => hi j (List.mem_cons_of_mem _ hj)) (dropInst_count (hi i (List.mem_cons_self ..)) ha)
    have step : dropAll (i :: t) m = dropAll t (dropInst i m) := rfl
    rw [step, next, List.filter_cons]
    cases readsArea a i
    · simp
    · simp
      omega

theorem heldFrom_count {k taps refs : Nat} (n : Nat) (l : List Inst) (ha : m.areas[a]? = some (.image (some k) taps refs)) :
    (heldFrom n l m).areas[a]? = some (.image (some k) taps refs) := by
  induction l generalizing n m with
  | nil => exact ha
  | cons i t ih =>
    rw [heldFrom_cons]
    refine ih _ ?_
    rw [getElem?_reholdList, ha]
    split <;> rfl

theorem cabAreas_count {k taps refs : Nat} (hi : ∀ img c d e f, i.proc = .cab img c d e f → img = none)
    (ha : m.areas[a]? = some (.image (some k) taps refs)) :
    (cabAreas m i).areas[a]? = some (.image (some k) taps (refs + if willRead m.table a i then 1 else 0)) := by
  unfold cabAreas willRead
  cases hp : i.proc with
  | cab image miss hist gain phase =>
    rw [hi _ _ _ _ _ hp]
    dsimp only [releaseImage]
    unfold resolveImage
    cases ht : m.table.getD (parCur i 0).toNat none with
    | none => simpa using ha
    | some c =>
      dsimp only
      rw [getElem?_modAt, ha]
      by_cases hc : a = c.1
      · simp [hc]
      · simp [hc, Ne.symm hc]
  | _ => simpa using ha

theorem foldl_cabAreas_count {k taps refs : Nat} (l : List Inst)
    (hi : ∀ i ∈ l, ∀ img c d e f, i.proc = .cab img c d e f → img = none) (ha : m.areas[a]? = some (.image (some k) taps refs)) :
    (l.foldl cabAreas m).areas[a]? = some (.image (some k) taps (refs + (l.filter (willRead m.table a)).length)) := by
  induction l generalizing m refs with
  | nil => simpa using ha
  | cons i t ih =>
    have next := ih (fun j hj => hi j (List.mem_cons_of_mem _ hj)) (cabAreas_count (hi i (List.mem_cons_self ..)) ha)
    rw [(cabAreas_only m i).table] at next
    rw [List.foldl_cons, next, List.filter_cons]
    cases willRead m.table a i
    · simp
    · simp
      omega

theorem willRead_built (table : List (Option (Nat × Nat))) (tempo : Nat) (i : Inst) :
    willRead table a (buildLength tempo i) = willRead table a i := by
  cases hp : i.proc with
  | delay w d next held syn f cl =>
    rw [buildLength_delay tempo hp]
    split <;> simp [willRead, hp]
  | _ => rw [buildLength_other tempo (by simp [hp])]

/-! ## A lane over a frame (R21, R22) -/

/-- Is a lane's natural end due? -/
theorem laneNatural_rings {l : Lane} (hl : l.st = .feeding ∨ l.st = .ringing) : laneNatural l =
    if l.timer - 32 ≤ 0 ∨ (2048 ≤ l.quiet ∧ ∃ i, l.inst = some i ∧ i.stype = .delay) then { cutStarted l with timer := l.timer - 32 }
    else { l with timer := l.timer - 32 } := by
  have ends : (decide (l.timer - 32 ≤ 0) || ((l.inst.map fun i => i.stype == .delay).getD false && decide (2048 ≤ l.quiet))) = true ↔
      l.timer - 32 ≤ 0 ∨ (2048 ≤ l.quiet ∧ ∃ i, l.inst = some i ∧ i.stype = .delay) := by
    rw [Bool.or_eq_true, Bool.and_eq_true, decide_eq_true_iff, decide_eq_true_iff, and_comm (a := _ = true)]
    cases l.inst with
    | none => simp
    | some i => simp
  have cut : startCut { l with timer := l.timer - 32 } = { cutStarted l with timer := l.timer - 32 } :=
    startCut_rings (x := { l with timer := l.timer - 32 }) hl
  unfold laneNatural
  dsimp only
  rw [← cut]
  by_cases due : (decide (l.timer - 32 ≤ 0) || ((l.inst.map fun i => i.stype == .delay).getD false && decide (2048 ≤ l.quiet))) = true
  · rw [if_pos (ends.1 due), if_pos due]
    rcases hl with hl | hl <;> rw [hl]
  · rw [if_neg fun h => due (ends.2 h), if_neg due]
    rcases hl with hl | hl <;> rw [hl]

theorem laneNatural_empty {l : Lane} (hl : l.st = .empty) : laneNatural l = l := by
  unfold laneNatural
  rw [hl]

theorem laneNatural_cutting {l : Lane} (hl : l.st = .cutting) : laneNatural l = { l with timer := l.timer - 32 } := by
  unfold laneNatural
  rw [hl]

theorem peakOf_lt (y : Stereo) (n : Int) : peakOf y < n ↔ |y.1| < n ∧ |y.2| < n := by
  rw [peakOf, max_lt_iff, Int.abs_eq_natAbs, Int.abs_eq_natAbs]

theorem quietCount_append (q : Nat) (ys : List Stereo) (y : Stereo) : quietCount q (ys ++ [y]) =
    if |y.1| < 4096 ∧ |y.2| < 4096 then quietCount q ys + 1 else 0 := by
  unfold quietCount
  rw [List.foldl_append, List.foldl_cons, List.foldl_nil]
  exact if_congr (peakOf_lt y 4096) rfl rfl

/-! ## The figures of R18 -/

theorem sum_set {α : Type} (f : α → Nat) {l : List α} {k : Nat} {v w : α} (hk : l[k]? = some v) :
    ((l.set k w).map f).sum + f v = (l.map f).sum + f w := by
  induction l generalizing k with
  | nil => cases hk
  | cons u t ih =>
    cases k with
    | zero =>
      cases hk
      simp only [List.set_cons_zero, List.map_cons, List.sum_cons]
      omega
    | succ k =>
      have rest := ih (k := k) hk
      simp only [List.set_cons_succ, List.map_cons, List.sum_cons]
      omega

theorem totalCost_sum (x : State) : totalCost x =
    (x.tone.chain.map fun p => (p.inst.map instCost).getD 0).sum + (x.tone.lanes.map laneCost).sum := by
  rw [totalCost, liveCost, sumNat_eq_sum, sumNat_eq_sum]

theorem retime_cost (landing : Bool) (i : Inst) : instCost (retime landing i) = instCost i := by
  unfold retime
  split <;> rfl

theorem totalCost_move {len : Nat} {l : Fin 4} {y : Lane} (hy : x.tone.lanes[l.val]? = some y) (free : y.inst = none) :
    totalCost (takeMove pos l len x) = totalCost x := by
  cases hp : x.tone.chain[pos]? with
  | none => simp [takeMove, instAt, hp]
  | some p =>
    obtain ⟨t, o⟩ := p
    cases o with
    | none => simp [takeMove, instAt, hp]
    | some i =>
      by_cases go : (i.stype = .delay ∨ i.stype = .reverb) ∧ (laneOf x l.val).st = .empty
      · have chain := sum_set (fun p : Position => (p.inst.map instCost).getD 0) (w := ⟨t, none⟩) hp
        have lanes := sum_set laneCost (w := ⟨.feeding, some (retime false i), pos, true, ⟨32768, 0, if len = 0 then 1 else len⟩,
          .rest x.tone.chainGain.cur, parCur i (if i.stype = .delay then 5 else 4) * 4800, 0⟩) hy
        rw [takeMove_moves hp go.1 go.2, totalCost_sum, totalCost_sum]
        simp only [laneCost, free, Option.map_none, Option.getD_none, Option.map_some, Option.getD_some, retime_cost] at chain lanes ⊢
        omega
      · rw [takeMove_stays hp (by tauto)]

theorem totalCost_evict (l : Nat) : totalCost (onLane l startCut x) = totalCost x := by
  cases hy : x.tone.lanes[l]? with
  | none =>
    have same : modAt x.tone.lanes l startCut = x.tone.lanes := by simp [modAt, hy]
    rw [totalCost_sum, totalCost_sum, onLane, onTone_tone, same]
  | some y =>
    have lanes := sum_set laneCost (w := startCut y) hy
    have cost : laneCost (startCut y) = laneCost y := by rw [laneCost, laneCost, startCut_inst]
    rw [onLane_some hy, totalCost_sum, totalCost_sum]
    dsimp only
    omega

theorem mem_figures_lanes {k c : Nat} {st : LaneState} : (k, st, c) ∈ (figures x).lanes ↔
    ∃ y, x.tone.lanes[k]? = some y ∧ y.st ≠ .empty ∧ st = y.st ∧ c = laneCost y := by
  show (k, st, c) ∈ (indicesFrom occupied 0 x.tone.lanes).map (fun l => (l, (laneOf x l).st, laneCost (laneOf x l))) ↔ _
  simp only [List.mem_map, mem_indicesFrom, Prod.mk.injEq]
  constructor
  · rintro ⟨_, ⟨r, y, hy, busy, rfl⟩, rfl, rfl, rfl⟩
    rw [Nat.zero_add] at *
    exact ⟨y, hy, by simpa [occupied] using busy, by rw [laneOf_some hy], by rw [laneOf_some hy]⟩
  · rintro ⟨y, hy, busy, rfl, rfl⟩
    exact ⟨k, ⟨k, y, hy, by simpa [occupied] using busy, by omega⟩, rfl, by rw [laneOf_some hy], by rw [laneOf_some hy]⟩

/-! ## The immediate cut of four lanes (R24) -/

theorem flatMap_occupied (lanes : List Lane) : ((lanes.filter (·.st != .empty)).filterMap (·.inst)).flatMap (·.areas) =
    lanes.flatMap fun y => if occupied y then (y.inst.map (·.areas)).getD [] else [] := by
  induction lanes with
  | nil => rfl
  | cons y t ih =>
    rw [List.flatMap_cons, ← ih]
    cases busy : y.st != .empty with
    | false =>
      rw [List.filter_cons_of_neg (p := fun l : Lane => l.st != .empty) (by rw [busy]; decide), if_neg (by rw [occupied, busy]; decide)]
      rfl
    | true =>
      rw [List.filter_cons_of_pos (p := fun l : Lane => l.st != .empty) busy, if_pos (show occupied y = true from busy)]
      cases hi : y.inst with
      | none => rw [List.filterMap_cons_none hi]; rfl
      | some i => rw [List.filterMap_cons_some hi]; rfl

theorem cutHeld_four (h : x.tone.lanes.length = 4) : [0, 1, 2, 3].flatMap (cutHeld x) =
    ((x.tone.lanes.filter (·.st != .empty)).filterMap (·.inst)).flatMap (·.areas) := by
  rw [flatMap_occupied]
  unfold cutHeld laneOf
  obtain ⟨l0, l1, l2, l3, hl⟩ := List.length_eq_four.1 h
  rw [hl]
  simp [List.flatMap_cons]

/-- Does the cut leave lane `k` its place in the orders? -/
def staysEmpty (x : State) (k : Nat) : Bool := (x.tone.lanes.getD k Lane.clear).st == .empty

theorem takeCutAll_lanes (h : x.tone.lanes.length = 4) : takeCutAll x = { x with
      area := freeAreaList (((x.tone.lanes.filter (·.st != .empty)).filterMap (·.inst)).flatMap (·.areas)) x.area
      tone := { x.tone with
        lanes := x.tone.lanes.map fun y => if y.st = .empty then y else Lane.clear
        order := x.tone.order.filter (staysEmpty x) }
      sw := { x.sw with laneReports := [], inflight := x.sw.inflight.map fun f =>
        { f with deferred := [], evicting := f.evicting.filter (staysEmpty x) } } } := by
  have kept : outlives x [0, 1, 2, 3] = staysEmpty x := funext fun k => outlives_four h k
  rw [takeCutAll_eq, lanesCut, kept, cutHeld_four h, cutLanes_four h, onSw]
  dsimp only
  rw [Option.map_map]
  rfl

/-- A slot unit that is no CAB. -/
theorem cabResolved_other (table : List (Option (Nat × Nat))) (hc : ∀ a c d e f, i.proc ≠ .cab a c d e f) :
    cabResolved table i = i := by
  unfold cabResolved
  split
  · next hp => exact absurd hp (hc _ _ _ _ _)
  · rfl

theorem cabAreas_other (hc : ∀ a c d e f, i.proc ≠ .cab a c d e f) (m : AreaMan) : cabAreas m i = m := by
  unfold cabAreas
  split
  · next hp => exact absurd hp (hc _ _ _ _ _)
  · rfl

theorem foldl_cabAreas_other {l : List Inst} (hc : ∀ i ∈ l, ∀ a c d e f, i.proc ≠ .cab a c d e f) (m : AreaMan) :
    l.foldl cabAreas m = m := by
  induction l generalizing m with
  | nil => rfl
  | cons i t ih => rw [List.foldl_cons, cabAreas_other (hc i (List.mem_cons_self ..)), ih fun j hj => hc j (List.mem_cons_of_mem _ hj)]

theorem rebuiltAreas_uncabbed {insts : List Inst} (hc : ∀ i ∈ x.tone.chain.filterMap (·.inst) ++ insts,
    ∀ a c d e f, i.proc ≠ .cab a c d e f) : rebuiltAreas insts x = ((List.range insts.length).zip insts).foldl
      (fun m p => reholdList (.live p.1) p.2.areas m)
        (freeAreaList ((x.tone.chain.filterMap (·.inst)).flatMap (·.areas)) x.area) := by
  have built : ∀ i ∈ builtOf insts x, ∀ a c d e f, i.proc ≠ .cab a c d e f := by
    intro i hi
    obtain ⟨j, hj, rfl⟩ := List.mem_map.1 hi
    exact fun a c d e f hp => hc j (List.mem_append_right _ hj) _ _ _ _ _ (buildLength_cab.1 hp)
  have old : dropAll (x.tone.chain.filterMap (·.inst)) x.area =
      freeAreaList ((x.tone.chain.filterMap (·.inst)).flatMap (·.areas)) x.area :=
    foldl_dropInst (fun i hi => hc i (List.mem_append_left _ hi)) _
  rw [rebuiltAreas, foldl_cabAreas_other built, old, heldFrom_eq, List.range_eq_range']

theorem rebuiltAreas_count {insts : List Inst} {k taps refs : Nat} (ha : x.area.areas[a]? = some (.image (some k) taps refs))
    (ho : ∀ i ∈ x.tone.chain.filterMap (·.inst), a ∈ i.areas → ∃ a c d e f, i.proc = .cab a c d e f)
    (hn : ∀ i ∈ insts, ∀ img c d e f, i.proc = .cab img c d e f → img = none) :
    (rebuiltAreas insts x).areas[a]? = some (.image (some k) taps
      (refs - ((x.tone.chain.filterMap (·.inst)).filter (readsArea a)).length +
        (insts.filter (willRead x.area.table a)).length)) := by
  have built : ∀ i ∈ builtOf insts x, ∀ img c d e f, i.proc = .cab img c d e f → img = none := by
    intro i hi img c d e f hp
    obtain ⟨j, hj, rfl⟩ := List.mem_map.1 hi
    exact hn j hj _ _ _ _ _ (buildLength_cab.1 hp)
  have table : (heldFrom 0 insts (dropAll (x.tone.chain.filterMap (·.inst)) x.area)).table = x.area.table :=
    ((dropAll_only _ _).trans (heldFrom_only _ _ _)).table
  have same : ((builtOf insts x).filter (willRead x.area.table a)).length = (insts.filter (willRead x.area.table a)).length := by
    have keep : willRead x.area.table a ∘ buildLength x.clk.tempo = willRead x.area.table a :=
      funext fun i => willRead_built _ _ i
    rw [builtOf, List.filter_map, List.length_map, keep]
  rw [rebuiltAreas, foldl_cabAreas_count _ built (heldFrom_count 0 insts (dropAll_count _ ho ha)), table, same]

/-- Settles O21: the cut fades, what each change of R2 does to lanes, areas and chain, the lane's frame, and the figures. -/
theorem lanesEndByTheirCutFade : Obligations.LanesEndByTheirCutFade := by
  unfold Obligations.LanesEndByTheirCutFade
  intro cutting line areasOf
  refine ⟨fun l x s hl hx => ?_, fun l x s hl hx => ?_, fun h l m a => ?_, fun b pos len l x => ?_,
    fun b x h4 => ?_, fun b x => ?_, fun b insts x => ?_, fun l => ?_, fun ins dram free l => ?_, fun q ys y => ?_, fun x => ?_⟩
  · intro y cut rings
    have timer := exec_tailTimerExpiry hl l
    have quiet := exec_laneQuiet hl l
    have hy : prelude s = y := rfl
    clear_value y
    rw [hy] at timer quiet hx
    have starts : ∀ f : Lane → Lane, rings → f x = startCut x → onLane l.val f y = cut := fun f hr hf =>
      (onLane_some hx).trans (by rw [hf, startCut_rings hr]; rfl)
    have rests : ¬ rings → startCut x = x := startCut_rests
    refine ⟨fun hr soon => ?_, fun out => ?_, fun i hi delay hr long => ?_, fun out => ?_, fun i hi other => ?_⟩
    · rw [timer, starts tailTimerEnd hr (if_pos soon)]
    · rw [timer, onLane_same hx]
      unfold tailTimerEnd
      split
      · next soon => exact rests (out.resolve_right (by omega))
      · rfl
    · rw [quiet, starts quietEnd hr (if_pos ⟨by rw [hi, Option.map_some, delay]; rfl, long⟩)]
    · rw [quiet, onLane_same hx]
      unfold quietEnd
      split
      · next long => exact rests (out.resolve_right (by omega))
      · rfl
    · rw [quiet, onLane_same hx]
      exact if_neg fun both => by simp [hi, other] at both
  · intro due
    have row : exec (.cutFadeEnd l) s = .next (cutFadeStep l.val s) := inside_live hl _
    refine ⟨fun early => ?_, fun h => ?_⟩
    · rw [row, cutFadeStep, laneOf_some hx, if_neg fun h => early ((cutDue_iff x).1 h)]
    · rw [row, cutFadeStep_due hx ((cutDue_iff x).2 h)]
  · refine ⟨freeAreaList_only l m, reholdList_only h l m, fun ha lt => ?_, fun ha => ⟨?_, ?_⟩, fun g r k hg ha => ?_, fun g hg other => ?_⟩
    · rw [getElem?_freeAreaList, if_pos ⟨ha, lt⟩]
    · rw [getElem?_freeAreaList, if_neg fun both => ha both.1]
    · rw [getElem?_reholdList, if_neg ha]
    · rw [getElem?_reholdList, if_pos ha, hg]
      rfl
    · have same : heldBy h g = g := heldBy_other fun k r n hk => other k r n (hk ▸ hg)
      rw [getElem?_reholdList, hg, Option.map_some, same, ite_self]
  · intro y
    refine ⟨fun t i hi => ⟨takeMove_moves hi, takeMove_stays hi⟩, fun rings => ?_, fun rests => ?_⟩
    · have there : ∃ v, x.tone.lanes[l.val]? = some v ∧ v = y := by
        cases hv : x.tone.lanes[l.val]? with
        | none =>
          have empty : y = Lane.clear := by rw [show y = laneOf x l.val from rfl, laneOf, List.getD_eq_getElem?_getD, hv]; rfl
          rw [empty] at rings
          rcases rings with h | h <;> cases h
        | some v => exact ⟨v, rfl, (laneOf_some hv).symm⟩
      obtain ⟨v, hv, rfl⟩ := there
      exact (onLane_some hv).trans (by rw [startCut_rings rings]; rfl)
    · show onLane l.val startCut x = x
      cases hv : x.tone.lanes[l.val]? with
      | none =>
        have same : modAt x.tone.lanes l.val startCut = x.tone.lanes := by simp [modAt, hv]
        rw [onLane, onTone, same]
      | some v =>
        have hy : y = v := laneOf_some hv
        refine onLane_same hv (startCut_rests ?_)
        rw [← hy]
        rcases rests with h | h <;> simp [h]
  · exact takeCutAll_lanes h4
  · exact takeDrop_eq
  · intro z old cab images tempo
    have hz : z = takeRebuild insts x := rfl
    clear_value z
    have whole := hz.trans (takeRebuild_live insts x)
    have area : z.area = rebuiltAreas insts x := by rw [whole]
    refine ⟨?_, ?_, ?_, fun k i hk => ?_, fun none_ => ?_, fun a k taps refs ha ho hn => ?_⟩
    · rw [area, ← rebuiltAreas_only]
      rw [whole]
    · rw [whole]
      simp [builtOf]
    · rw [whole]
      simp
    · intro at_ synced
      have chain := getElem?_chain_rebuilt insts x k hk
      have handed := fun h12 : k < 12 => getElem?_handed_rebuilt insts x hk h12
      rw [← hz] at chain handed
      have put : ∀ (p : Proc) (n : Option Nat), cabResolved x.area.table (buildLength x.clk.tempo i) = { i with proc := p } →
          builtHanded (buildLength x.clk.tempo i) = n → at_ p ∧ synced n := fun p n hp hn =>
        ⟨chain.trans (by rw [hp]), fun h12 => by rw [← hn]; exact handed h12⟩
      refine ⟨fun w d next held syn f cl hp => ?_, fun img miss hist g ph hp => ?_, fun notCab notDelay => ?_⟩
      · intro n cap
        have length := buildLength_delay x.clk.tempo hp
        refine ⟨fun off => ?_, fun on => ?_⟩
        · rw [if_neg off, Int.mul_comm] at length
          exact put _ _ (by rw [length]; rfl) (by rw [length]; rfl)
        · rw [if_pos on] at length
          have least : min n cap = if cap < n then cap else n := by split <;> omega
          rw [← least]
          exact put _ _ (by rw [length]; rfl) (by rw [length]; rfl)
      · refine put _ _ ?_ ?_ <;> rw [buildLength_ofCab hp]
        · rw [cabResolved, hp]
        · rw [builtHanded, hp]
      · refine put _ _ ?_ ?_ <;> rw [buildLength_other _ notDelay]
        · exact cabResolved_other _ fun a c d e f hp => notCab ⟨_, _, _, _, _, hp⟩
        · unfold builtHanded
          split
          · next hp => exact absurd hp (notDelay _ _ _ _ _ _ _)
          · rfl
    · rw [area]
      exact rebuiltAreas_uncabbed fun i hi a c d e f hp => none_ i hi ⟨_, _, _, _, _, hp⟩
    · intro reads will
      rw [area, rebuiltAreas_count ha ho hn]
      have reads_ : readsArea a = reads := by
        funext i
        unfold readsArea
        cases hp : i.proc <;> simp only [reads, hp] <;> rfl
      have will_ : willRead x.area.table a = will := by
        funext i
        unfold willRead
        cases hp : i.proc <;> simp only [will, hp] <;> rfl
      rw [reads_, will_]
  · refine ⟨laneNatural_empty, laneNatural_cutting, fun rings early => ?_, fun rings due => ?_⟩
    · rw [laneNatural_rings rings, if_neg early]
    · rw [laneNatural_rings rings, if_pos due]
      rfl
  · intro silent ended
    refine ⟨fun out => ?_, fun i hi running => ?_⟩
    · unfold runLane
      cases hi : l.inst with
      | none => rfl
      | some i => exact if_pos (out.resolve_left (by rw [hi]; simp))
    · intro xs r
      unfold runLane
      rw [hi]
      exact if_neg running
  · exact ⟨rfl, quietCount_append q ys y⟩
  · intro costOf held chain lanes f
    refine ⟨?_, ?_, ?_, ?_, fun k st c => ?_, ?_, fun b pos len l y hy free => totalCost_move hy free,
      fun b l => totalCost_evict l.val, fun l y hl hy hs hn hc => ?_⟩
    · show liveCost x = _
      rw [liveCost, sumNat_eq_sum, List.map_map]
      rfl
    · show totalCost x = liveCost x + _
      rw [totalCost, sumNat_eq_sum, List.map_map]
      rfl
    · show List.map _ _ = List.map _ (List.map _ _)
      rw [List.map_map]
      rfl
    · show List.map _ _ = List.map _ (List.map _ _)
      rw [List.map_map]
      rfl
    · exact mem_figures_lanes
    · show (List.map _ (List.map _ _)).Pairwise _
      rw [List.map_map]
      exact (List.map_id _).symm ▸ indicesFrom_pairwise _ _ _
    · have row : exec (.cutFadeEnd l) x = .next (cutFadeStep l.val x) := inside_live hl _
      have cost := sum_set laneCost (w := Lane.clear) hy
      refine ⟨_, row, ?_⟩
      rw [cutFadeStep_due hy ((cutDue_iff y).2 ⟨hs, hn, hc⟩), totalCost_sum, totalCost_sum]
      have clear : laneCost Lane.clear = 0 := rfl
      have out : costOf y.inst = laneCost y := rfl
      rw [clear] at cost
      rw [out]
      dsimp only
      omega

end Sys2Proof.Frame
end

section
/-! The ends and the beginnings of fades (R2, R3, R6 to R10, R14, R15, R21): cross-fades, gate, resolve fade, and each change taken
up at a position. -/

namespace Sys2Proof.Frame

open Sys2Proof Sys2Proof.Machine

variable {s x y z : State} {i j : Inst} {m : AreaMan} {b : Bool} {pos : Nat} {t : SlotType}

/-! ## The end of a cross-fade (R14, R15) -/

theorem endCrossFade_delay {w d n held syn f cl} (hp : i.proc = .delay w d (some n) held syn f cl) : endCrossFade i =
    if held = none ∨ held = some n then { i with proc := .delay w n none none syn (.rest 0) cl }
    else { i with
      proc := .delay w n held none syn ⟨0, 32768, 8⟩ (decide (parCur i 1 = 1 ∧ delayCap i.lclass < syn.getD 0)) } := by
  unfold endCrossFade
  rw [hp]
  cases held with
  | none => rfl
  | some h =>
    dsimp only
    by_cases same : h = n
    · rw [if_pos same, if_pos (.inr (congrArg some same))]
    · rw [if_neg same, if_neg (by simpa using same)]

theorem endCrossFade_reverb {z n held f} (hp : i.proc = .reverb z (some n) held f) : endCrossFade i =
    if held = none ∨ held = some n then { i with proc := .reverb n none none (.rest 0) }
    else { i with proc := .reverb n held none ⟨0, 32768, 8⟩ } := by
  unfold endCrossFade
  rw [hp]
  cases held with
  | none => rfl
  | some h =>
    dsimp only
    by_cases same : h = n
    · rw [if_pos same, if_pos (.inr (congrArg some same))]
    · rw [if_neg same, if_neg (by simpa using same)]

theorem crossFadeDone_other (delay : ∀ w d n held syn f cl, i.proc ≠ .delay w d (some n) held syn f cl)
    (reverb : ∀ z n held f, i.proc ≠ .reverb z (some n) held f) : crossFadeDone i = false := by
  unfold crossFadeDone
  split
  · next hp => exact absurd hp (delay _ _ _ _ _ _ _)
  · next hp => exact absurd hp (reverb _ _ _ _)
  · rfl

/-- The end of a cross-fade wherever the slot unit stands: `put` puts back the slot unit with another process. -/
theorem crossFade_ends {c : Instr} {put : Proc → State} {step : State} (row : exec c s = .next step)
    (ends : crossFadeDone i = true → step = put (endCrossFade i).proc) (stays : crossFadeDone i = false → step = s) :
    (∀ w d n held syn f cl, i.proc = .delay w d (some n) held syn f cl →
      (f.n ≠ 0 → exec c s = .next s) ∧
      (f.n = 0 → held = none ∨ held = some n → exec c s = .next (put (.delay w n none none syn (.rest 0) cl))) ∧
      (∀ h, f.n = 0 → held = some h → h ≠ n → exec c s = .next (put (.delay w n (some h) none syn ⟨0, 32768, 8⟩
        (decide (parCur i 1 = 1 ∧ delayCap i.lclass < syn.getD 0)))))) ∧
    (∀ z n held f, i.proc = .reverb z (some n) held f →
      (f.n ≠ 0 → exec c s = .next s) ∧
      (f.n = 0 → held = none ∨ held = some n → exec c s = .next (put (.reverb n none none (.rest 0)))) ∧
      (∀ h, f.n = 0 → held = some h → h ≠ n → exec c s = .next (put (.reverb n (some h) none ⟨0, 32768, 8⟩)))) ∧
    ((∀ w d n held syn f cl, i.proc ≠ .delay w d (some n) held syn f cl) →
      (∀ z n held f, i.proc ≠ .reverb z (some n) held f) → exec c s = .next s) := by
  rw [row]
  refine ⟨fun w d n held syn f cl hp => ?_, fun z n held f hp => ?_, fun delay reverb =>
    congrArg _ (stays (crossFadeDone_other delay reverb))⟩
  · have done : crossFadeDone i = (f.n == 0) := by rw [crossFadeDone, hp]
    refine ⟨fun runs => ?_, fun rest none_ => ?_, fun h rest hh new => ?_⟩
    · rw [stays (by simpa [done] using runs)]
    · rw [ends (by simpa [done] using rest), endCrossFade_delay hp, if_pos none_]
    · rw [ends (by simpa [done] using rest), endCrossFade_delay hp, hh, if_neg (by simpa using new)]
  · have done : crossFadeDone i = (f.n == 0) := by rw [crossFadeDone, hp]
    refine ⟨fun runs => ?_, fun rest none_ => ?_, fun h rest hh new => ?_⟩
    · rw [stays (by simpa [done] using runs)]
    · rw [ends (by simpa [done] using rest), endCrossFade_reverb hp, if_pos none_]
    · rw [ends (by simpa [done] using rest), endCrossFade_reverb hp, hh, if_neg (by simpa using new)]

/-- The end of a cross-fade changes the process alone. -/
theorem endCrossFade_proc (i : Inst) : endCrossFade i = { i with proc := (endCrossFade i).proc } := by
  unfold endCrossFade
  split
  · split <;> rfl
  · split <;> rfl
  · rfl

theorem resolveImage_none {k : Nat} (ht : m.table.getD k none = none) : (resolveImage k m).2 = m := by rw [resolveImage, ht]

theorem resolveImage_some {k a taps n ref : Nat} {sl : Option Nat} (ht : m.table.getD k none = some (a, n))
    (ha : m.areas[a]? = some (.image sl taps ref)) :
    (resolveImage k m).2 = { m with areas := m.areas.set a (.image sl taps (ref + 1)) } := by
  rw [resolveImage, ht]
  dsimp only
  rw [modAt_some ha]

/-! ## Gate and resolve fade at a position (R8, R10) -/

section
variable (hi : x.tone.chain[pos]? = some ⟨t, some i⟩)
include hi

theorem gateClosedStep_closing {g : Ramp} {peak : Int} (hp : i.proc = .gate g peak .closing) : gateClosedStep pos x =
    if g.cur = 0 ∧ g.n = 0 then instPut pos t { i with proc := .gate g peak .closed } x else x := by
  unfold gateClosedStep
  rw [instAt_of hi]
  dsimp only
  rw [hp]
  dsimp only
  rw [setInst_of hi]

theorem gateClosedStep_stays {g : Ramp} {peak : Int} {st : GateState} (hp : i.proc = .gate g peak st) (hs : st ≠ .closing) :
    gateClosedStep pos x = x := by
  unfold gateClosedStep
  rw [instAt_of hi]
  dsimp only
  rw [hp]
  cases st with
  | closing => exact absurd rfl hs
  | _ => rfl

theorem cabResolve_cab {keep : Nat} {gain : Ramp} {phase : ResolvePhase} {img miss hist g ph}
    (hp : i.proc = .cab img miss hist g ph) : cabResolve pos keep gain phase x =
      let read := x.area.table.getD (parCur i 0).toNat none
      { instPut pos t { i with proc := .cab read read.isNone (hist.take keep) gain phase } x with
        area := (resolveImage (parCur i 0).toNat (releaseImage img x.area)).2 } := by
  unfold cabResolve
  rw [instAt_of hi]
  dsimp only
  rw [hp]
  dsimp only
  rw [resolveImage_fst, (releaseImage_only img x.area).table]
  exact setInst_of (x := { x with area := (resolveImage (parCur i 0).toNat (releaseImage img x.area)).2 }) hi _

theorem cabResolve_none {keep : Nat} {gain : Ramp} {phase : ResolvePhase} {img miss hist g ph}
    (hp : i.proc = .cab img miss hist g ph) (ht : x.area.table.getD (parCur i 0).toNat none = none) :
    cabResolve pos keep gain phase x =
      { instPut pos t { i with proc := .cab none true (hist.take keep) gain phase } x with area := releaseImage img x.area } := by
  have area : (resolveImage (parCur i 0).toNat (releaseImage img x.area)).2 = releaseImage img x.area := by
    exact resolveImage_none (by rw [(releaseImage_only img x.area).table, ht])
  rw [cabResolve_cab hi hp, area, ht]
  rfl

theorem cabResolve_some {keep : Nat} {gain : Ramp} {phase : ResolvePhase} {img miss hist g ph a taps k ref}
    (hp : i.proc = .cab img miss hist g ph) (ht : x.area.table.getD (parCur i 0).toNat none = some (a, taps))
    (ha : (releaseImage img x.area).areas[a]? = some (.image k taps ref)) :
    cabResolve pos keep gain phase x =
      { instPut pos t { i with proc := .cab (some (a, taps)) false (hist.take keep) gain phase } x with
        area := { releaseImage img x.area with areas := (releaseImage img x.area).areas.set a (.image k taps (ref + 1)) } } := by
  have area : (resolveImage (parCur i 0).toNat (releaseImage img x.area)).2 =
      { releaseImage img x.area with areas := (releaseImage img x.area).areas.set a (.image k taps (ref + 1)) } := by
    exact resolveImage_some (by rw [(releaseImage_only img x.area).table, ht]) ha
  rw [cabResolve_cab hi hp, area, ht]
  rfl

theorem weightZero_eq : weightZero pos x = if weightZeroDue i then
    (match i.proc with
      | .cab _ _ _ _ .falling => cabResolve pos 0 (.rest 32768) .steady x
      | .cab image miss hist _ _ => instPut pos t { i with proc := .cab image miss hist (.rest 32768) .steady } x
      | _ => x)
    else x := by
  unfold weightZero
  rw [instAt_of hi]
  dsimp only
  split
  · cases hp : i.proc with
    | cab img miss hist g ph =>
      cases ph with
      | falling => rfl
      | _ => exact setInst_of hi _
    | _ => rfl
  · rfl

theorem weightZero_stays (h : i.weight.cur ≠ 0 ∨ i.weight.n ≠ 0) : weightZero pos x = x := by
  have early : weightZeroDue i = false := by
    unfold weightZeroDue
    split
    · rcases h with h | h <;> simp [h]
    · rfl
  rw [weightZero_eq hi, early, if_neg (by decide)]

theorem weightZero_falling {img miss hist g} (hp : i.proc = .cab img miss hist g .falling) (hc : i.weight.cur = 0)
    (hn : i.weight.n = 0) : weightZero pos x = cabResolve pos 0 (.rest 32768) .steady x := by
  have due : weightZeroDue i = true := by simp [weightZeroDue, hp, hc, hn]
  rw [weightZero_eq hi, if_pos due, hp]

theorem weightZero_rising {img miss hist g ph} (hp : i.proc = .cab img miss hist g ph) (ne : ph ≠ .falling) (hc : i.weight.cur = 0)
    (hn : i.weight.n = 0) (hg : g.n ≠ 0) :
    weightZero pos x = instPut pos t { i with proc := .cab img miss hist (.rest 32768) .steady } x := by
  have due : weightZeroDue i = true := by simp [weightZeroDue, hp, hc, hn, hg]
  rw [weightZero_eq hi, if_pos due, hp]
  cases ph with
  | falling => exact absurd rfl ne
  | _ => rfl

theorem resolveFadeStep_falling {img miss hist g} (hp : i.proc = .cab img miss hist g .falling) : resolveFadeStep pos x =
    if g.cur = 0 ∧ g.n = 0 then cabResolve pos (if present x then 32 else 0) ⟨0, 32768, 4⟩ .rising x else x := by
  unfold resolveFadeStep
  rw [instAt_of hi]
  dsimp only
  rw [hp]

theorem resolveFadeStep_stays {img miss hist g ph} (hp : i.proc = .cab img miss hist g ph) (ne : ph ≠ .falling) :
    resolveFadeStep pos x = x := by
  unfold resolveFadeStep
  rw [instAt_of hi]
  dsimp only
  rw [hp]
  cases ph with
  | falling => exact absurd rfl ne
  | _ => rfl

end

theorem crossFadeStep_live (hi : x.tone.chain[pos]? = some ⟨t, some i⟩) : crossFadeStep (.live pos) x =
    if crossFadeDone i then instPut pos t (endCrossFade i) x else x := by
  unfold crossFadeStep
  dsimp only
  rw [instAt_of hi]
  dsimp only
  rw [setInst_of hi]

theorem crossFadeStep_lane {l : Fin 4} {y : Lane} (hy : x.tone.lanes[l.val]? = some y) (hi : y.inst = some i) :
    crossFadeStep (.lane l) x = if crossFadeDone i then
      { x with tone := { x.tone with lanes := x.tone.lanes.set l.val { y with inst := some (endCrossFade i) } } } else x := by
  unfold crossFadeStep
  dsimp only
  rw [laneOf_some hy, hi]
  dsimp only
  rw [onTone, modAt_some hy]

/-! ## D and the size are formed anew (R14, R15) -/

theorem retarget_none {α : Type} [DecidableEq α] (landing : Bool) (d : α) (next held : Option α) (fade : Ramp) :
    retarget landing d next held fade none = (d, next, held, fade) := rfl

theorem retarget_new {α : Type} [DecidableEq α] {d : α} {held : Option α} {fade : Ramp} {v : α} (h : v ≠ aimOf d none held) :
    retarget false d none held fade (some v) = (d, some v, none, ⟨0, 32768, 8⟩) := if_neg h

theorem retarget_held {α : Type} [DecidableEq α] {d n : α} {held : Option α} {fade : Ramp} {v : α}
    (h : v ≠ aimOf d (some n) held) : retarget false d (some n) held fade (some v) =
      (d, some n, (if v = n then none else some v), fade) := if_neg h

/-- The length that a DELAY goes to; none with sync on and no length handed yet. -/
def delayWants (i : Inst) (syn : Option Nat) : Option Nat :=
  if parCur i 1 = 1 then syn.map fun n => if delayCap i.lclass < n then delayCap i.lclass else n
  else some (48 * parCur i 0).toNat

/-- Is a DELAY's length cut to the greatest? -/
def delayCapped (i : Inst) (syn : Option Nat) (cl : Bool) : Bool :=
  if parCur i 1 = 1 then (syn.map fun n => decide (delayCap i.lclass < n)).getD cl else false

theorem retime_delay {w d next held syn f cl} (hp : i.proc = .delay w d next held syn f cl) : retime b i =
    let r := retarget b d next held f (delayWants i syn)
    let capped := if r.2.2.1.isSome then cl else delayCapped i syn cl
    { i with proc := .delay w r.1 r.2.1 r.2.2.1 (if parCur i 1 = 1 then syn else none) r.2.2.2 capped } := by
  have least : ∀ n, min n (delayCap i.lclass) = if delayCap i.lclass < n then delayCap i.lclass else n := fun n => by
    split <;> omega
  unfold retime delayWants delayCapped
  rw [hp]
  dsimp only
  rw [Int.mul_comm (parCur i 0) 48]
  cases syn with
  | none => rfl
  | some n => simp only [Option.map_some, Option.getD_some, least]

theorem retime_reverb {z next held f} (hp : i.proc = .reverb z next held f) : retime b i =
    let r := retarget b z next held f (some (parCur i 0))
    { i with proc := .reverb r.1 r.2.1 r.2.2.1 r.2.2.2 } := by
  unfold retime
  rw [hp]

theorem retime_other (delay : ∀ w d next held syn f cl, i.proc ≠ .delay w d next held syn f cl)
    (reverb : ∀ z next held f, i.proc ≠ .reverb z next held f) : retime b i = i := by
  unfold retime
  split
  · next hp => exact absurd hp (delay _ _ _ _ _ _ _)
  · next hp => exact absurd hp (reverb _ _ _ _)
  · rfl

/-! ## A change taken up at a position (R2, R3, R6) -/

theorem setsLength_iff (ty : SlotType) (idx : Nat) :
    setsLength ty idx = true ↔ (ty = .delay ∧ idx ≤ 1) ∨ (ty = .reverb ∧ idx = 0) := by simp [setsLength]

theorem deriveParam_proc (idx : Nat) (v : Int) (j : Inst) : deriveParam idx v j = { j with proc := (deriveParam idx v j).proc } := by
  unfold deriveParam
  split
  · split
    · rfl
    · split <;> rfl
  · split <;> rfl
  · rfl

theorem deriveParam_plain {idx : Nat} {v : Int} (comp : ∀ e a r, j.proc ≠ .comp e a r)
    (amp : ∀ a c d e f g, j.proc ≠ .amp a c d e f g) : deriveParam idx v j = j := by
  unfold deriveParam
  split
  · next hp => exact absurd hp (comp _ _ _)
  · next hp => exact absurd hp (amp _ _ _ _ _ _)
  · rfl

theorem deriveParam_comp {idx : Nat} {v e a r : Int} (hp : j.proc = .comp e a r) : deriveParam idx v j =
    { j with proc := .comp e (if idx = 2 then compCoeff v else a) (if idx = 3 then compCoeff v else r) } := by
  have same : { j with proc := .comp e a r } = j := by rw [← hp]
  unfold deriveParam
  rw [hp]
  dsimp only
  by_cases two : idx = 2
  · rw [if_pos two, if_pos two, if_neg (by omega)]
  · by_cases three : idx = 3
    · rw [if_neg two, if_neg two, if_pos three, if_pos three]
    · rw [if_neg two, if_neg two, if_neg three, if_neg three, same]

theorem deriveParam_amp {idx : Nat} {v : Int} {tb sets co hl hr e} (hp : j.proc = .amp tb sets co hl hr e) : deriveParam idx v j =
    let tones := if 1 ≤ idx ∧ idx ≤ 3 then co.set (idx - 1) (ampTone sets (idx - 1) v.toNat) else co
    { j with proc := .amp tb sets tones hl hr e } := by
  have same : { j with proc := .amp tb sets co hl hr e } = j := by rw [← hp]
  unfold deriveParam
  rw [hp]
  dsimp only
  by_cases tone : 1 ≤ idx ∧ idx ≤ 3
  · rw [if_pos tone, if_pos tone]
  · rw [if_neg tone, if_neg tone, same]

/-- A parameter's ramp once a value is taken up: a level parameter goes there over 8 frames, or lands in a clock loss; another
steps. -/
def paramRamp (b : Bool) (q : ParamSpec) (r : Ramp) (w : Int) : Ramp :=
  if q.level = true ∧ b = false then ⟨r.cur, w, 8⟩ else ⟨w, w, 0⟩

theorem setParamValue_some {idx : Nat} {v : Int} {q : ParamSpec} (hq : (paramSpecs i.stype i.lclass)[idx]? = some q) :
    setParamValue b idx v i =
      let w := if v < q.lo then q.lo else if q.hi < v then q.hi else v
      deriveParam idx w { i with params := i.params.set idx (paramRamp b q (i.params.getD idx (.rest 0)) w) } := by
  have ramp : ∀ w, (if q.level then rampGo b (i.params.getD idx (.rest 0)) w 8 else .rest w) =
      paramRamp b q (i.params.getD idx (.rest 0)) w := by
    intro w
    unfold paramRamp rampGo
    cases q.level <;> cases b <;> rfl
  unfold setParamValue
  rw [hq]
  dsimp only
  rw [clampInt_ite (paramSpecs_ordered _ _ _ (List.mem_of_getElem? hq)), ramp]

theorem setParamValue_none {idx : Nat} {v : Int} (hq : (paramSpecs i.stype i.lclass)[idx]? = none) :
    setParamValue b idx v i = i := by rw [setParamValue, hq]

/-- Every parameter that D, the size or the image is formed from is listed. -/
theorem paramSpecs_none {ty : SlotType} {c : LengthClass} {idx : Nat} (h : (paramSpecs ty c)[idx]? = none) :
    setsLength ty idx = false ∧ ¬ (ty = .cab ∧ idx = 0) ∧ ¬ (ty = .delay ∧ idx = 1) := by
  have far : (paramSpecs ty c).length ≤ idx := List.getElem?_eq_none_iff.1 h
  cases ty <;> simp [paramSpecs, setsLength] at far ⊢ <;> omega

/-- What the end of sync leaves of the length handed to a position (R141). -/
def handedForgotten (pos idx : Nat) (j : Inst) (x z : State) : State :=
  if j.stype = .delay ∧ idx = 1 ∧ parCur j 1 ≠ 1 then { z with clk := { x.clk with handed := x.clk.handed.set pos none } } else z

section
variable (hi : x.tone.chain[pos]? = some ⟨t, some i⟩)
include hi

theorem instPut_same : instPut pos t i x = x := by
  unfold instPut
  have same : x.tone.chain.set pos ⟨t, some i⟩ = x.tone.chain := by
    rw [← (List.getElem?_eq_some_iff.1 hi).2]
    exact List.set_getElem_self _
  rw [same]

theorem takeParam_eq {idx : Nat} {v : Int} {w : Int} (j : Inst) (hj : setParamValue b idx v i = deriveParam idx w j) :
    takeParam b pos idx v x =
      let d := deriveParam idx w j
      let z := handedForgotten pos idx j x (instPut pos t (if b = true ∧ setsLength i.stype idx = true then retime true d else d) x)
      if i.stype = .cab ∧ idx = 0 then cabChange b pos z else z := by
  have forgets : ∀ k, forgetHanded pos idx (deriveParam idx w j) (instPut pos t k x) =
      handedForgotten pos idx j x (instPut pos t k x) := fun k => by
    rw [deriveParam_proc]
    rfl
  unfold takeParam
  rw [instAt_of hi]
  dsimp only
  rw [hj, setInst_of hi, forgets]
  simp only [Bool.and_eq_true]

omit hi in
theorem instPut_instPut (j k : Inst) : instPut pos t k (instPut pos t j x) = instPut pos t k x := by
  simp [instPut]

theorem takeParam_none {idx : Nat} {v : Int} (hq : (paramSpecs i.stype i.lclass)[idx]? = none) : takeParam b pos idx v x = x := by
  obtain ⟨length, cab, sync⟩ := paramSpecs_none hq
  unfold takeParam
  rw [instAt_of hi]
  dsimp only
  rw [setParamValue_none hq, length, Bool.and_false, if_neg cab, if_neg (show ¬ false = true by decide), setInst_of hi, instPut_same hi, forgetHanded,
    if_neg fun h => sync ⟨h.1, h.2.1⟩]

theorem instPut_at (j : Inst) : (instPut pos t j x).tone.chain[pos]? = some ⟨t, some j⟩ :=
  List.getElem?_set_self (List.getElem?_eq_some_iff.1 hi).1

theorem cabChange_eq {img miss hist g ph} (hp : i.proc = .cab img miss hist g ph) : cabChange b pos x =
    if b = true ∨ i.weight.cur = 0 then cabResolve pos 0 (.rest 32768) .steady x
    else if ph = .falling then x else instPut pos t { i with proc := .cab img miss hist ⟨g.cur, 0, 4⟩ .falling } x := by
  unfold cabChange
  rw [instAt_of hi]
  dsimp only
  rw [hp]
  dsimp only
  rw [setInst_of hi]
  exact if_congr (by simp) rfl rfl

theorem takeBypass_eq (on : Bool) : takeBypass b pos on x =
    let z := instPut pos t { i with bypass := on, weight := rampGo b i.weight (if on then 0 else 32768) 4 } x
    if b then weightZero pos z else z := by
  unfold takeBypass
  rw [instAt_of hi]
  dsimp only
  rw [setInst_of hi]

theorem takeSyncLen_delay {wp d next held syn f cl} (n : Nat) (hp : i.proc = .delay wp d next held syn f cl) :
    takeSyncLen b pos n x = if parCur i 1 ≠ 1 then x else
      let j : Inst := { i with proc := .delay wp d next held (some n) f cl }
      if b then instPut pos t (retime true j) x else instPut pos t j x := by
  unfold takeSyncLen
  rw [instAt_of hi]
  dsimp only
  rw [hp]
  dsimp only
  by_cases sync : parCur i 1 = 1
  · rw [if_pos sync, if_neg (show ¬ parCur i 1 ≠ 1 from not_not.2 sync), setInst_of hi]
    cases b <;> rfl
  · rw [if_neg sync, if_pos sync]

theorem takeSyncLen_other (n : Nat) (hp : ∀ w d next held syn f cl, i.proc ≠ .delay w d next held syn f cl) :
    takeSyncLen b pos n x = x := by
  unfold takeSyncLen
  rw [instAt_of hi]
  dsimp only
  split
  · next h => exact absurd h (hp _ _ _ _ _ _ _)
  · rfl

theorem weightZero_other (hc : ∀ a c d e f, i.proc ≠ .cab a c d e f) : weightZero pos x = x := by
  have early : weightZeroDue i = false := by
    unfold weightZeroDue
    split
    · next hp => exact absurd hp (hc _ _ _ _ _)
    · rfl
  rw [weightZero_eq hi, early, if_neg (by decide)]

end

/-- A change of what goes to no slot unit is discarded. -/
theorem applyChange_nowhere (h : (x.tone.chain[pos]?).bind (·.inst) = none) {c : Change} {idx : Nat} {v : Int} {on : Bool} {n m : Nat}
    {l : Fin 4} (hc : c ∈ [Change.param pos idx v, .bypass pos on, .syncLen pos n, .move pos l m]) : applyChange b c x = x := by
  have free : instAt x pos = none := h
  simp only [List.mem_cons, List.not_mem_nil, or_false] at hc
  rcases hc with rfl | rfl | rfl | rfl
  · rw [applyChange, takeParam, free]
  · rw [applyChange, takeBypass, free]
  · rw [applyChange, takeSyncLen, free]
  · rw [applyChange, takeMove, free]

/-- Settles O20: the ends of fades by their due steps, D and size by `retarget`, each change at a position by its one equation. -/
theorem fadesEndAtTheirRest : Obligations.FadesEndAtTheirRest := by
  unfold Obligations.FadesEndAtTheirRest
  intro crossed
  refine ⟨fun s pos t i hl hi => ?_, fun s l x i hl hx hi => ?_, fun b i => ?_, fun b x pos idx v => ?_⟩
  · intro put slot
    have gate : exec (.gateClosed pos) s = .next (gateClosedStep pos s) := inside_live hl _
    have zero : exec (.bypassWeightZero pos) s = .next (weightZero pos s) := inside_live hl _
    have resolve : exec (.resolveFadeEnd pos) s = .next (resolveFadeStep pos s) := inside_live hl _
    have cross : exec (.crossFadeEnd (.live pos)) s = .next (crossFadeStep (.live pos) s) := inside_live hl _
    refine ⟨fun g peak hp hc hn => ?_, fun g peak st hp out => ?_, fun img miss hist g hp => ?_, fun img miss hist g ph hp ne => ?_,
      fun out => ?_, crossFade_ends cross (fun done => ?_) fun runs => ?_⟩
    · rw [gate, gateClosedStep_closing hi hp, if_pos ⟨hc, hn⟩]
      rfl
    · rw [gate]
      by_cases closing : st = .closing
      · rw [gateClosedStep_closing hi (closing ▸ hp), if_neg fun both => ?_]
        rcases out with h | h | h
        · exact h closing
        · exact h both.1
        · exact h both.2
      · rw [gateClosedStep_stays hi hp closing]
    · intro m
      refine ⟨fun hc hn ht => ?_, fun a taps ref k hc hn ht ha => ?_, fun hc hn ht => ?_, fun a taps ref k hc hn ht ha => ?_, fun out => ?_⟩
      · rw [zero, weightZero_falling hi hp hc hn, cabResolve_none hi hp ht]
        rfl
      · rw [zero, weightZero_falling hi hp hc hn, cabResolve_some hi hp ht ha]
        rfl
      · rw [resolve, resolveFadeStep_falling hi hp, if_pos ⟨hc, hn⟩, cabResolve_none hi hp ht]
        rfl
      · rw [resolve, resolveFadeStep_falling hi hp, if_pos ⟨hc, hn⟩, cabResolve_some hi hp ht ha]
        rfl
      · rw [resolve, resolveFadeStep_falling hi hp, if_neg (by tauto)]
    · exact ⟨by rw [resolve, resolveFadeStep_stays hi hp ne], fun hc hn hg => by rw [zero, weightZero_rising hi hp ne hc hn hg]; rfl⟩
    · rw [zero, weightZero_stays hi out]
    · rw [crossFadeStep_live hi, if_pos done, endCrossFade_proc]
      rfl
    · rw [crossFadeStep_live hi, runs, if_neg (by decide)]
  · have cross : exec (.crossFadeEnd (.lane l)) s = .next (crossFadeStep (.lane l) s) := inside_live hl _
    refine crossFade_ends (i := i) (put := fun p => { s with
      tone := { s.tone with lanes := s.tone.lanes.set l.val { x with inst := some { i with proc := p } } } })
      cross (fun done => ?_) fun runs => ?_
    · rw [crossFadeStep_lane hx hi, if_pos done, endCrossFade_proc]
    · rw [crossFadeStep_lane hx hi, runs, if_neg (by decide)]
  · intro cap sync
    refine ⟨fun w d next held syn f cl hp => ?_, fun z next held f hp => ?_, retime_other⟩
    · intro aim kept capped want gives
      have form := retime_delay (b := b) hp
      have aim_ : aim = aimOf d next held := by cases next <;> rfl
      have want_ : delayWants i syn = want := by cases syn <;> rfl
      have capped_ : delayCapped i syn cl = capped := by cases syn <;> rfl
      have result : ∀ d' next' held' f', retarget b d next held f want = (d', next', held', f') → gives d' next' held' f' := by
        intro d' next' held' f' hr
        show retime b i = _
        rw [form, want_, hr, capped_]
        cases held' <;> rfl
      refine ⟨fun same => ?_, fun v hw new lost => ?_, fun v hw new here idle => ?_, fun v n hw new here runs ne => ?_,
        fun n hw new here runs => ?_⟩
      · refine result _ _ _ _ ?_
        rcases same with same | same
        · rw [same, retarget_none]
        · rw [same, retarget_same aim_]
      · exact result _ _ _ _ (by rw [hw, lost, retarget_landed (aim_ ▸ new)])
      · exact result _ _ _ _ (by rw [hw, here, idle, retarget_new (by rw [← idle, ← aim_]; exact new)])
      · exact result _ _ _ _ (by rw [hw, here, runs, retarget_held (by rw [← runs, ← aim_]; exact new), if_neg ne])
      · exact result _ _ _ _ (by rw [hw, here, runs, retarget_held (by rw [← runs, ← aim_]; exact new), if_pos rfl])
    · intro aim v gives
      have form := retime_reverb (b := b) hp
      have aim_ : aim = aimOf z next held := by cases next <;> rfl
      have result : ∀ z' next' held' f', retarget b z next held f (some v) = (z', next', held', f') → gives z' next' held' f' := by
        intro z' next' held' f' hr
        show retime b i = _
        rw [form, hr]
      refine ⟨fun same => ?_, fun new lost => ?_, fun new here idle => ?_, fun n new here runs => ?_⟩
      · exact result _ _ _ _ (retarget_same (same.trans aim_))
      · exact result _ _ _ _ (by rw [lost, retarget_landed (aim_ ▸ new)])
      · exact result _ _ _ _ (by rw [here, idle, retarget_new (by rw [← idle, ← aim_]; exact new)])
      · exact result _ _ _ _ (by rw [here, runs, retarget_held (by rw [← runs, ← aim_]; exact new)])
  · refine ⟨fun none_ on n l m c hc => applyChange_nowhere none_ hc, fun t i hi => ?_⟩
    intro at_ take weighed
    have take_ : take = takeParam b pos idx v x := rfl
    have weighed_ : ∀ on, { i with bypass := on, weight := rampGo b i.weight (if on then 0 else 32768) 4 } = weighed on := by
      intro on
      cases b <;> rfl
    have bypass : ∀ on, applyChange b (.bypass pos on) x = if b then weightZero pos (at_ (weighed on)) else at_ (weighed on) := by
      intro on
      rw [← weighed_]
      exact takeBypass_eq hi on
    refine ⟨fun on plain => ?_, fun on lost => ?_, fun hl => inside_live hl _, fun hq => ?_, fun q hq => ?_,
      fun wp d next held syn f cl n hp => takeSyncLen_delay hi n hp, fun n hp => takeSyncLen_other hi n hp⟩
    · rw [bypass]
      split
      · next lost =>
        refine weightZero_other (instPut_at hi _) ?_
        exact plain.resolve_left (by rw [lost]; decide)
      · rfl
    · rw [bypass, if_pos lost]
    · exact takeParam_none hi hq
    · intro w p j length told
      have form := takeParam_eq hi (x := x) (v := v) (w := w) j (setParamValue_some (b := b) hq)
      have length_ : (b = true ∧ setsLength i.stype idx = true) ↔ (b = true ∧ length) := and_congr_right fun _ => setsLength_iff ..
      have plain : ¬ (i.stype = .cab ∧ idx = 0) → ¬ (b = true ∧ length) → take = told (at_ (deriveParam idx w j)) := by
        intro cab still
        rw [take_, form]
        dsimp only
        rw [if_neg (fun h => still (length_.1 h)), if_neg cab]
        rfl
      refine ⟨fun cab still => ⟨fun comp amp => ?_, fun e a r hp => ?_, fun tb sets co hl hr e hp => ?_⟩,
        fun lost long comp amp => ?_, fun img miss hist g ph cab zero hp => ?_⟩
      · rw [plain cab still, deriveParam_plain (j := j) comp amp]
      · rw [plain cab still, deriveParam_comp (j := j) hp]
      · rw [plain cab still, deriveParam_amp (j := j) hp]
      · have other : ¬ (i.stype = .cab ∧ idx = 0) := by
          rintro ⟨h, -⟩
          rcases long with ⟨long, -⟩ | ⟨long, -⟩ <;> cases h.symm.trans long
        rw [take_, form]
        dsimp only
        rw [if_pos (length_.2 ⟨lost, long⟩), if_neg other, deriveParam_plain (j := j) comp amp]
        rfl
      · intro m slot
        have still : ¬ (b = true ∧ length) := by
          rintro ⟨-, long⟩
          rcases long with ⟨long, -⟩ | ⟨long, -⟩ <;> cases cab.symm.trans long
        have same : deriveParam idx w j = j := deriveParam_plain (j := j) (by simp [j, hp]) (by simp [j, hp])
        have step : take = cabChange b pos (instPut pos t j x) := by
          rw [take_, form]
          dsimp only
          rw [if_neg (fun h => still (length_.1 h)), if_pos ⟨cab, zero⟩, same]
          refine congrArg _ (if_neg ?_)
          rintro ⟨delay, -⟩
          cases cab.symm.trans delay
        have put := instPut_at hi (j := j)
        have change := cabChange_eq (b := b) put (img := img) (miss := miss) (hist := hist) (g := g) (ph := ph) hp
        rw [step, change]
        have weight : j.weight = i.weight := rfl
        have table : m.table = x.area.table := (releaseImage_only img x.area).table
        rw [weight]
        refine ⟨fun idle heavy falling => ?_, fun idle heavy other => ?_, fun due ht => ?_, fun a taps k ref due ht ha => ?_⟩
        · rw [if_neg (by simp [idle, heavy]), if_pos falling]
          rfl
        · rw [if_neg (by simp [idle, heavy]), if_neg other, instPut_instPut]
          rfl
        · rw [if_pos due, cabResolve_none put hp (by rw [table] at ht; exact ht), instPut_instPut]
          rfl
        · rw [if_pos due, cabResolve_some put hp (by rw [table] at ht; exact ht) ha, instPut_instPut]
          rfl

end Sys2Proof.Frame
end

section
/-! The frame boundary (R1, R2, R25): sample periods, the handed lengths, the ramp step, the chain, the lanes and the output stage. -/

namespace Sys2Proof.Frame

open Sys2Proof Sys2Proof.Machine

variable {s x y z : State} {i : Inst} {b : Bool} {c : Captured}

/-! ## Gains and the mute factor (R27, R39, R40) -/

theorem rampGo_eq (b : Bool) (r : Ramp) (v : Int) (n : Nat) :
    rampGo b r v n = if b then (⟨v, v, 0⟩ : Ramp) else ⟨r.cur, v, if n = 0 then 1 else n⟩ := by
  have length : max 1 n = if n = 0 then 1 else n := by split <;> omega
  cases b
  · exact congrArg (Ramp.mk r.cur v) length
  · rfl

theorem muteFallTo_falls {r : Ramp} (h : r.cur ≠ 0 ∨ r.target ≠ 0) : muteFallTo b r = rampGo b r 0 4 :=
  if_neg fun both => h.elim (fun h => h both.1) fun h => h both.2

/-! ## One step of every ramp (R7, R8, R30, R38) -/

/-- The parameters after a boundary: an AMP's are frozen at bypass weight 0. -/
def paramsStepped (i : Inst) : List Ramp := if i.stype = .amp ∧ (rampStep i.weight).cur = 0 then i.params else i.params.map rampStep

/-- A slot unit whose weight and parameters have taken their step, with another process. -/
def steppedTo (i : Inst) (p : Proc) : Inst := { i with weight := rampStep i.weight, params := paramsStepped i, proc := p }

theorem stepInst_gate {g peak st} (hp : i.proc = .gate g peak st) : stepInst i =
    if (rampStep i.weight).cur = 0 then steppedTo i i.proc
    else
      let h := gateCompare ((paramsStepped i).getD 0 (.rest 0)).cur ((paramsStepped i).getD 1 (.rest 0)).cur g peak st
      steppedTo i (.gate (rampStep h.1) peak h.2) := by
  unfold stepInst
  rw [hp] <;> rfl

theorem stepInst_cab {img miss hist g ph} (hp : i.proc = .cab img miss hist g ph) : stepInst i =
    if (rampStep i.weight).cur = 0 then steppedTo i i.proc
    else steppedTo i (.cab img miss hist (rampStep g) (if ph = .rising ∧ (rampStep g).n = 0 then .steady else ph)) := by
  unfold stepInst
  rw [hp] <;> rfl

theorem stepInst_delay {w d next held syn f cl} (hp : i.proc = .delay w d next held syn f cl) :
    stepInst i = steppedTo i (.delay w d next held syn (rampStep f) cl) := by
  unfold stepInst
  rw [hp] <;> rfl

theorem stepInst_reverb {z next held f} (hp : i.proc = .reverb z next held f) :
    stepInst i = steppedTo i (.reverb z next held (rampStep f)) := by
  unfold stepInst
  rw [hp] <;> rfl

/-- A type without a ramp of its own process. -/
theorem stepInst_plain (gate : ∀ g peak st, i.proc ≠ .gate g peak st) (cab : ∀ a c d e f, i.proc ≠ .cab a c d e f)
    (delay : ∀ w d n h s f c, i.proc ≠ .delay w d n h s f c) (reverb : ∀ z n h f, i.proc ≠ .reverb z n h f) :
    stepInst i = steppedTo i i.proc := by
  unfold stepInst
  split
  · next hp => exact absurd hp (gate _ _ _)
  · next hp => exact absurd hp (cab _ _ _ _ _)
  · next hp => exact absurd hp (delay _ _ _ _ _ _ _)
  · next hp => exact absurd hp (reverb _ _ _ _)
  · rfl

/-! ## The output stage (R4, R25) -/

theorem outputStage_eq (g l f x lanes : Int) : outputStage g l f x lanes =
    let v := (x * g / 32768 + lanes) * l / 32768 * f / 32768 / 16
    if v < -8388608 then -8388608 else if 8388607 < v then 8388607 else v := clampInt_ite (by decide) _

theorem outputStage_mute (g l x lanes : Int) : outputStage g l 0 x lanes = 0 := by
  rw [outputStage_eq]
  simp

/-! ## The handed lengths (R141) -/

/-- The synced length of a position. -/
def syncedAt (q : State) (k : Nat) : Option Nat :=
  match instAt q k with
  | some i => if i.stype = .delay ∧ parCur i 1 = 1 then some (syncedLen q.clk.tempo (parCur i 2)) else none
  | none => none

theorem syncedLens_eq (q : State) : syncedLens q = (List.range 12).map (syncedAt q) := rfl

/-- The changes that hand lengths. -/
def lensDue (q : State) : List Change :=
  (List.range 12).filterMap fun k =>
    if syncedAt q k = q.clk.handed.getD k none then none else (syncedAt q k).map fun n => Change.syncLen k n

theorem lensChanges_due (q : State) : lensChanges q = lensDue q := by
  rw [ShowClock.lensChanges_eq]
  refine List.filterMap_congr fun k hk => ?_
  have here : (syncedLens q).getD k none = syncedAt q k := by
    rw [syncedLens_eq, List.getD_eq_getElem?_getD]
    simp [List.mem_range.1 hk]
  unfold ShowClock.newLen
  rw [here]
  cases syncedAt q k with
  | none => dsimp only; split <;> rfl
  | some n =>
    dsimp only
    by_cases same : q.clk.handed.getD k none = some n
    · rw [if_pos same, if_pos same.symm]
      rfl
    · rw [if_neg same, if_neg (Ne.symm same)]

/-! ## The boundary (R1) -/

/-- The state that takes up the changes of a boundary, `q` having passed the frame's samples. -/
def frameOpened (c : Captured) (q : State) : State := { q with
  tuner := tunerFrame c q.tuner, clk := { q.clk with handed := syncedLens q }
  tone := { q.tone with lanes := q.tone.lanes.map laneNatural, changes := [] } }

/-- The state with the changes taken up. -/
def frameTaken (c : Captured) (q : State) : State :=
  (lensDue q ++ q.tone.changes).foldl (fun x c => applyChange false c x) (frameOpened c q)

theorem takeUp_frame (c : Captured) {q : State} (hp : present q = true) :
    takeUp (onTone (fun t => { t with lanes := t.lanes.map laneNatural }) (handLens (onTuner (tunerFrame c) q))) = frameTaken c q := by
  have lens : handLens (onTuner (tunerFrame c) q) = { q with
      tuner := tunerFrame c q.tuner, clk := { q.clk with handed := syncedLens q }
      tone := { q.tone with changes := lensDue q ++ q.tone.changes } } := by
    have due : lensChanges (onTuner (tunerFrame c) q) = lensDue q := lensChanges_due q
    unfold handLens
    dsimp only
    rw [due, if_pos (by exact hp)]
    rfl
  rw [lens]
  rfl

/-- Samples of a captured channel pair, converted. -/
def pairIn (a b : List Int) : List Stereo := List.zipWith (fun x y => (16 * x, 16 * y)) a b

theorem pairIn_eq (a b : List Int) : List.zipWith (fun x y => (portIn x, portIn y)) a b = pairIn a b := by
  have conv : (fun x y : Int => ((portIn x, portIn y) : Stereo)) = fun x y => (16 * x, 16 * y) := by
    funext x y
    rw [portIn, portIn, Int.mul_comm x, Int.mul_comm y]
  rw [conv]
  rfl

/-- The chain's positions at the boundary. -/
def positionStepped (p : Position) : Position := { p with inst := p.inst.map fun i => stepInst (retime false i) }

/-- What the chain gives over the frame, `w` having taken up the changes. -/
def frameChain (c : Captured) (w : State) : ChainOut :=
  runChain ⟨pairIn c.retL c.retR, beatPhase w.clk, beatHanded w.clk⟩ w.area.dram w.freeCount (w.tone.chain.map positionStepped)
    (pairIn c.inA c.inA)

/-- What the lanes give over the frame. -/
def frameLanes (c : Captured) (w : State) : List Stereo × List Lane × List (Nat × Word32) × Nat :=
  runLanes (frameChain c w).inputs (frameChain c w).dram (frameChain c w).free (w.tone.lanes.map stepLane)

/-- The MAIN samples of the frame. -/
def frameMain (c : Captured) (w : State) : List Stereo :=
  List.zipWith (stereo2 (outputStage (rampStep w.tone.chainGain).cur (rampStep w.tone.master).cur (rampStep w.tone.mute).cur))
    (frameChain c w).out (frameLanes c w).1

/-- The frame run. -/
def frameRun (c : Captured) (w : State) : State := { w with
  area := { w.area with dram := (frameLanes c w).2.2.1 }, freeCount := (frameLanes c w).2.2.2
  tone := { w.tone with
    chainGain := rampStep w.tone.chainGain, master := rampStep w.tone.master, mute := rampStep w.tone.mute
    framePhase := 0, chainRested := w.tone.chainRested || (w.tone.chainGain.n == 1)
    chain := (frameChain c w).chain, lanes := (frameLanes c w).2.1
    sendOut := (frameChain c w).send.getD (List.replicate 32 (0, 0)), mainOut := frameMain c w } }

theorem runFrame_stepped (c : Captured) (w : State) :
    onTone (fun t => { t with framePhase := 0 }) (runFrame c (onTone (fun t => stepRamps (retimeAll t)) w)) = frameRun c w := by
  have chain : (onTone (fun t => stepRamps (retimeAll t)) w).tone.chain = w.tone.chain.map positionStepped := by
    show ((w.tone.chain.map _).map _) = _
    rw [List.map_map]
    refine List.map_congr_left fun p _ => ?_
    cases hp : p.inst <;> simp [positionStepped, hp]
  unfold runFrame
  dsimp only
  rw [chain, pairIn_eq, pairIn_eq]
  rfl

theorem boundary_eq (c : Captured) (hp : present (passToBoundary (32 - y.tone.framePhase) y) = true) :
    boundary c y = frameRun c (frameTaken c (passToBoundary (32 - y.tone.framePhase) y)) := by
  unfold boundary
  dsimp only
  rw [takeUp_frame c hp, runFrame_stepped]

theorem exec_frameBoundary (hl : live s = true) (hf : fullFrame c = true) :
    exec (.frameBoundary c) s = .next (if present (prelude s) then boundary c (prelude s) else prelude s) :=
  (if_pos hf).trans (outside_live hl fun x => if present x then boundary c x else x)

theorem passToBoundary_within {n : Nat} (h : y.clk.source = .external ∨ n < samplesToBeat y.clk) :
    passToBoundary n y = passSamples n y := by
  refine if_neg fun both => ?_
  rcases h with h | h
  · exact both.1 h
  · exact absurd both.2 (Nat.not_le.2 h)

theorem passToBoundary_beat {n : Nat} (hs : y.clk.source ≠ .external) (hn : samplesToBeat y.clk ≤ n) : passToBoundary n y =
    passSamples (n - samplesToBeat y.clk) (prelude (beatStep (passSamples (samplesToBeat y.clk) y))) := if_pos ⟨hs, hn⟩

theorem frameMain_mute (c : Captured) {w : State} (h : (rampStep w.tone.mute).cur = 0) : ∀ o ∈ frameMain c w, o = (0, 0) := by
  intro o ho
  unfold frameMain at ho
  rw [h] at ho
  obtain ⟨k, hk, rfl⟩ := List.mem_iff_getElem.1 ho
  rw [List.getElem_zipWith, stereo2, outputStage_mute, outputStage_mute]

/-! ## A chain of one VOLUME (R25) -/

/-- A VOLUME at rest. -/
def volumeInst (k : TailPolicy) (v : Int) : Inst := ⟨.volume, .plain, k, [.rest v], false, .rest 32768, .volume, []⟩

theorem positionStepped_volume (k : TailPolicy) (v : Int) :
    positionStepped ⟨.volume, some (volumeInst k v)⟩ = ⟨.volume, some (volumeInst k v)⟩ := rfl

theorem mulQ15_unity (x : Int) : mulQ15 x 32768 = x := Int.mul_ediv_cancel x (by decide)

theorem bypassMix_unity (x wet : Stereo) : bypassMix 32768 x wet = stereo sat32 wet := by
  have none_ : ∀ v : Int, mulQ15 v (32768 - 32768) = 0 := fun v => by simp [mulQ15, floorDiv]
  simp only [bypassMix, stereo2, stereo, mulQ15_unity, none_, add_zero]

theorem runInst_volume (env : FrameEnv) (dram : List (Nat × Word32)) (free : Nat) (k : TailPolicy) (v : Int) (xs : List Stereo) :
    runInst env dram free (volumeInst k v) xs =
      ⟨xs.map fun x => stereo sat32 (stereo (fun x => mulQ15 x v) x), volumeInst k v, dram, free, none⟩ := by
  have wet : List.zipWith (bypassMix 32768) xs (xs.map (stereo fun x => mulQ15 x v)) =
      xs.map fun x => stereo sat32 (stereo (fun x => mulQ15 x v) x) := by
    rw [List.zipWith_map_right, List.zipWith_self]
    exact List.map_congr_left fun x _ => bypassMix_unity _ _
  rw [← wet]
  rfl

theorem runLanes_clear (ins : List (List Stereo)) (dram : List (Nat × Word32)) (free : Nat) (n : Nat) :
    runLanes ins dram free (List.replicate n Lane.clear) = (List.replicate 32 (0, 0), List.replicate n Lane.clear, dram, free) := by
  induction n with
  | zero => rfl
  | succ n ih =>
    rw [List.replicate_succ, runLanes, runLane, show Lane.clear.inst = none from rfl]
    dsimp only
    rw [ih]
    rfl

theorem syncedAt_volume {q : State} {k : TailPolicy} {v : Int} (h : q.tone.chain = [⟨.volume, some (volumeInst k v)⟩]) (n : Nat) :
    syncedAt q n = none := by
  unfold syncedAt instAt
  rw [h]
  cases n <;> rfl

/-- A chain of one VOLUME and empty lanes, no change waiting: the frame leaves the chain as it was. -/
theorem frameRun_volume {q : State} {k : TailPolicy} {v : Int} (hf : c.inA.length = 32) (none_ : q.tone.changes = [])
    (lanes : q.tone.lanes = List.replicate 4 Lane.clear) (chain : q.tone.chain = [⟨.volume, some (volumeInst k v)⟩]) :
    let w := frameTaken c q
    let z := frameRun c w
    let bus := fun x lanes => outputStage (rampStep w.tone.chainGain).cur (rampStep w.tone.master).cur (rampStep w.tone.mute).cur x lanes
    z.tone.chain = q.tone.chain ∧ z.tone.lanes = q.tone.lanes ∧ z.area = q.area ∧ z.freeCount = q.freeCount ∧
      z.tone.sendOut = List.replicate 32 (0, 0) ∧
      z.tone.mainOut = c.inA.map fun x => (bus (sat32 (mulQ15 (16 * x) v)) 0, bus (sat32 (mulQ15 (16 * x) v)) 0) := by
  intro w z bus
  have due : lensDue q = [] := List.filterMap_eq_nil_iff.2 fun n _ => by
    rw [syncedAt_volume chain]
    split <;> rfl
  have taken : w = frameOpened c q := by
    show (lensDue q ++ q.tone.changes).foldl _ _ = _
    rw [due, none_]
    rfl
  have wChain : w.tone.chain = q.tone.chain := by rw [taken]; rfl
  have wLanes : w.tone.lanes = List.replicate 4 Lane.clear := by
    rw [taken]
    show q.tone.lanes.map laneNatural = _
    rw [lanes]
    rfl
  have out : frameChain c w = ⟨(pairIn c.inA c.inA).map fun x => stereo sat32 (stereo (fun x => mulQ15 x v) x), q.tone.chain,
      [pairIn c.inA c.inA], w.area.dram, w.freeCount, none⟩ := by
    unfold frameChain
    rw [wChain, chain, List.map_cons, List.map_nil, positionStepped_volume, runChain]
    dsimp only
    rw [runInst_volume]
    rfl
  have lanes_ : frameLanes c w = (List.replicate 32 (0, 0), List.replicate 4 Lane.clear, w.area.dram, w.freeCount) := by
    unfold frameLanes
    rw [wLanes, out]
    exact runLanes_clear _ _ _ 4
  refine ⟨?_, ?_, ?_, ?_, ?_, ?_⟩
  · show (frameChain c w).chain = _
    rw [out]
  · show (frameLanes c w).2.1 = _
    rw [lanes_, lanes]
  · show ({ w.area with dram := (frameLanes c w).2.2.1 } : AreaMan) = _
    rw [lanes_, taken]
    rfl
  · show (frameLanes c w).2.2.2 = _
    rw [lanes_, taken]
    rfl
  · show (frameChain c w).send.getD _ = _
    rw [out]
    rfl
  · show frameMain c w = _
    unfold frameMain
    rw [out, lanes_]
    have pair : pairIn c.inA c.inA = c.inA.map fun x => (16 * x, 16 * x) := List.zipWith_self
    have silent : List.replicate 32 ((0, 0) : Stereo) = c.inA.map fun _ => (0, 0) := by rw [List.map_const', hf]
    dsimp only
    rw [pair, silent, List.map_map, List.zipWith_map, List.zipWith_self]
    rfl

/-- Settles O19: a boundary is `frameRun` on the changes taken up (`frameTaken`); then each ramp, position and lane by its equation. -/
theorem frameBoundaryRunsTheFrame : Obligations.FrameBoundaryRunsTheFrame := by
  unfold Obligations.FrameBoundaryRunsTheFrame
  refine ⟨fun c s hl hf => ?_, fun i => ?_, fun env dram free xs => ⟨rfl, fun t ps => rfl, fun t i ps => ?_⟩,
    fun ins dram free => ⟨rfl, fun l ls => rfl⟩, fun b x => ?_⟩
  · have row := exec_frameBoundary hl hf
    intro y n m passed q len due p w
    have hy : prelude s = y := rfl
    clear_value y
    rw [hy] at row
    have beat : samplesToBeat y.clk = m := rfl
    have pass : ∀ k x, passSamples k x = passed k x := fun _ _ => rfl
    have len_ : len = syncedAt q := by
      funext k
      unfold syncedAt instAt
      rcases hq : (q.tone.chain[k]?).bind (·.inst) with _ | i <;> simp only [len, hq] <;> rfl
    have due_ : due = lensDue q := by
      show List.filterMap _ _ = List.filterMap _ _
      rw [len_]
    have w_ : w = frameTaken c q := by
      show (due ++ q.tone.changes).foldl _ p = _
      have p_ : p = frameOpened c q := by
        show ({ q with tuner := _, clk := { q.clk with handed := (List.range 12).map len }, tone := _ } : State) = _
        rw [len_]
        rfl
      rw [due_, p_]
      rfl
    clear_value len due w m passed
    refine ⟨fun lost => ?_, fun within => ?_, fun ns le => ?_, fun hp hq => ?_⟩
    · rw [row, if_neg (by rw [lost]; decide)]
    · rw [← pass]
      exact passToBoundary_within (by rw [beat]; exact within)
    · have q_ : q = passToBoundary n y := rfl
      rw [q_, passToBoundary_beat ns (by rw [beat]; exact le), beat, pass, pass]
    · have ran : exec (.frameBoundary c) s = .next (frameRun c w) := by
        rw [row, if_pos hp, boundary_eq c hq, w_]
      intro pair g l f bus steps r o
      have bus_ : ∀ x lanes, outputStage g l f x lanes = bus x lanes := outputStage_eq g l f
      refine ⟨?_, fun mute z hz out ho => ?_, fun k v none_ lanes chain => ?_⟩
      · rw [ran]
        have main : frameMain c w = List.zipWith (fun x y => (bus x.1 y.1, bus x.2 y.2)) r.out o.1 := by
          have each : stereo2 (outputStage g l f) = fun x y => (bus x.1 y.1, bus x.2 y.2) := by
            funext x y
            rw [stereo2, bus_, bus_]
          rw [← each]
          rfl
        rw [← main]
        rfl
      · rw [ran] at hz
        cases hz
        exact frameMain_mute c mute out ho
      · have full : c.inA.length = 32 := by
          simp only [fullFrame, Bool.and_eq_true, beq_iff_eq] at hf
          exact hf.1.1.1
        have facts := frameRun_volume full none_ lanes chain
        rw [← w_] at facts
        obtain ⟨chain_, lanes_, area, free, send, main⟩ := facts
        refine ⟨_, ran, chain_, lanes_, area, free, send, main.trans ?_⟩
        refine List.map_congr_left fun x _ => ?_
        rw [← bus_]
  · intro w params gives
    refine ⟨fun a b c d e f hp => ?_, fun a b c hp => ?_, fun a b hp => ?_, fun a b hp => ?_, fun a hp => ?_, fun hp => ?_,
      fun g peak st hp => ⟨fun zero => ?_, fun run => ?_⟩, fun img miss hist g ph hp => ⟨fun zero => ?_, fun run => ?_⟩,
      fun wp d next held syn f cl hp => stepInst_delay hp, fun z next held f hp => stepInst_reverb hp⟩
    · exact stepInst_plain (by simp [hp]) (by simp [hp]) (by simp [hp]) (by simp [hp])
    · exact stepInst_plain (by simp [hp]) (by simp [hp]) (by simp [hp]) (by simp [hp])
    · exact stepInst_plain (by simp [hp]) (by simp [hp]) (by simp [hp]) (by simp [hp])
    · exact stepInst_plain (by simp [hp]) (by simp [hp]) (by simp [hp]) (by simp [hp])
    · exact stepInst_plain (by simp [hp]) (by simp [hp]) (by simp [hp]) (by simp [hp])
    · exact stepInst_plain (by simp [hp]) (by simp [hp]) (by simp [hp]) (by simp [hp])
    · exact (stepInst_gate hp).trans (if_pos zero)
    · exact (stepInst_gate hp).trans (if_neg run)
    · exact (stepInst_cab hp).trans (if_pos zero)
    · exact (stepInst_cab hp).trans (if_neg run)
  · rw [runChain]
    dsimp only
    cases (runInst env dram free i xs).send <;> rfl
  · intro chain mute land
    have land_ : ∀ r v n, rampGo b r v n = land r v n := rampGo_eq b
    refine ⟨fun v n => ?_, fun v => rfl, fun v n => ?_, fun v => rfl, fun hc ht => ?_, fun out => ?_, fun n => ?_, rfl⟩
    · rw [← land_]
      rfl
    · rw [← land_]
      rfl
    · show ({ x with tone := { x.tone with mute := muteFallTo b x.tone.mute } } : State) = x
      rw [muteFallTo, if_pos ⟨hc, ht⟩]
    · rw [← land_, ← muteFallTo_falls out]
      rfl
    · rw [← land_]
      rfl

end Sys2Proof.Frame
end

section
/-! The AMP's arithmetic (R31 to R37): pre-gain, shaper, tone sets, filter, sag; and the envelope, gain and coefficient of a COMP
(R9). -/

namespace Sys2Proof.Frame

open Sys2Proof Sys2Proof.Machine

/-! ## Floors between two integers -/

/-- A part `f` of `m` of the way from 0 to `d`, floored, stays on the way. -/
theorem floor_part_between {d f m : Int} (hm : 0 < m) (h0 : 0 ≤ f) (h1 : f ≤ m) :
    (0 ≤ d → 0 ≤ d * f / m ∧ d * f / m ≤ d) ∧ (d ≤ 0 → d ≤ d * f / m ∧ d * f / m ≤ 0) := by
  refine ⟨fun hd => ⟨Int.ediv_nonneg (mul_nonneg hd h0) hm.le, ?_⟩, fun hd => ⟨?_, ?_⟩⟩
  · exact (Int.ediv_le_ediv hm (mul_le_mul_of_nonneg_left h1 hd)).trans_eq (Int.mul_ediv_cancel d hm.ne')
  · exact (Int.mul_ediv_cancel d hm.ne').symm.trans_le (Int.ediv_le_ediv hm (mul_le_mul_of_nonpos_left h1 hd))
  · exact (Int.ediv_le_ediv hm (mul_nonpos_of_nonpos_of_nonneg hd h0)).trans_eq (Int.zero_ediv m)

theorem sat32_ite (v : Int) : sat32 v = if v < -2147483648 then -2147483648 else if 2147483647 < v then 2147483647 else v :=
  clampInt_ite (by decide) v

theorem portOut_ite (x : Int) : portOut x =
    let q := x / 16
    if q < -8388608 then -8388608 else if 8388607 < q then 8388607 else q := clampInt_ite (by decide) _

theorem peakOf_eq (x : Stereo) : peakOf x = max |x.1| |x.2| := by rw [peakOf, Int.abs_eq_natAbs, Int.abs_eq_natAbs]

/-! ## Pre-gain and shaper (R32, R33) -/

theorem ampPre_ite (g x : Int) : ampPre g x =
    let p := x * g / 4096
    if p < -536870912 then -536870912 else if 536870911 < p then 536870911 else p := clampInt_ite (by decide) _

theorem ampPre_unity {x : Int} (lo : -536870912 ≤ x) (hi : x ≤ 536870911) : ampPre 4096 x = x := by
  rw [ampPre_ite, Int.mul_ediv_cancel x (by decide)]
  dsimp only
  rw [if_neg (by omega), if_neg (by omega)]

theorem ampShape_eq {y : List Int} {x : Int} (lo : -536870912 ≤ x) :
    let i := ((x + 536870912) / 33554432).toNat
    ampShape y x = y.getD i 0 * 16384 + (y.getD (i + 1) 0 - y.getD i 0) * ((x + 536870912) % 33554432) / 2048 := by
  obtain ⟨u, hu⟩ := Int.eq_ofNat_of_zero_le (show 0 ≤ x + 536870912 by omega)
  have seg : ((x + 536870912) / 33554432).toNat = u / 33554432 := by rw [hu]; omega
  have frac : (x + 536870912) % 33554432 = ((u % 33554432 : Nat) : Int) := by rw [hu]; omega
  intro i
  have hi : i = u / 33554432 := seg
  rw [hi, frac, ampShape, hu]
  rfl

theorem shape_step {d f : Int} (h0 : 0 ≤ f) (h1 : f < 33554432) :
    (0 ≤ d → 0 ≤ d * f / 2048 ∧ d * f / 2048 ≤ d * 16384) ∧ (d ≤ 0 → d * 16384 ≤ d * f / 2048 ∧ d * f / 2048 ≤ 0) := by
  have wide : d * f / 2048 = d * 16384 * f / 33554432 := by
    rw [mul_right_comm, show (33554432 : Int) = 2048 * 16384 by decide, Int.mul_ediv_mul_of_pos_left _ _ (by decide)]
  obtain ⟨up, down⟩ := floor_part_between (d := d * 16384) (m := 33554432) (by decide) h0 h1.le
  rw [wide]
  exact ⟨fun h => up (by omega), fun h => down (by omega)⟩

/-- The shaper lies between the two points of the input's segment. -/
theorem ampShape_between {y : List Int} {x : Int} (lo : -536870912 ≤ x) :
    let i := ((x + 536870912) / 33554432).toNat
    let a := y.getD i 0
    let b := y.getD (i + 1) 0
    (a ≤ b → a * 16384 ≤ ampShape y x ∧ ampShape y x ≤ b * 16384) ∧
      (b ≤ a → b * 16384 ≤ ampShape y x ∧ ampShape y x ≤ a * 16384) := by
  intro i a b
  have shape : ampShape y x = a * 16384 + (b - a) * ((x + 536870912) % 33554432) / 2048 := ampShape_eq lo
  obtain ⟨up, down⟩ := shape_step (d := b - a) (Int.emod_nonneg (x + 536870912) (by decide : (33554432 : Int) ≠ 0))
    (Int.emod_lt_of_pos (x + 536870912) (by decide))
  rw [shape]
  refine ⟨fun h => ?_, fun h => ?_⟩
  · obtain ⟨low, high⟩ := up (by omega)
    exact ⟨by omega, by omega⟩
  · obtain ⟨low, high⟩ := down (by omega)
    exact ⟨by omega, by omega⟩

/-- The shaper of a table of 33 points of 16 bits. -/
theorem ampShape_facts {y : List Int} {x : Int} (h33 : y.length = 33) (hy : ∀ v ∈ y, -32768 ≤ v ∧ v ≤ 32767)
    (lo : -536870912 ≤ x) (hi : x ≤ 536870911) :
    ((x + 536870912) / 33554432).toNat ≤ 31 ∧ -536870912 ≤ ampShape y x ∧ ampShape y x ≤ 536870912 - 16384 := by
  have seg : ((x + 536870912) / 33554432).toNat ≤ 31 := by omega
  have point : ∀ k, k < 33 → -32768 ≤ y.getD k 0 ∧ y.getD k 0 ≤ 32767 := fun k hk => by
    rw [List.getD_eq_getElem _ _ (by omega)]
    exact hy _ (List.getElem_mem _)
  obtain ⟨aLow, aHigh⟩ := point ((x + 536870912) / 33554432).toNat (by omega)
  obtain ⟨bLow, bHigh⟩ := point (((x + 536870912) / 33554432).toNat + 1) (by omega)
  obtain ⟨up, down⟩ := ampShape_between (y := y) lo
  refine ⟨seg, ?_⟩
  rcases le_total (y.getD ((x + 536870912) / 33554432).toNat 0) (y.getD (((x + 536870912) / 33554432).toNat + 1) 0) with h | h
  · obtain ⟨low, high⟩ := up h
    exact ⟨by omega, by omega⟩
  · obtain ⟨low, high⟩ := down h
    exact ⟨by omega, by omega⟩

/-! ## Tone sets and filters (R34, R35) -/

/-- A coefficient a part of 25 of the way between two sets. -/
theorem ampCoeff_eq {k j : Nat} (h : 25 * j ≤ k) (x y : Int) :
    ampCoeff x y k j = x + (y - x) * ((k : Int) - 25 * (j : Int)) / 25 := by
  rw [ampCoeff, Nat.cast_sub h]
  rfl

theorem ampTone_segment {k : Nat} : min 3 (k / 25) = if k < 75 then k / 25 else 3 := by split <;> omega

theorem ampTone_eq (sets : List Biquad) (f k : Nat) :
    let j := if k < 75 then k / 25 else 3
    let a := sets.getD (5 * f + j) unityBiquad
    let b := sets.getD (5 * f + j + 1) unityBiquad
    let mid := fun (x y : Int) => x + (y - x) * ((k : Int) - 25 * (j : Int)) / 25
    ampTone sets f k = ⟨mid a.b0 b.b0, mid a.b1 b.b1, mid a.b2 b.b2, mid a.a1 b.a1, mid a.a2 b.a2⟩ := by
  intro j a b mid
  have low : 25 * j ≤ k := by
    show 25 * (if k < 75 then k / 25 else 3) ≤ k
    split <;> omega
  have seg : min 3 (k / 25) = j := ampTone_segment
  unfold ampTone
  rw [seg]
  have coeff : ∀ x y : Int, ampCoeff x y k j = mid x y := ampCoeff_eq low
  simp only [coeff]
  rfl

theorem ampTone_between {k : Nat} (hk : k ≤ 100) (x y : Int) :
    let j := if k < 75 then k / 25 else 3
    let v := x + (y - x) * ((k : Int) - 25 * (j : Int)) / 25
    min x y ≤ v ∧ v ≤ max x y := by
  intro j
  have part : 0 ≤ (k : Int) - 25 * (j : Int) ∧ (k : Int) - 25 * (j : Int) ≤ 25 := by
    have low : 25 * j ≤ k ∧ k ≤ 25 * j + 25 := by
      show 25 * (if k < 75 then k / 25 else 3) ≤ k ∧ k ≤ 25 * (if k < 75 then k / 25 else 3) + 25
      split <;> omega
    omega
  obtain ⟨up, down⟩ := floor_part_between (d := y - x) (m := 25) (by decide) part.1 part.2
  rcases le_total x y with h | h
  · obtain ⟨low, high⟩ := up (by omega)
    omega
  · obtain ⟨low, high⟩ := down (by omega)
    omega

/-- At a quarter of the knob's way a tone set is one of the five. -/
theorem ampTone_quarter (sets : List Biquad) (f : Nat) {m : Nat} (hm : m ≤ 4) :
    ampTone sets f (25 * m) = sets.getD (5 * f + m) unityBiquad := by
  rw [ampTone_eq]
  by_cases last : m = 4
  · subst last
    simp
  · have inside : 25 * m < 75 ∨ m = 3 := by omega
    have seg : (if 25 * m < 75 then 25 * m / 25 else 3) = m := by split <;> omega
    rw [seg]
    simp

theorem biquadStep_ite (c : Biquad) (h : BiqHist) (x : Int) :
    let q := (c.b0 * x + c.b1 * h.x1 + c.b2 * h.x2 - c.a1 * h.y1 - c.a2 * h.y2) / 1073741824
    let y := if q < -2147483648 then -2147483648 else if 2147483647 < q then 2147483647 else q
    biquadStep c h x = (⟨x, h.x1, y, h.y1⟩, y) := by
  intro q y
  have hy : sat32 q = y := sat32_ite q
  rw [← hy]
  rfl

theorem biquadStep_unity {x : Int} (h : BiqHist) (lo : -2147483648 ≤ x) (hi : x ≤ 2147483647) :
    (biquadStep unityBiquad h x).2 = x := by
  rw [biquadStep_ite]
  simp only [unityBiquad, zero_mul, add_zero, sub_zero, Int.mul_ediv_cancel_left x (by decide : (1073741824 : Int) ≠ 0)]
  rw [if_neg (by omega), if_neg (by omega)]

/-! ## Sag (R36) -/

theorem sagGain_bounds {depth e : Int} (hd : 0 ≤ depth) (he : 0 ≤ e) : 8192 ≤ sagGain depth e ∧ sagGain depth e ≤ 32768 := by
  have quotient : 0 ≤ floorDiv (depth * e) 134217728 := Int.ediv_nonneg (mul_nonneg hd he) (by decide)
  unfold sagGain
  exact ⟨le_max_left .., max_le (by decide) (by omega)⟩

theorem sagGain_zero (e : Int) : sagGain 0 e = 32768 := by simp [sagGain]

/-- The envelope goes towards the peak and does not pass it. -/
theorem sagStep_bounds {a r : Int} (ha : 1 ≤ a ∧ a ≤ 32767) (hr : 1 ≤ r ∧ r ≤ 32767) (e p : Int) :
    (e ≤ p → e ≤ sagStep a r e p ∧ sagStep a r e p ≤ p) ∧ (e < p → sagStep a r e p < p) ∧
    (p ≤ e → p ≤ sagStep a r e p ∧ sagStep a r e p ≤ e) ∧ (p < e → sagStep a r e p < e) := by
  show (e ≤ p → e ≤ e + (p - e) * (if p > e then a else r) / 32768 ∧ e + (p - e) * (if p > e then a else r) / 32768 ≤ p) ∧
    (e < p → e + (p - e) * (if p > e then a else r) / 32768 < p) ∧
    (p ≤ e → p ≤ e + (p - e) * (if p > e then a else r) / 32768 ∧ e + (p - e) * (if p > e then a else r) / 32768 ≤ e) ∧
    (p < e → e + (p - e) * (if p > e then a else r) / 32768 < e)
  generalize hc : (if p > e then a else r) = c
  have range : 1 ≤ c ∧ c ≤ 32767 := by
    rw [← hc]
    split
    · exact ha
    · exact hr
  obtain ⟨up, down⟩ := floor_part_between (d := p - e) (f := c) (m := 32768) (by decide) (by omega) (by omega)
  refine ⟨fun h => ?_, fun h => ?_, fun h => ?_, fun h => ?_⟩
  · obtain ⟨low, high⟩ := up (by omega)
    exact ⟨by omega, by omega⟩
  · have short : (p - e) * c / 32768 < p - e := Int.ediv_lt_of_lt_mul (by decide) (by nlinarith)
    omega
  · obtain ⟨low, high⟩ := down (by omega)
    exact ⟨by omega, by omega⟩
  · have falls : (p - e) * c / 32768 < 0 := Int.ediv_neg_of_neg_of_pos (by nlinarith) (by decide)
    omega

end Sys2Proof.Frame
end

section
/-! The COMP (R9): its gain is the floor of an exact power, found by bisection; its coefficient is the floor of an exponential,
found from a truncated series. -/

namespace Sys2Proof.Frame

open Sys2Proof Sys2Proof.Machine

/-! ## The gain -/

/-- The bisection ends at a gain that meets the bound while the next one does not. -/
theorem compSearch_meets {t e r : Nat} (k : Nat) : ∀ lo : Nat, compGainOk t e r lo = true → compGainOk t e r (lo + 2 ^ k) = false →
    compGainOk t e r (compSearch t e r k lo) = true ∧ compGainOk t e r (compSearch t e r k lo + 1) = false ∧
      compSearch t e r k lo < lo + 2 ^ k := by
  induction k with
  | zero => exact fun lo low high => ⟨low, high, Nat.lt_succ_self lo⟩
  | succ k ih =>
    intro lo low high
    have double : lo + 2 ^ (k + 1) = lo + 2 ^ k + 2 ^ k := by rw [pow_succ]; omega
    rw [compSearch]
    split
    · next mid =>
      rw [double] at high ⊢
      exact ih _ mid high
    · next mid =>
      obtain ⟨meets, next, below⟩ := ih lo low (by simpa using mid)
      exact ⟨meets, next, below.trans_le (double ▸ Nat.le_add_right ..)⟩

theorem compGainOk_zero {t e r : Nat} (hr : 10 < r) : compGainOk t e r 0 = true := by
  rw [compGainOk, zero_pow (by omega), zero_mul]
  exact decide_eq_true (Nat.zero_le _)

theorem not_compGainOk_unity {t e r : Nat} (ht : t < e) (hr : 10 < r) : compGainOk t e r 32768 = false := by
  have more : t ^ (r - 10) < e ^ (r - 10) := Nat.pow_lt_pow_left ht (by omega)
  exact decide_eq_false (Nat.not_le.2 (Nat.mul_lt_mul_of_pos_left more (Nat.pow_pos (by decide))))

theorem compGain_unity {t e r : Int} (h : e ≤ t ∨ r ≤ 10) : compGain t e r = 32768 := if_pos h

theorem compGain_floor {t e r : Nat} (ht : t < e) (hr : 10 < r) : ∃ g : Nat, compGain t e r = g ∧ g < 32768 ∧
    g ^ r * e ^ (r - 10) ≤ 32768 ^ r * t ^ (r - 10) ∧ 32768 ^ r * t ^ (r - 10) < (g + 1) ^ r * e ^ (r - 10) := by
  obtain ⟨meets, next, below⟩ := compSearch_meets 15 0 (compGainOk_zero hr) (not_compGainOk_unity ht hr)
  refine ⟨compSearch t e r 15 0, if_neg (by omega), below, of_decide_eq_true meets, ?_⟩
  exact Nat.lt_of_not_le (of_decide_eq_false next)

theorem compStep_eq (level ratio attack release makeup e : Int) (x : Stereo) :
    let p := max |x.1| |x.2|
    let e1 := e + (p - e) * (if e < p then attack else release) / 32768
    let g := compGain level e1 ratio
    compStep level ratio attack release makeup e x =
      (e1, (x.1 * g / 32768 * makeup / 4096, x.2 * g / 32768 * makeup / 4096)) := by
  intro p
  have hp : peakOf x = p := peakOf_eq x
  rw [← hp]
  rfl

/-! ## The coefficient -/

/-- The series of `1 - exp (-x)` up to the second power, and up to the third, enclose it. -/
theorem one_sub_exp_window {x : ℝ} (h0 : 0 ≤ x) (h1 : x ≤ 1) :
    x - x ^ 2 / 2 ≤ 1 - Real.exp (-x) ∧ 1 - Real.exp (-x) ≤ x - x ^ 2 / 2 + x ^ 3 / 4 := by
  have near := Real.exp_bound (x := -x) (by rw [abs_neg, abs_of_nonneg h0]; exact h1) (n := 4) (by decide)
  rw [abs_neg, abs_of_nonneg h0] at near
  norm_num [Finset.sum_range_succ, Nat.factorial] at near
  obtain ⟨low, high⟩ := abs_le.1 near
  have cube : 0 ≤ x ^ 3 := pow_nonneg h0 3
  have quart : x ^ 4 ≤ x ^ 3 := pow_le_pow_of_le_one h0 h1 (by decide)
  exact ⟨by nlinarith, by nlinarith⟩

/-- What the model's series keeps of a tail: a part of 1. -/
theorem expTail_range {n : Nat} (hn : 0 < n) (j : Nat) : ∀ k : Nat, 0 < k →
    0 < (expTail n k j).2 ∧ 0 ≤ (expTail n k j).1 ∧ (expTail n k j).1 ≤ (expTail n k j).2 := by
  induction j with
  | zero => exact fun k _ => ⟨Int.one_pos, Int.one_nonneg, le_rfl⟩
  | succ j ih =>
    intro k hk
    obtain ⟨pos, low, high⟩ := ih (k + 1) (Nat.succ_pos k)
    have one : (1 : Int) ≤ n * k := by exact_mod_cast Nat.mul_pos hn hk
    show 0 < (expTail n (k + 1) j).2 * (n * k) ∧
      0 ≤ (expTail n (k + 1) j).2 * (n * k) - (expTail n (k + 1) j).1 ∧
      (expTail n (k + 1) j).2 * (n * k) - (expTail n (k + 1) j).1 ≤ (expTail n (k + 1) j).2 * (n * k)
    exact ⟨by nlinarith, by nlinarith, by omega⟩

/-- The fraction of a tail. -/
noncomputable def tailOf (n k j : Nat) : ℝ := ((expTail n k j).1 : ℝ) / (expTail n k j).2

theorem tailOf_range {n k : Nat} (hn : 0 < n) (hk : 0 < k) (j : Nat) : 0 ≤ tailOf n k j ∧ tailOf n k j ≤ 1 := by
  obtain ⟨pos, low, high⟩ := expTail_range hn j k hk
  have posR : (0 : ℝ) < (expTail n k j).2 := by exact_mod_cast pos
  exact ⟨div_nonneg (by exact_mod_cast low) posR.le, (div_le_one posR).2 (by exact_mod_cast high)⟩

theorem tailOf_succ {n k : Nat} (hn : 0 < n) (hk : 0 < k) (j : Nat) :
    tailOf n k (j + 1) = 1 - tailOf n (k + 1) j * (1 / n) / k := by
  obtain ⟨pos, -, -⟩ := expTail_range hn j (k + 1) (Nat.succ_pos k)
  have posR : ((expTail n (k + 1) j).2 : ℝ) ≠ 0 := by exact_mod_cast pos.ne'
  have hnR : (n : ℝ) ≠ 0 := by exact_mod_cast hn.ne'
  have hkR : (k : ℝ) ≠ 0 := by exact_mod_cast hk.ne'
  have unfolded : tailOf n k (j + 1) =
      (((expTail n (k + 1) j).2 * (n * k) - (expTail n (k + 1) j).1 : Int) : ℝ) / ((expTail n (k + 1) j).2 * (n * k) : Int) := rfl
  rw [unfolded, tailOf]
  push_cast
  field_simp

/-- Twelve terms of the series lie between the same bounds as the exponential. -/
theorem series_window {n : Nat} (hn : 0 < n) : let x : ℝ := 1 / n
    x - x ^ 2 / 2 ≤ x * tailOf n 2 12 ∧ x * tailOf n 2 12 ≤ x - x ^ 2 / 2 + x ^ 3 / 4 := by
  intro x
  have h0 : 0 ≤ x := by positivity
  obtain ⟨low3, high3⟩ := tailOf_range hn (k := 3) (by decide) 11
  obtain ⟨low4, high4⟩ := tailOf_range hn (k := 4) (by decide) 10
  have two : tailOf n 2 12 = 1 - tailOf n 3 11 * x / 2 := by exact_mod_cast tailOf_succ hn (k := 2) (by decide) 11
  have three : tailOf n 3 11 = 1 - tailOf n 4 10 * x / 3 := by exact_mod_cast tailOf_succ hn (k := 3) (by decide) 10
  have square : 0 ≤ x ^ 2 := sq_nonneg x
  have cube : 0 ≤ x ^ 3 := pow_nonneg h0 3
  rw [two]
  refine ⟨by nlinarith, ?_⟩
  rw [three]
  nlinarith

/-- Every value between the two bounds has the same floor. -/
theorem floor_of_window {t : Nat} (ht : 1 ≤ t) {v : ℝ} (low : (1 / (48 * t) : ℝ) - (1 / (48 * t) : ℝ) ^ 2 / 2 ≤ v)
    (high : v ≤ (1 / (48 * t) : ℝ) - (1 / (48 * t) : ℝ) ^ 2 / 2 + (1 / (48 * t) : ℝ) ^ 3 / 4) :
    ⌊(32768 : ℝ) * v⌋ = (6144 * t - 64) / ((9 * t ^ 2 : Nat) : Int) := by
  have htR : (1 : ℝ) ≤ t := by exact_mod_cast ht
  have pos : (0 : ℝ) < t := by linarith
  have lower : (32768 : ℝ) * 9 * t ^ 2 * ((1 / (48 * t) : ℝ) - (1 / (48 * t) : ℝ) ^ 2 / 2) = 6144 * t - 64 := by
    field_simp
    ring
  have upper : (32768 : ℝ) * 9 * t ^ 2 * ((1 / (48 * t) : ℝ) ^ 3 / 4) < 1 := by
    have third : (32768 : ℝ) * 9 * t ^ 2 * ((1 / (48 * t) : ℝ) ^ 3 / 4) = 2 / 3 / t := by
      field_simp
      ring
    rw [third, div_lt_one pos]
    linarith
  have scale : (0 : ℝ) ≤ 32768 * 9 * t ^ 2 := by positivity
  have whole : ⌊(32768 : ℝ) * v * (9 * t ^ 2 : Nat)⌋ = 6144 * t - 64 := by
    rw [Int.floor_eq_iff]
    push_cast
    exact ⟨by nlinarith [mul_le_mul_of_nonneg_left low scale], by nlinarith [mul_le_mul_of_nonneg_left high scale]⟩
  have hm : ((9 * t ^ 2 : Nat) : ℝ) ≠ 0 := by
    have : (9 * t ^ 2 : Nat) ≠ 0 := by positivity
    exact_mod_cast this
  rw [← whole, ← Int.floor_div_natCast, mul_div_assoc, div_self hm, mul_one]

/-- R9: the envelope coefficient of a time in milliseconds. -/
theorem compCoeff_floor {t : Nat} (ht : 1 ≤ t) :
    compCoeff t = max 1 ⌊(32768 : ℝ) * (1 - Real.exp (-1 / (48 * t)))⌋ := by
  have htR : (1 : ℝ) ≤ t := by exact_mod_cast ht
  have hn : 0 < 48 * t := by omega
  obtain ⟨seriesLow, seriesHigh⟩ := series_window hn
  obtain ⟨expLow, expHigh⟩ := one_sub_exp_window (x := 1 / (48 * t)) (by positivity)
    ((div_le_one (by positivity)).2 (by linarith))
  have minus : (-1 / (48 * t) : ℝ) = -(1 / (48 * t)) := by ring
  obtain ⟨pos, -, -⟩ := expTail_range hn 12 2 (by decide)
  have model : compCoeff t = max 1 (32768 * (expTail (48 * t) 2 12).1 / ((expTail (48 * t) 2 12).2 * ((48 * t : Nat) : Int))) := rfl
  obtain ⟨d, hd⟩ := Int.eq_ofNat_of_zero_le (mul_nonneg pos.le (Int.natCast_nonneg (48 * t)))
  have quotient : (32768 * (expTail (48 * t) 2 12).1 / ((expTail (48 * t) 2 12).2 * ((48 * t : Nat) : Int)) : Int) =
      ⌊(32768 : ℝ) * (1 / (48 * t : Nat) * tailOf (48 * t) 2 12)⌋ := by
    have fraction : (32768 : ℝ) * (1 / (48 * t : Nat) * tailOf (48 * t) 2 12) =
        ((32768 * (expTail (48 * t) 2 12).1 : Int) : ℝ) / (d : ℝ) := by
      have dR : (d : ℝ) = (expTail (48 * t) 2 12).2 * (48 * t : Nat) := by exact_mod_cast hd.symm
      rw [dR, tailOf]
      push_cast
      field_simp
    rw [fraction, Int.floor_div_natCast, Int.floor_intCast, hd]
  push_cast at seriesLow seriesHigh
  rw [model, quotient, minus, floor_of_window ht expLow expHigh]
  push_cast
  rw [floor_of_window ht seriesLow seriesHigh]
  push_cast
  rfl

end Sys2Proof.Frame
end

section
/-! The arithmetic of the other slot types (R7, R8, R10 to R16): gate, convolution, bands, LFO and tap, line. -/

namespace Sys2Proof.Frame

open Sys2Proof Sys2Proof.Machine

/-! ## The AMP's sample and the run over a frame (R31) -/

theorem ampStep_eq (c : AmpCtl) (t : List Int) (b : List Biquad) (hl hr : List BiqHist) (e : Int) (x : Stereo) :
    let l := biquadChain b hl (ampShape t (ampPre c.pre x.1))
    let r := biquadChain b hr (ampShape t (ampPre c.pre x.2))
    let p := max |l.2| |r.2|
    let g := max 8192 (32768 - c.depth * e / 134217728)
    ampStep c t b (hl, hr, e) x =
      ((l.1, r.1, e + (p - e) * (if e < p then c.attack else c.release) / 32768),
        (l.2 * g / 32768 * c.level / 32768, r.2 * g / 32768 * c.level / 32768)) := by
  intro l r p
  have hp : peakOf (l.2, r.2) = p := peakOf_eq _
  rw [← hp]
  rfl

theorem runSamples_cons {σ : Type} (f : σ → Stereo → σ × Stereo) (s : σ) (x : Stereo) (xs : List Stereo) :
    runSamples f s (x :: xs) = ((runSamples f (f s x).1 xs).1, (f s x).2 :: (runSamples f (f s x).1 xs).2) := rfl

/-- A step whose output is a function of another step's output gives that function of its outputs. -/
theorem runSamples_map {σ : Type} (f : σ → Stereo → σ × Stereo) (g : Stereo → Stereo) (xs : List Stereo) : ∀ s : σ,
    runSamples (fun s x => ((f s x).1, g (f s x).2)) s xs = ((runSamples f s xs).1, (runSamples f s xs).2.map g) := by
  induction xs with
  | nil => exact fun _ => rfl
  | cons x xs ih =>
    intro s
    rw [runSamples_cons, runSamples_cons, ih]
    rfl

/-! ## GATE (R8) -/

theorem gateCompare_reached {level release peak : Int} (g : Ramp) (h : level * 4096 ≤ peak) :
    gateCompare level release g peak .open = (g, .open) ∧
      ∀ st, st ≠ .open → gateCompare level release g peak st = (⟨g.cur, 32768, 1⟩, .open) := by
  refine ⟨?_, fun st hst => ?_⟩
  · rw [gateCompare, if_pos h, if_pos rfl]
  · rw [gateCompare, if_pos h, if_neg hst]
    rfl

theorem gateCompare_below {level release peak : Int} (g : Ramp) (h : peak < level * 4096) :
    gateCompare level release g peak .open = (⟨g.cur, 0, max 1 (release * 3 / 2).toNat⟩, .closing) ∧
      ∀ st, st ≠ .open → gateCompare level release g peak st = (g, st) := by
  have miss : ¬ level * 4096 ≤ peak := by omega
  refine ⟨?_, fun st hst => ?_⟩
  · rw [gateCompare, if_neg miss, if_pos rfl]
    rfl
  · rw [gateCompare, if_neg miss, if_neg hst]

theorem peak_foldl (xs : List Stereo) : ∀ m : Int,
    m ≤ xs.foldl (fun m x => max m (peakOf x)) m ∧ (∀ x ∈ xs, peakOf x ≤ xs.foldl (fun m x => max m (peakOf x)) m) ∧
      (xs.foldl (fun m x => max m (peakOf x)) m = m ∨ ∃ x ∈ xs, xs.foldl (fun m x => max m (peakOf x)) m = peakOf x) := by
  induction xs with
  | nil => exact fun m => ⟨le_rfl, by simp, .inl rfl⟩
  | cons x xs ih =>
    intro m
    obtain ⟨grows, covers, attained⟩ := ih (max m (peakOf x))
    refine ⟨(le_max_left ..).trans grows, List.forall_mem_cons.2 ⟨(le_max_right ..).trans grows, covers⟩, ?_⟩
    rw [List.foldl_cons]
    rcases attained with start | ⟨y, hy, at_y⟩
    · rcases max_choice m (peakOf x) with h | h
      · exact .inl (start.trans h)
      · exact .inr ⟨x, List.mem_cons_self, start.trans h⟩
    · exact .inr ⟨y, List.mem_cons_of_mem _ hy, at_y⟩

/-- The peak of a frame covers every sample, and is one of them. -/
theorem peak_of_frame (xs : List Stereo) : let m := xs.foldl (fun m x => max m (peakOf x)) 0
    (∀ x ∈ xs, |x.1| ≤ m ∧ |x.2| ≤ m) ∧ (m = 0 ∨ ∃ x ∈ xs, m = |x.1| ∨ m = |x.2|) := by
  intro m
  obtain ⟨-, covers, attained⟩ := peak_foldl xs 0
  refine ⟨fun x hx => ?_, attained.imp_right fun ⟨x, hx, at_x⟩ => ⟨x, hx, ?_⟩⟩
  · have := covers x hx
    rw [peakOf_eq] at this
    exact max_le_iff.1 this
  · rw [peakOf_eq] at at_x
    exact (max_choice |x.1| |x.2|).imp at_x.trans at_x.trans

/-! ## CAB (R10) -/

theorem dot_eq_sum : ∀ c v : List Int, dot c v = (List.zipWith (· * ·) c v).sum
  | [], _ => rfl
  | _ :: _, [] => rfl
  | a :: as, b :: bs => by rw [dot, List.zipWith_cons_cons, List.sum_cons, dot_eq_sum as bs]

theorem cabStep_eq (n : Nat) (h : List Int × List Int) (hist : List Stereo) (x : Stereo) :
    let w := x :: hist
    let conv := fun (c : List Int) (v : List Int) =>
      let q := (List.zipWith (· * ·) c v).sum / 1073741824
      if q < -2147483648 then -2147483648 else if 2147483647 < q then 2147483647 else q
    cabStep n h hist x = (w.take (n - 1), (conv h.1 (w.map (·.1)), conv h.2 (w.map (·.2)))) := by
  intro w conv
  have conv_eq : ∀ c v : List Int, sat32 (floorDiv (dot c v) 1073741824) = conv c v := fun c v => by
    rw [sat32_ite, dot_eq_sum]
    rfl
  rw [← conv_eq, ← conv_eq]
  rfl

/-- The words of a block are the words read. -/
theorem dramBlock_getElem {d : List (Nat × Word32)} (hd : dramWf d = true) {lo n k : Nat} (hk : k < n) :
    (dramBlock d lo n)[k]? = some (dramRead d (lo + k)) := by
  have inside : (decide (lo ≤ lo + k) && decide (lo + k < lo + n)) = true := by simp [hk]
  have slice : dramRead (dramSlice d lo (lo + n)) (lo + k) = dramRead d (lo + k) := by
    rw [dramSlice, dramRead_filter (fun a => decide (lo ≤ a) && decide (a < lo + n)) d (lo + k) hd, if_pos inside]
  simp [dramBlock, hk, slice]

theorem areaAddr_start (a : Nat) : areaAddr a 0 = a * 262144 := Nat.add_zero _

theorem imageTaps_getElem {dram : List (Nat × Word32)} (hd : dramWf dram = true) (a taps n k : Nat) :
    let h := imageTaps dram a taps n
    (k < min taps n → h.1[k]? = some (dramRead dram (a * 262144 + 2 * k)).toInt ∧
      h.2[k]? = some (dramRead dram (a * 262144 + 2 * k + 1)).toInt) ∧
    (min taps n ≤ k → h.1[k]? = none ∧ h.2[k]? = none) := by
  intro h
  have word : ∀ j, j < 2 * min taps n →
      ((dramBlock dram (areaAddr a 0) (2 * min taps n)).map BitVec.toInt).getD j 0 =
        (dramRead dram (a * 262144 + j)).toInt := fun j hj => by
    rw [List.getD_eq_getElem?_getD, List.getElem?_map, dramBlock_getElem hd hj, areaAddr_start, Option.map_some,
      Option.getD_some]
  refine ⟨fun hk => ⟨?_, ?_⟩, fun hk => ⟨?_, ?_⟩⟩
  · simp only [h, imageTaps, List.getElem?_map, List.getElem?_range hk, Option.map_some]
    rw [word _ (by omega)]
  · simp only [h, imageTaps, List.getElem?_map, List.getElem?_range hk, Option.map_some]
    rw [word _ (by omega), add_assoc]
  · exact List.getElem?_eq_none (by simpa [h, imageTaps] using hk)
  · exact List.getElem?_eq_none (by simpa [h, imageTaps] using hk)

/-! ## EQ (R11) -/

theorem eqBands_getElem (p : List Int) {b : Nat} (hb : b < 4) :
    let c := fun (k : Nat) => p.getD (5 * b + k) 0 * 65536
    (eqBands p)[b]? = some ⟨c 0, c 1, c 2, c 3, c 4⟩ := by
  rw [eqBands, List.getElem?_map, List.getElem?_range hb]
  rfl

theorem eqBands_unity {p : List Int} {b : Nat} (hb : b < 4) (one : p.getD (5 * b) 0 = 16384)
    (rest : ∀ k, 1 ≤ k → k ≤ 4 → p.getD (5 * b + k) 0 = 0) : (eqBands p)[b]? = some unityBiquad := by
  rw [eqBands_getElem p hb]
  dsimp only
  rw [add_zero, one, rest 1 (by decide) (by decide), rest 2 (by decide) (by decide),
    rest 3 (by decide) (by decide), rest 4 (by decide) (by decide)]
  rfl

/-! ## MOD (R12) -/

theorem lfoValue_facts {f : Frac} (h : f.num < f.den) :
    (2 * f.num < f.den → lfoValue f = 65536 * f.num / f.den) ∧
    (f.den ≤ 2 * f.num → lfoValue f = 65536 * (f.den - f.num) / f.den) ∧ lfoValue f ≤ 32768 := by
  refine ⟨fun rising => if_pos rising, fun falling => if_neg (by omega), ?_⟩
  unfold lfoValue
  split
  · exact Nat.div_le_of_le_mul (by omega)
  · exact Nat.div_le_of_le_mul (by omega)

/-- Lowest terms of a proper fraction: proper, and of the same value. -/
theorem fracNorm_facts {n d : Nat} (h : n < d) :
    (fracNorm ⟨n, d⟩).num < (fracNorm ⟨n, d⟩).den ∧ (fracNorm ⟨n, d⟩).num * d = n * (fracNorm ⟨n, d⟩).den := by
  have gpos : 0 < Nat.gcd n d := Nat.gcd_pos_of_pos_right _ (by omega)
  have norm : fracNorm ⟨n, d⟩ = ⟨n / Nat.gcd n d, d / Nat.gcd n d⟩ := by
    rw [fracNorm, max_eq_right (show 1 ≤ Nat.gcd n d from gpos)]
  obtain ⟨a, ha⟩ := Nat.gcd_dvd_left n d
  obtain ⟨b, hb⟩ := Nat.gcd_dvd_right n d
  rw [norm]
  generalize Nat.gcd n d = g at gpos ha hb
  subst ha hb
  rw [Nat.mul_div_cancel_left _ gpos, Nat.mul_div_cancel_left _ gpos]
  exact ⟨Nat.lt_of_mul_lt_mul_left h, by ring⟩

theorem fracAdd_facts {a b : Frac} (ha : 0 < a.den) (hb : 0 < b.den) : let c := fracAdd a b
    c.num < c.den ∧ c.num * (a.den * b.den) = (a.num * b.den + b.num * a.den) % (a.den * b.den) * c.den := by
  have pos : 0 < a.den * b.den := Nat.mul_pos ha hb
  have sum : fracAdd a b = fracNorm ⟨(a.num * b.den + b.num * a.den) % (a.den * b.den), a.den * b.den⟩ := by
    rw [fracAdd, max_eq_right (show 1 ≤ a.den * b.den from pos)]
  rw [sum]
  exact fracNorm_facts (Nat.mod_lt _ pos)

theorem chorusTap_facts (depth v : Nat) : let n := 3 * depth * v
    61440 + n / 40 ≤ chorusTap depth v ∧ chorusTap depth v ≤ 61440 + n / 40 + 1 ∧
    (n % 40 = 0 → chorusTap depth v = 61440 + n / 40) ∧
    (depth ≤ 100 → v ≤ 32768 → 240 * 256 ≤ chorusTap depth v ∧ chorusTap depth v ≤ 1200 * 256) := by
  intro n
  have tap : chorusTap depth v = 61440 + n / 40 + (if n % 40 ≠ 0 ∧ Config.chorusTapUp n 40 then 1 else 0) := rfl
  have top : depth ≤ 100 → v ≤ 32768 → n ≤ 9830400 := fun hd hv => by
    calc n = 3 * (depth * v) := mul_assoc ..
      _ ≤ 3 * (100 * 32768) := Nat.mul_le_mul_left 3 (Nat.mul_le_mul hd hv)
  rw [tap]
  split
  · next up => exact ⟨by omega, by omega, fun whole => absurd whole up.1, fun hd hv => by have := top hd hv; omega⟩
  · exact ⟨by omega, by omega, fun _ => rfl, fun hd hv => by have := top hd hv; omega⟩

theorem chorusLerp_facts {f : Nat} (a b : Int) (hf : f < 256) : let n := a * (256 - (f : Int)) + b * (f : Int)
    n / 256 ≤ chorusLerp f a b ∧ chorusLerp f a b ≤ n / 256 + 1 ∧ (n % 256 = 0 → chorusLerp f a b = n / 256) := by
  intro n
  have rest : ((256 - f : Nat) : Int) = 256 - (f : Int) := by omega
  have lerp : chorusLerp f a b = n / 256 + (if n % 256 ≠ 0 ∧ Config.chorusSampleUp n then 1 else 0) := by
    rw [chorusLerp, rest]
    rfl
  rw [lerp]
  split
  · next up => exact ⟨by omega, by omega, fun whole => absurd whole up.1⟩
  · exact ⟨by omega, by omega, fun _ => by omega⟩

/-! ## DELAY and its line (R13, R14) -/

theorem delayStep_eq (c : DelayCtl) (dram : List (Nat × Word32)) (w : Nat) (x : Stereo) :
    let len := lineLen c.areas
    let r := delayRead c dram w
    let line := fun (x r : Int) =>
      let v := x * c.feed / 32768 + r * c.feedback / 32768
      if v < -2147483648 then -2147483648 else if 2147483647 < v then 2147483647 else v
    delayStep c (dram, w) x =
      ((lineWrite dram c.areas w (line x.1 r.1, line x.2 r.2), (w + 1) % len),
        (r.1 * c.mix / 32768, r.2 * c.mix / 32768)) := by
  intro len r line
  have line_eq : ∀ x r : Int, sat32 (mulQ15 x c.feed + mulQ15 r c.feedback) = line x r := fun x r => sat32_ite _
  rw [← line_eq, ← line_eq]
  rfl

theorem delayRead_one {c : DelayCtl} (dram : List (Nat × Word32)) (w : Nat) (h : c.next = none) :
    delayRead c dram w = lineRead dram c.areas ((w + lineLen c.areas - c.d) % lineLen c.areas) := by
  rw [delayRead, h]

theorem delayRead_two {c : DelayCtl} (dram : List (Nat × Word32)) (w : Nat) {n : Nat} (h : c.next = some n) :
    let tap := fun (d : Nat) => lineRead dram c.areas ((w + lineLen c.areas - d) % lineLen c.areas)
    let fade := fun (a b : Int) => a * (32768 - c.fade) / 32768 + b * c.fade / 32768
    delayRead c dram w = (fade (tap c.d).1 (tap n).1, fade (tap c.d).2 (tap n).2) := by
  rw [delayRead, h]
  rfl

/-- Every sample of a line has an even address of its own. -/
theorem lineAddr_facts {areas : List Nat} (h : (∃ a, areas = [a]) ∨ ∃ a b, areas = [a, b] ∧ a ≠ b) {j k : Nat}
    (hj : j < lineLen areas) (hk : k < lineLen areas) :
    lineAddr areas j % 2 = 0 ∧ (lineAddr areas j = lineAddr areas k → j = k) := by
  have addr : ∀ i, lineAddr areas i =
      if i < 131072 then areas.getD 0 0 * 262144 + 2 * i else areas.getD 1 0 * 262144 + 2 * (i - 131072) := fun _ => rfl
  rw [addr, addr]
  rcases h with ⟨a, rfl⟩ | ⟨a, b, rfl, hab⟩
  · have hj' : j < 131072 := hj
    have hk' : k < 131072 := hk
    rw [if_pos hj', if_pos hk']
    exact ⟨by omega, by omega⟩
  · have hj' : j < 262144 := hj
    have hk' : k < 262144 := hk
    simp only [List.getD_cons_zero, List.getD_cons_succ]
    refine ⟨?_, ?_⟩
    · split <;> omega
    · split <;> split <;> omega

theorem toInt_word {x : Int} (lo : -2147483648 ≤ x) (hi : x ≤ 2147483647) : (BitVec.ofInt 32 x).toInt = x := by
  rw [BitVec.toInt_ofInt]
  exact Int.bmod_eq_of_le (by omega) (by omega)

theorem lineWrite_facts {dram : List (Nat × Word32)} {areas : List Nat} {j k : Nat} {x : Stereo} (hd : dramWf dram = true)
    (h : (∃ a, areas = [a]) ∨ ∃ a b, areas = [a, b] ∧ a ≠ b) (hj : j < lineLen areas) (hk : k < lineLen areas)
    (lo1 : -2147483648 ≤ x.1) (hi1 : x.1 ≤ 2147483647) (lo2 : -2147483648 ≤ x.2) (hi2 : x.2 ≤ 2147483647) :
    lineRead (lineWrite dram areas j x) areas j = x ∧
      (j ≠ k → lineRead (lineWrite dram areas j x) areas k = lineRead dram areas k) := by
  obtain ⟨evenJ, only⟩ := lineAddr_facts h hj hk
  obtain ⟨evenK, -⟩ := lineAddr_facts h hk hj
  have read : ∀ a, dramRead (lineWrite dram areas j x) a =
      if a = lineAddr areas j + 1 then BitVec.ofInt 32 x.2
      else if a = lineAddr areas j then BitVec.ofInt 32 x.1 else dramRead dram a := fun a => by
    rw [lineWrite, dramRead_dramWrite _ _ _ _ (dramWf_dramWrite _ _ _ hd), dramRead_dramWrite _ _ _ _ hd]
  refine ⟨?_, fun other => ?_⟩
  · rw [lineRead, read, read, if_neg (by omega), if_pos rfl, if_pos rfl, toInt_word lo1 hi1, toInt_word lo2 hi2]
  · have apart : lineAddr areas j ≠ lineAddr areas k := fun same => other (only same)
    rw [lineRead, lineRead, read, read, if_neg (by omega), if_neg (by omega), if_neg (by omega), if_neg (by omega)]

end Sys2Proof.Frame
end

section
/-! What running one slot unit over a frame gives, type by type (R4, R7 to R16, R31); the obligation about the AMP and the other
slot types. -/

namespace Sys2Proof.Frame

open Sys2Proof Sys2Proof.Machine

/-! ## The slot output (R4, R7) -/

theorem runInst_frozen {env : FrameEnv} {dram : List (Nat × Word32)} {free : Nat} {i : Inst} {xs : List Stereo}
    (line : ¬ holdsLine i.stype = true) (h : i.weight.cur = 0) :
    runInst env dram free i xs = ⟨xs.map fun x => (sat32 x.1, sat32 x.2), i, dram, free, none⟩ := by
  rw [runInst, if_neg line, if_pos h]
  rfl

theorem runInst_mixed {env : FrameEnv} {dram : List (Nat × Word32)} {free : Nat} {i : Inst} {xs : List Stereo}
    (line : ¬ holdsLine i.stype = true) (h : i.weight.cur ≠ 0) :
    runInst env dram free i xs =
      ⟨List.zipWith (bypassMix i.weight.cur) xs (runWet env dram i xs).1, { i with proc := (runWet env dram i xs).2 }, dram, free,
        if i.stype = .loop then some (xs.map (stereo portOut)) else none⟩ := by
  rw [runInst, if_neg line, if_neg h]

theorem runInst_line {env : FrameEnv} {dram : List (Nat × Word32)} {free : Nat} {i : Inst} {xs : List Stereo}
    (line : holdsLine i.stype = true) :
    runInst env dram free i xs =
      { runLine dram free i xs with
        out := List.zipWith (stereo2 fun x y => sat32 (x + y)) xs (runLine dram free i xs).out } := by
  rw [runInst, if_pos line]

/-! ## The lines (R13, R15) -/

theorem runLine_delay {dram : List (Nat × Word32)} {free : Nat} {i : Inst} {xs : List Stereo} {wp d : Nat}
    {next held synced : Option Nat} {fade : Ramp} {clamped : Bool} (h : i.proc = .delay wp d next held synced fade clamped) :
    let o := runSamples (delayStep ⟨i.areas, d, next, fade.cur, i.weight.cur, parCur i 3, parCur i 4⟩) (dram, wp) xs
    runLine dram free i xs =
      ⟨o.2, { i with proc := .delay o.1.2 d next held synced fade clamped }, o.1.1, free, none⟩ := by
  rw [runLine, h]

theorem runLine_reverb {dram : List (Nat × Word32)} {free : Nat} {i : Inst} {xs : List Stereo} {size : Int}
    {next held : Option Int} {fade : Ramp} (h : i.proc = .reverb size next held fade) :
    let o := runSamples (reverbStep (parCur i 3)) free xs
    runLine dram free i xs = ⟨o.2, i, dram, o.1, none⟩ := by
  rw [runLine, h]

/-! ## The wet outputs (R8 to R12, R16, R31) -/

section
variable {env : FrameEnv} {dram : List (Nat × Word32)} {i : Inst} {xs : List Stereo}

theorem runWet_gate {g : Ramp} {peak : Int} {st : GateState} (h : i.proc = .gate g peak st) :
    runWet env dram i xs = (xs.map fun x => (x.1 * g.cur / 32768, x.2 * g.cur / 32768),
      .gate g (xs.foldl (fun m x => max m (peakOf x)) 0) st) := by
  rw [runWet, h]
  rfl

theorem runWet_comp {e a r : Int} (h : i.proc = .comp e a r) :
    let o := runSamples (compStep (parCur i 0 * 4096) (parCur i 1) a r (parCur i 4)) e xs
    runWet env dram i xs = (o.2, .comp o.1 a r) := by
  rw [runWet, h]

theorem runWet_amp {t : List Int} {sets co : List Biquad} {hl hr : List BiqHist} {e : Int} (h : i.proc = .amp t sets co hl hr e) :
    let o := runSamples (ampStep ⟨parCur i 0, parCur i 4, parCur i 5, parCur i 6, parCur i 7⟩ t co) (hl, hr, e) xs
    runWet env dram i xs = (o.2, .amp t sets co o.1.1 o.1.2.1 o.1.2.2) := by
  rw [runWet, h]

theorem runWet_cab {a taps : Nat} {miss : Bool} {hist : List Stereo} {g : Ramp} {ph : ResolvePhase}
    (h : i.proc = .cab (some (a, taps)) miss hist g ph) :
    let o := runSamples (cabStep (classTaps i.lclass) (imageTaps dram a taps (classTaps i.lclass))) hist xs
    runWet env dram i xs =
      (o.2.map (stereo fun v => mulQ15 (mulQ15 v (parCur i 1)) g.cur), .cab (some (a, taps)) miss o.1 g ph) := by
  rw [runWet, h]

theorem runWet_cab_none {miss : Bool} {hist : List Stereo} {g : Ramp} {ph : ResolvePhase} (h : i.proc = .cab none miss hist g ph) :
    runWet env dram i xs = (xs.map fun x => (x.1 * g.cur / 32768, x.2 * g.cur / 32768),
      .cab none miss ((xs.reverse ++ hist).take (classTaps i.lclass - 1)) g ph) := by
  rw [runWet, h]
  rfl

/-- The filters of an EQ over both channels, without the output level. -/
def eqSample (bands : List Biquad) (h : List BiqHist × List BiqHist) (x : Stereo) : (List BiqHist × List BiqHist) × Stereo :=
  (((biquadChain bands h.1 x.1).1, (biquadChain bands h.2 x.2).1), ((biquadChain bands h.1 x.1).2, (biquadChain bands h.2 x.2).2))

theorem runWet_eq {hl hr : List BiqHist} (h : i.proc = .eq hl hr) :
    let o := runSamples (eqSample (eqBands (i.params.map (·.cur)))) (hl, hr) xs
    runWet env dram i xs = (o.2.map fun x => (x.1 * parCur i 20 / 32768, x.2 * parCur i 20 / 32768), .eq o.1.1 o.1.2) := by
  intro o
  have levelled := runSamples_map (eqSample (eqBands (i.params.map (·.cur))))
    (fun x => (x.1 * parCur i 20 / 32768, x.2 * parCur i 20 / 32768)) xs (hl, hr)
  have run : runWet env dram i xs =
      let q := runSamples (fun s x => ((eqSample (eqBands (i.params.map (·.cur))) s x).1,
        (fun x : Stereo => (x.1 * parCur i 20 / 32768, x.2 * parCur i 20 / 32768))
          (eqSample (eqBands (i.params.map (·.cur))) s x).2)) (hl, hr) xs
      (q.2, .eq q.1.1 q.1.2) := by
    rw [runWet, h]
    rfl
  rw [run, levelled]

theorem runWet_mod_free {ph : Frac} {buf : List Stereo} (h : i.proc = .mod ph buf) (free : parCur i 3 ≠ 1) :
    let o := runSamples (modStep ⟨decide (parCur i 0 = 1), (parCur i 1).toNat, parCur i 5, ⟨(parCur i 2).toNat, 4800000⟩⟩)
      (ph, buf) xs
    runWet env dram i xs = (o.2, .mod o.1.1 o.1.2) := by
  rw [runWet, h]
  simp only [if_neg free]

theorem runWet_mod_synced {ph : Frac} {buf : List Stereo} (h : i.proc = .mod ph buf) (sync : parCur i 3 = 1) :
    let dn := (division (parCur i 4)).1
    let dd := (division (parCur i 4)).2
    let o := runSamples (modStep ⟨decide (parCur i 0 = 1), (parCur i 1).toNat, parCur i 5, ⟨256 * dd, env.beat * dn⟩⟩)
      (fracNorm ⟨env.phase.num * dd % (env.phase.den * dn), env.phase.den * dn⟩, buf) xs
    runWet env dram i xs = (o.2, .mod o.1.1 o.1.2) := by
  rw [runWet, h]
  simp only [if_pos sync]

theorem runWet_loop {ret : List Stereo} (h : i.proc = .loop ret) :
    let m := parCur i 0
    let mix := fun (x r : Int) => x * (32768 - m) / 32768 + r * m / 32768
    runWet env dram i xs = (List.zipWith (fun x r => (mix x.1 r.1, mix x.2 r.2)) xs ret, .loop env.ret) := by
  rw [runWet, h]
  rfl

theorem runWet_volume (h : i.proc = .volume) :
    runWet env dram i xs = (xs.map fun x => (x.1 * parCur i 0 / 32768, x.2 * parCur i 0 / 32768), .volume) := by
  rw [runWet, h]
  rfl

end

theorem division_pos (v : Int) : 0 < (division v).1 ∧ 0 < (division v).2 := by
  unfold division
  split <;> decide

/-! ## The obligation -/

/-- Settles O18: each stage's equation as stated above, with the bounds that follow from its floors. -/
theorem ampShaperInterpolates : Obligations.AmpShaperInterpolates := by
  unfold Obligations.AmpShaperInterpolates
  refine ⟨ampPre_ite, fun x => ?_, fun x lo hi => ampPre_unity lo hi, by decide, fun y x h33 hy lo hi => ?_,
    fun sets f m hm => ampTone_quarter sets f hm, fun sets f k hk => ⟨ampTone_eq sets f k, ampTone_between hk⟩,
    fun c h x => ⟨biquadStep_ite c h x, biquadStep_unity h⟩, fun c d e h i j x => rfl,
    fun depth e hd he => ⟨(sagGain_bounds hd he).1, (sagGain_bounds hd he).2, sagGain_zero e⟩,
    fun a r e p ha1 ha2 hr1 hr2 => sagStep_bounds ⟨ha1, ha2⟩ ⟨hr1, hr2⟩ e p, ampStep_eq,
    fun σ f s x xs => ⟨rfl, runSamples_cons f s x xs⟩, fun x => ⟨mul_comm .., portOut_ite x⟩,
    fun level release peak g => ⟨gateCompare_reached g, gateCompare_below g⟩, compStep_eq,
    fun t e r h => compGain_unity h, fun t e r => compGain_floor, fun t ht _ => compCoeff_floor ht, cabStep_eq,
    fun dram a taps n k hd => imageTaps_getElem hd a taps n k,
    fun p b hb => ⟨eqBands_getElem p hb, rfl, eqBands_unity hb⟩, fun f => lfoValue_facts, fun a b => fracAdd_facts,
    chorusTap_facts, fun f a b => chorusLerp_facts a b, fun c ph buf x => ⟨fun h => ?_, fun h => ?_⟩,
    fun c dram w x => ⟨delayRead_one dram w, fun n => delayRead_two dram w, delayStep_eq c dram w x⟩,
    fun dram areas j k x hd h hj hk lo1 hi1 lo2 hi2 =>
      ⟨dramWf_lineWrite dram areas j x hd, lineWrite_facts hd h hj hk lo1 hi1 lo2 hi2⟩, fun mix k x => rfl,
    fun env dram free i xs => ?_⟩
  · rw [ampPre_ite, mul_zero]
    rfl
  · obtain ⟨seg, low, high⟩ := ampShape_facts h33 hy lo hi
    obtain ⟨up, down⟩ := ampShape_between (y := y) lo
    exact ⟨seg, ampShape_eq lo, up, down, low, high⟩
  · rw [modStep, if_neg (by rw [h]; decide)]
    rfl
  · rw [modStep, if_pos h]
    rfl
  intro scaled sat w mixed wet n
  have hsat : sat32 = sat := funext sat32_ite
  have hport : (stereo portOut) = fun x => (portOut x.1, portOut x.2) := rfl
  have hmix : bypassMix w = fun x y => (mixed x.1 y.1, mixed x.2 y.2) := by
    show bypassMix w = fun x y => (sat (y.1 * w / 32768 + x.1 * (32768 - w) / 32768),
      sat (y.2 * w / 32768 + x.2 * (32768 - w) / 32768))
    rw [← hsat]
    rfl
  refine ⟨fun notDelay notReverb => ?_, fun line => ?_, fun wp d next held synced fade clamped h => runLine_delay h,
    fun size next held fade h => runLine_reverb h, fun g peak st h => ⟨_, runWet_gate h, peak_of_frame xs⟩,
    fun e a r h => runWet_comp h, fun t sets co hl hr e h => runWet_amp h, fun a taps miss hist g ph h => ?_,
    fun miss hist g ph h => runWet_cab_none h, fun hl hr h => runWet_eq h, fun ph buf h => ?_, fun ret h => runWet_loop h,
    fun h => runWet_volume h⟩
  · have line : ¬ holdsLine i.stype = true := fun h => ((holdsLine_iff _).1 h).elim notDelay notReverb
    refine ⟨fun zero => ?_, fun part => ?_⟩
    · rw [runInst_frozen line zero, hsat]
    · rw [runInst_mixed line part, hport, ← hmix]
  · intro o
    rw [runInst_line ((holdsLine_iff _).2 line), hsat]
    rfl
  · intro o
    have both : scaled g.cur (scaled (parCur i 1) o.2) =
        o.2.map (stereo fun v => mulQ15 (mulQ15 v (parCur i 1)) g.cur) := List.map_map ..
    rw [both]
    exact runWet_cab h
  · obtain ⟨dnPos, ddPos⟩ := division_pos (parCur i 4)
    intro dn dd run
    refine ⟨fun free => runWet_mod_free h free, fun sync beat => ⟨_, runWet_mod_synced h sync, ?_⟩⟩
    exact fracNorm_facts (Nat.mod_lt _ (Nat.mul_pos beat dnPos))

end Sys2Proof.Frame
end
